-- ==== Sys2Proof/Word.lean ====
section
/-! DEFINITION. The words of the LP20: bytes of a link frame, pin sets and sets of order positions. -/
namespace Sys2Proof

/-- One byte of a link frame (R196). -/
abbrev Byte := BitVec 8

/-- A pin set: bit p - 1 stands for pin p (R196). -/
abbrev Pins := BitVec 10

/-- A set of order positions 1 to 8: bit p - 1 stands for position p (R167). -/
abbrev Positions := BitVec 8

/-- A text: its characters, one byte each (R196). -/
abbrev Name := List Byte

/-- All ten pins. -/
def allPins : Pins := 1023#10

/-- The byte of a number below 256. -/
def byte (n : Nat) : Byte := BitVec.ofNat 8 n

/-- A counter that saturates at 65535. -/
def satInc (n : Nat) : Nat := if n < 65535 then n + 1 else 65535

/-- A counter that wraps from 65535 to 0. -/
def wrapInc (n : Nat) : Nat := (n + 1) % 65536

end Sys2Proof
end

