-- ==== Sys2Proof/Syntax.lean ====
section
/-! DEFINITION. The commands of the LP20: one constructor of `Instr` for each row of spec/opcode_table.json.
A request's fields are the raw numbers its frame carries, so that a value out of range reaches the check that refuses it. -/
namespace Sys2Proof

/-- The two lanes of the pair (00_scope.md, Conventions). -/
inductive Lane | left | right
deriving DecidableEq, Repr, Inhabited

/-- The three links; the port fixes the access class (R186). -/
inductive Link | desk | service | console
deriving DecidableEq, Repr, Inhabited

/-- The two group slots, G1 and G2 (R88). -/
inductive Slot | g1 | g2
deriving DecidableEq, Repr, Inhabited

/-- The six machine steps (00_scope.md, Terms: step). -/
inductive StepKind | guardDown | pick | sweep | respot | setFull | guardUp
deriving DecidableEq, Repr, Inhabited

/-- The causes a FAULT completion can carry (03_pinsetter_control.md, Completions). -/
inductive CompletionFault | jam | motor | table | guard
deriving DecidableEq, Repr, Inhabited

/-- A request's tag, 0 to 15 (R187). -/
abbrev Tag := BitVec 4

/-- One bowler as create-group and add-bowler give it: name, average or none, handicap mode code, fixed value or absent (R89, R91). -/
structure BowlerSpec where
  name    : Name
  average : Option Nat
  mode    : Nat
  fixed   : Option Nat
deriving DecidableEq, Repr

/-- The changes of an edit-line request, each present or absent (R133). The average change is `some none` when it is made absent. -/
structure LineChanges where
  name     : Option Name
  average  : Option (Option Nat)
  handicap : Option (Nat × Option Nat)
  position : Option Nat
  withdraw : Bool
deriving DecidableEq, Repr

/-- One band of the rate table as set-rates carries it (R161). -/
structure Band where
  start  : Nat
  price  : Nat
  hourly : Nat
deriving DecidableEq, Repr

/-- A completed-game entry: game number, scratch total, handicap (R102). -/
structure GameEntry where
  game     : Nat
  scratch  : Nat
  handicap : Nat
deriving DecidableEq, Repr

/-- One ball of a frames entry: count, foul, split, source code, pins up and standing as they are carried in 16 bits,
absent when every bit is set (R174, R196). -/
structure EntryBall where
  count    : Nat
  foul     : Bool
  split    : Bool
  source   : Nat
  pinsUp   : Option Nat
  standing : Option Nat
deriving DecidableEq, Repr

/-- One frame record of a frames entry (R174). -/
structure EntryFrame where
  number : Nat
  missed : Bool
  balls  : List EntryBall
deriving DecidableEq, Repr

/-- What one transfer entry carries (R174). `malformed` is content that does not read as its kind: it is staged
unexamined (R178) and fails the checks of load-end (R180). -/
inductive EntryContent
  | header (name : Name) (playMode : Nat) (game : Option Nat) (inProgress : Bool) (frame : Nat) (position : Option Nat)
  | line (name : Name) (average : Option Nat) (mode : Nat) (fixed : Option Nat) (status : Nat) (games : List GameEntry)
  | frames (records : List EntryFrame)
  | malformed (kind : Nat) (bytes : List Byte)
deriving DecidableEq, Repr

/-- The sixty requests, in the order of their type numbers 1 to 60 (the table "Rights" of 11_links_messages_and_configuration.md). -/
inductive Request
  | setConfig (item value : Nat) (stepKind : Option Nat)
  | configDone
  | setHandicap (basis percent cap noAverage : Nat)
  | setTime (minute : Nat)
  | setRates (bands : List Band)
  | pairClear
  | openSession (lane mode : Nat) (league autoNext foulDetect meterDisplay : Bool) (overflow allowance : Nat)
  | setSessionFlags (lane : Nat) (league autoNext foulDetect meterDisplay : Bool) (overflow : Nat)
  | closeSession (lane manner : Nat)
  | unlock (lane mode allowance : Nat)
  | readMeter (lane : Nat)
  | approve (entry : Nat)
  | deny (entry : Nat)
  | moveGroup (slot lane : Nat)
  | dismissGroup (slot : Nat)
  | saveGroup (slot : Nat)
  | savePart (slot : Nat) (restart : Bool)
  | loadBegin (transfer slot lane count : Nat)
  | loadPart (transfer : Nat) (entries : List EntryContent)
  | loadEnd (transfer : Nat) (entries : List EntryContent)
  | resumeGroup (slot : Nat)
  | releaseMoved (slot : Nat)
  | createGroup (slot : Nat) (name : Name) (lane : Nat) (bowlers : List BowlerSpec)
  | addBowler (slot : Nat) (bowler : BowlerSpec)
  | setPlayMode (slot mode : Nat)
  | newGame (slot : Nat)
  | readLine (line : Nat)
  | claimLine (line : Nat)
  | releaseLine (line : Nat)
  | editLine (line base : Nat) (changes : LineChanges)
  | correctBall (line game frame ball count : Nat) (foul : Bool) (base : Nat)
  | manualBall (lane count : Nat) (foul : Bool)
  | reRack (lane : Nat)
  | setScoringSource (lane source : Nat)
  | setHighlight (lane : Nat) (positions : List Nat)
  | setSlot (slot lane point : Nat) (enabled : Bool) (baseline : Nat) (high low : Int) (wobble : Bool)
  | setScanMode (mode : Nat)
  | setRunMode (lane mode : Nat)
  | restartHead
  | injectReadings (lane : Nat) (readings : List Nat)
  | armTest (lane pins : Nat)
  | stopMachine (lane : Nat)
  | issueStep (lane step : Nat)
  | clearFault (lane : Nat)
  | resumeMachine (lane choice : Nat)
  | clearReturn (lift left right : Nat) (rack : Option Nat)
  | readLinks
  | readStatus
  | readSensing (lane : Nat)
  | readPinfall (lane : Nat)
  | readMachine (lane : Nat)
  | readReturn
  | readPlay
  | readScores (slot : Nat)
  | readCorrections
  | readRates
  | readFeed (lane : Nat)
  | readTransfer
  | setMask (mask : BitVec 10)
  | linkReset
deriving DecidableEq, Repr

/-- The commands of the part. A request command is a frame that has passed the check of R187 on the link named, with the tag named. -/
inductive Instr
  | powerOn
  /-- A whole frame as it arrives: its two length bytes, type, tag, body and check byte (R187, R196). -/
  | frameReceived (link : Link) (lenHi lenLo kind tag : Byte) (body : List Byte) (check : Byte)
  | frameGapTimeout (link : Link)
  | transmitComplete (link : Link)
  | breakBegin (link : Link)
  | breakEnd (link : Link)
  | setConfig (link : Link) (tag : Tag) (item value : Nat) (stepKind : Option Nat)
  | configDone (link : Link) (tag : Tag)
  | setHandicap (link : Link) (tag : Tag) (basis percent cap noAverage : Nat)
  | setTime (link : Link) (tag : Tag) (minute : Nat)
  | setRates (link : Link) (tag : Tag) (bands : List Band)
  | readRates (link : Link) (tag : Tag)
  | pairClear (link : Link) (tag : Tag)
  | openSession (link : Link) (tag : Tag) (lane mode : Nat) (league autoNext foulDetect meterDisplay : Bool) (overflow allowance : Nat)
  | setSessionFlags (link : Link) (tag : Tag) (lane : Nat) (league autoNext foulDetect meterDisplay : Bool) (overflow : Nat)
  | closeSession (link : Link) (tag : Tag) (lane manner : Nat)
  | unlock (link : Link) (tag : Tag) (lane mode allowance : Nat)
  | readMeter (link : Link) (tag : Tag) (lane : Nat)
  | approve (link : Link) (tag : Tag) (entry : Nat)
  | deny (link : Link) (tag : Tag) (entry : Nat)
  | moveGroup (link : Link) (tag : Tag) (slot lane : Nat)
  | dismissGroup (link : Link) (tag : Tag) (slot : Nat)
  | saveGroup (link : Link) (tag : Tag) (slot : Nat)
  | savePart (link : Link) (tag : Tag) (slot : Nat) (restart : Bool)
  | loadBegin (link : Link) (tag : Tag) (transfer slot lane count : Nat)
  | loadPart (link : Link) (tag : Tag) (transfer : Nat) (entries : List EntryContent)
  | loadEnd (link : Link) (tag : Tag) (transfer : Nat) (entries : List EntryContent)
  | resumeGroup (link : Link) (tag : Tag) (slot : Nat)
  | releaseMoved (link : Link) (tag : Tag) (slot : Nat)
  | createGroup (link : Link) (tag : Tag) (slot : Nat) (name : Name) (lane : Nat) (bowlers : List BowlerSpec)
  | addBowler (link : Link) (tag : Tag) (slot : Nat) (bowler : BowlerSpec)
  | setPlayMode (link : Link) (tag : Tag) (slot mode : Nat)
  | newGame (link : Link) (tag : Tag) (slot : Nat)
  | readLine (link : Link) (tag : Tag) (line : Nat)
  | claimLine (link : Link) (tag : Tag) (line : Nat)
  | releaseLine (link : Link) (tag : Tag) (line : Nat)
  | editLine (link : Link) (tag : Tag) (line base : Nat) (changes : LineChanges)
  | correctBall (link : Link) (tag : Tag) (line game frame ball count : Nat) (foul : Bool) (base : Nat)
  | manualBall (link : Link) (tag : Tag) (lane count : Nat) (foul : Bool)
  | reRack (link : Link) (tag : Tag) (lane : Nat)
  | setScoringSource (link : Link) (tag : Tag) (lane source : Nat)
  | setHighlight (link : Link) (tag : Tag) (lane : Nat) (positions : List Nat)
  | setSlot (link : Link) (tag : Tag) (slot lane point : Nat) (enabled : Bool) (baseline : Nat) (high low : Int) (wobble : Bool)
  | setScanMode (link : Link) (tag : Tag) (mode : Nat)
  | setRunMode (link : Link) (tag : Tag) (lane mode : Nat)
  | restartHead (link : Link) (tag : Tag)
  | injectReadings (link : Link) (tag : Tag) (lane : Nat) (readings : List Nat)
  | armTest (link : Link) (tag : Tag) (lane pins : Nat)
  | stopMachine (link : Link) (tag : Tag) (lane : Nat)
  | issueStep (link : Link) (tag : Tag) (lane step : Nat)
  | clearFault (link : Link) (tag : Tag) (lane : Nat)
  | resumeMachine (link : Link) (tag : Tag) (lane choice : Nat)
  | clearReturn (link : Link) (tag : Tag) (lift left right : Nat) (rack : Option Nat)
  | readLinks (link : Link) (tag : Tag)
  | readStatus (link : Link) (tag : Tag)
  | readSensing (link : Link) (tag : Tag) (lane : Nat)
  | readPinfall (link : Link) (tag : Tag) (lane : Nat)
  | readMachine (link : Link) (tag : Tag) (lane : Nat)
  | readReturn (link : Link) (tag : Tag)
  | readPlay (link : Link) (tag : Tag)
  | readScores (link : Link) (tag : Tag) (slot : Nat)
  | readCorrections (link : Link) (tag : Tag)
  | readFeed (link : Link) (tag : Tag) (lane : Nat)
  | readTransfer (link : Link) (tag : Tag)
  | setMask (link : Link) (tag : Tag) (mask : BitVec 10)
  | linkReset (link : Link) (tag : Tag)
  /-- A camera readout: the number of the scan request it answers and the raw readings of each lane (R11). -/
  | readout (request : Nat) (left right : List Nat)
  /-- The readout timer of the scan in flight for the lane expires (R17). -/
  | readoutTimeout (lane : Lane)
  | warmUpExpiry
  | continuousScanExpiry (lane : Lane)
  | arrival (lane : Lane)
  | foulBreak (lane : Lane)
  | pinActionDelayExpiry (lane : Lane)
  | scanTimerExpiry (lane : Lane)
  | settleWindowExpiry (lane : Lane)
  | foulGraceExpiry (lane : Lane)
  | cycleDelayExpiry (lane : Lane)
  | startTimerExpiry (lane : Lane)
  | done (lane : Lane)
  | redo (lane : Lane)
  | faultCompletion (lane : Lane) (cause : CompletionFault)
  | stepTimerExpiry (lane : Lane)
  | pitDetector (lane : Lane)
  | liftTopSensor
  | rackTake
  | carryTimerExpiry
  /-- The claim timer of the line with this id expires (R131). -/
  | claimTimerExpiry (line : Nat)
  | minuteTimerExpiry
  | gapTimerExpiry
  | rowPull (lane : Lane)
deriving DecidableEq, Repr

end Sys2Proof
end

