-- ==== Sys2Proof/Config.lean ====
section
/-! DEFINITION. What the LP20 fixes for every run (the default configuration values of R192), and the FREE VALUES: values
that the spec gives an effect and does not state. A free value has no body, so nothing can be proved of it. -/
namespace Sys2Proof

/-- The step timeouts, in seconds, one for each step kind (R192). -/
structure StepTimes where
  guardDown : Nat
  pick      : Nat
  sweep     : Nat
  respot    : Nat
  setFull   : Nat
  guardUp   : Nat
deriving DecidableEq, Repr

/-- The configuration values of the pair (R192). Milliseconds are held in units of 10 ms, seconds as seconds. -/
structure Settings where
  /-- lane number of LEFT, or unset; RIGHT is one more -/
  laneNumber     : Option Nat
  warmUp         : Nat
  scanInterval   : Nat
  pinActionDelay : Nat
  settleCount    : Nat
  settleWindow   : Nat
  foulGrace      : Nat
  cycleDelay     : Nat
  startTime      : Nat
  stepTimeouts   : StepTimes
  rackCapacity   : Nat
  carryTimeout   : Nat
  claimExpiry    : Nat
deriving DecidableEq, Repr

/-- The defaults of R192; the lane number has none. -/
def Config.defaults : Settings :=
  { laneNumber := none, warmUp := 200, scanInterval := 5, pinActionDelay := 150, settleCount := 3, settleWindow := 300
    foulGrace := 100, cycleDelay := 80, startTime := 4
    stepTimeouts := { guardDown := 8, pick := 8, sweep := 8, respot := 8, setFull := 8, guardUp := 8 }
    rackCapacity := 12, carryTimeout := 8, claimExpiry := 120 }

/-- FREE VALUE (log 11). The lane field of a ball of a committed transfer, from the group's new home lane, the frame and
the ball: R174 carries no lane and R181 gives none. -/
opaque Config.committedBallLane : Lane → Nat → Nat → Lane

/-- FREE VALUE (log 12). The game price charged when no band is in force, which R150 does not state. -/
opaque Config.unbandedPrice : Nat

/-- FREE VALUE (log 12). The hourly rate metered when no band is in force, which R153 does not state. -/
opaque Config.unbandedHourly : Nat

/-- FREE VALUE (log 50). The pins against which a run's result sets are judged while the pins-up set is UNKNOWN, from its
remaining count: R31 and R33 name none. -/
opaque Config.unknownPins : Nat → Pins

end Sys2Proof
end

