-- ==== Sys2Proof/Machine/State.lean ====
section
/-! DEFINITION. The state of the LP20 as plain data: every register, queue, counter, mode and timer the spec gives its
blocks, the queue of waiting commands, and the state at power-on. -/
namespace Sys2Proof.Machine

/-- A timer: stopped, or running with the length it was started with, in units of 10 ms (log 1). -/
abbrev Timer := Option Nat

/-- One value for each lane. -/
structure PerLane (α : Type) where
  left  : α
  right : α
deriving DecidableEq, Repr

/-- One value for each group slot. -/
structure PerSlot (α : Type) where
  g1 : α
  g2 : α
deriving DecidableEq, Repr

/-- One value for each link. -/
structure PerLink (α : Type) where
  desk    : α
  service : α
  console : α
deriving DecidableEq, Repr

def PerLane.get {α : Type} (p : PerLane α) : Lane → α
  | .left => p.left
  | .right => p.right

def PerLane.set {α : Type} (p : PerLane α) (l : Lane) (a : α) : PerLane α :=
  match l with
  | .left => { p with left := a }
  | .right => { p with right := a }

def PerSlot.get {α : Type} (p : PerSlot α) : Slot → α
  | .g1 => p.g1
  | .g2 => p.g2

def PerSlot.set {α : Type} (p : PerSlot α) (g : Slot) (a : α) : PerSlot α :=
  match g with
  | .g1 => { p with g1 := a }
  | .g2 => { p with g2 := a }

def PerLink.get {α : Type} (p : PerLink α) : Link → α
  | .desk => p.desk
  | .service => p.service
  | .console => p.console

def PerLink.set {α : Type} (p : PerLink α) (k : Link) (a : α) : PerLink α :=
  match k with
  | .desk => { p with desk := a }
  | .service => { p with service := a }
  | .console => { p with console := a }

/-! ### Deck Sensing Unit (01_deck_sensing.md) -/

/-- R1. -/
inductive HeadState | off | standby | warming | active
deriving DecidableEq, Repr

/-- R7. -/
inductive ScanMode | paired | split
deriving DecidableEq, Repr

/-- A sensing point of a deck: pin 1 to 10 as P1 to P10, or a deadwood zone (00_scope.md, Pins). -/
inductive Point
  | pin (p : Fin 10)
  | dl
  | dr
deriving DecidableEq, Repr

/-- R12. -/
inductive PinClass | high | mid | low
deriving DecidableEq, Repr

/-- R13. -/
inductive Side | above | below
deriving DecidableEq, Repr

structure SlotConfig where
  point    : Point
  enabled  : Bool
  baseline : Nat
  high     : Int
  low      : Int
  wobble   : Bool
deriving DecidableEq, Repr

structure SlotObservation where
  raw      : Option Nat
  result   : Option Int
  cls      : Option PinClass
  side     : Option Side
  wobbling : Bool
  count    : Nat
deriving DecidableEq, Repr

structure ScanSlot where
  cfg : SlotConfig
  obs : SlotObservation
deriving DecidableEq, Repr

/-- R19. -/
inductive RunMode | normal | continuous
deriving DecidableEq, Repr

/-- The scan needs waiting on a lane; a check need carries its expected pin set (R8, R16). -/
structure Needs where
  run   : Bool
  check : Option Pins
  cont  : Bool
deriving DecidableEq, Repr

/-- A scan of a lane in flight: the serial number of its request (log 5), the slots asked for, whether the check need was
present when it was requested (R8), whether the lane's readings are to be discarded (R6), and its readout timer (R17).
In PAIRED mode both lanes carry the same serial number (R10). -/
structure Scan where
  serial       : Nat
  length       : Nat
  checkPresent : Bool
  discard      : Bool
  timer        : Timer
deriving DecidableEq, Repr

structure SensingLane where
  slots     : List ScanSlot
  runMode   : RunMode
  fault     : Bool
  needs     : Needs
  scan      : Option Scan
  injection : Option (List Nat)
  contTimer : Timer
deriving DecidableEq, Repr

structure Head where
  state     : HeadState
  mode      : ScanMode
  warmTimer : Timer
deriving DecidableEq, Repr

/-- The class of a point in a result set: UNSENSED when no slot of the prefix names it (R5), else a class and the wobbling
mark of the slot that decides it (R15). -/
abbrev PointClass := Option (PinClass × Bool)

/-- The reading of one slot in a result set (R15). -/
structure SlotReading where
  slot    : Nat
  point   : Point
  raw     : Nat
  result  : Int
  cls     : PinClass
  crossed : Bool
deriving DecidableEq, Repr

/-- R15. `points` holds the classes of P1 to P10, DL and DR in that order. -/
structure ResultSet where
  lane     : Lane
  injected : Bool
  readings : List SlotReading
  points   : List PointClass
  crossed  : Bool
deriving DecidableEq, Repr

/-- R16. -/
inductive CheckOutcome | matched | mismatch | noReading
deriving DecidableEq, Repr

/-! ### Pinfall Decision Unit (02_pinfall_decisions.md) -/

/-- R25. -/
inductive RunState | idle | armed | delay | settling | settled | awaitingEntry | final
deriving DecidableEq, Repr

/-- R42. -/
inductive ScoringSource | auto | manual
deriving DecidableEq, Repr

/-- A pins-up set: a pin set, or UNKNOWN with a remaining count. -/
inductive Deck
  | known (pins : Pins)
  | unknown (remaining : Nat)
deriving DecidableEq, Repr

/-- A line id 1 to 16, held as 0 to 15. -/
abbrev LineId := Fin 16

/-- R26; a test binding has line, game, frame and ball absent (R44). -/
structure Binding where
  line     : Option LineId
  game     : Option Nat
  frame    : Option Nat
  ball     : Option Nat
  fullRack : Bool
  test     : Bool
deriving DecidableEq, Repr

/-- R45 and R137. -/
inductive BallSource | sensed | manual | corrected | test
deriving DecidableEq, Repr

/-- R33 and R38. -/
inductive BallState | provisional | final
deriving DecidableEq, Repr

/-- R45. -/
structure BallRecord where
  lane     : Lane
  line     : Option LineId
  game     : Option Nat
  frame    : Option Nat
  ball     : Option Nat
  pinsUp   : Option Pins
  standing : Option Pins
  count    : Nat
  foul     : Bool
  split    : Bool
  source   : BallSource
  state    : BallState
deriving DecidableEq, Repr

structure Pdu where
  run          : RunState
  source       : ScoringSource
  deck         : Deck
  /-- the pins-up set at arming, absent when it was UNKNOWN (R45, log 25) -/
  upAtArming   : Option Pins
  binding      : Option Binding
  foulOpen     : Bool
  foulFlag     : Bool
  elapsed      : Bool
  settleCount  : Nat
  /-- the settle count of the run under way (R192) -/
  settleTarget : Nat
  stalled      : Bool
  record       : Option BallRecord
  /-- the point classes of the run's last result set (R32) -/
  lastSet      : Option (List PointClass)
  pinTimer     : Timer
  scanTimer    : Timer
  windowTimer  : Timer
  graceTimer   : Timer
  cycleTimer   : Timer
deriving DecidableEq, Repr

/-! ### Pinsetter Controller (03_pinsetter_control.md) -/

/-- R48. -/
inductive MachineState | off | standby | starting | ready | inPlay | cycling | heldPit | checking | fault | service
deriving DecidableEq, Repr

/-- The causes of a machine fault (R55, R60). -/
inductive FaultCause | jam | motor | table | guard | timeout | redoLimit | deckMismatch
deriving DecidableEq, Repr

inductive RecipeKind | full | pick | rerack
deriving DecidableEq, Repr

inductive RecipeOrigin | play | start | close | rerack | resume | test
deriving DecidableEq, Repr

structure Recipe where
  kind   : RecipeKind
  target : Deck
  origin : RecipeOrigin
deriving DecidableEq, Repr

structure Pinsetter where
  state       : MachineState
  cause       : Option FaultCause
  recipe      : Option Recipe
  step        : Option StepKind
  queue       : List StepKind
  remainder   : Option StepKind
  redo        : Nat
  attempts    : Nat
  closingOwed : Bool
  windingDown : Bool
  pitHold     : Bool
  stray       : Nat
  startTimer  : Timer
  stepTimer   : Timer
deriving DecidableEq, Repr

/-! ### Ball Return Controller (04_ball_return.md) -/

/-- R81. -/
inductive ReturnState | running | idle | fault
deriving DecidableEq, Repr

/-- R75 and R78. -/
inductive ReturnCause | pitOverflow | liftJam
deriving DecidableEq, Repr

/-- R73. -/
inductive LiftCondition | carrying | rackFull | waiting
deriving DecidableEq, Repr

structure LiftBall where
  stamp : Nat
  lane  : Lane
deriving DecidableEq, Repr

structure BallReturn where
  state        : ReturnState
  cause        : Option ReturnCause
  pits         : PerLane (List Nat)
  stampCounter : Nat
  lift         : Option LiftBall
  rack         : Nat
  carryTimer   : Timer
  holds        : PerLane Bool
  rackGlitches : Nat
  liftGlitches : Nat
deriving DecidableEq, Repr

/-! ### Game Table and Score Engine (05_groups_frames_and_play_order.md, 06_score_arithmetic.md) -/

/-- R88. -/
inductive GroupState | empty | idle | playing | waiting | moving | moved
deriving DecidableEq, Repr

inductive PlayMode | openPlay | cross
deriving DecidableEq, Repr

/-- The state of a score figure (R115). -/
inductive FigureState | final | provisional
deriving DecidableEq, Repr

/-- A total with its state (R116, R119). -/
structure Total where
  value : Nat
  state : FigureState
deriving DecidableEq, Repr

structure Group where
  state        : GroupState
  name         : Name
  home         : Lane
  playMode     : PlayMode
  order        : List LineId
  game         : Option Nat
  inProgress   : Bool
  frame        : Nat
  position     : Option Nat
  frozenFrom   : Option GroupState
  runningTotal : Option Total
  groupTotal   : Option Total
deriving DecidableEq, Repr

/-- R117. -/
inductive HandicapMode
  | computed
  | fixed (value : Nat)
  | noHandicap
deriving DecidableEq, Repr

inductive LineStatus | active | withdrawn
deriving DecidableEq, Repr

/-- The symbol of a ball mark (R121). -/
inductive MarkSymbol
  | foul
  | strike
  | spare
  | miss
  | pins (n : Nat)
deriving DecidableEq, Repr

/-- A ball mark: its symbol and split indicator (R121). -/
structure Mark where
  symbol : MarkSymbol
  split  : Bool
deriving DecidableEq, Repr

/-- A frame record with the figures the Score Engine holds in it (R113 to R116, R121). -/
structure FrameRecord where
  number  : Nat
  missed  : Bool
  balls   : List BallRecord
  score   : Option Nat
  running : Option Nat
  state   : Option FigureState
  marks   : List Mark
deriving DecidableEq, Repr

/-- The copy state of a line at a link (R126, R129). -/
inductive CopyState | none | copy | edit
deriving DecidableEq, Repr

/-- A bowler line, with the Score Engine's figures and the Line Directory's state of it. -/
structure Line where
  group      : Slot
  name       : Name
  average    : Option Nat
  mode       : HandicapMode
  status     : LineStatus
  frames     : List FrameRecord
  games      : List GameEntry
  handicap   : Nat
  scratch    : Option Total
  gameTotal  : Option Total
  version    : Nat
  copies     : PerLink CopyState
  claimTimer : Timer
deriving DecidableEq, Repr

/-- R98. -/
structure LaneRecord where
  occupant : Option Slot
  waiter   : Option Slot
deriving DecidableEq, Repr

structure HandicapParams where
  basis     : Nat
  percent   : Nat
  cap       : Nat
  noAverage : Nat
deriving DecidableEq, Repr

/-! ### Line Directory (07_line_copies_claims_and_corrections.md) -/

/-- An entry of the pending correction queue (R138). -/
structure Correction where
  id    : Nat
  line  : LineId
  game  : Nat
  frame : Nat
  ball  : Nat
  count : Nat
  foul  : Bool
  base  : Nat
deriving DecidableEq, Repr

/-- How a correction entry ended (R139, R140). -/
inductive Resolution | applied | stale | denied
deriving DecidableEq, Repr

/-- Why a claim was lost (R129, R132). -/
inductive LostReason | preempted | moved
deriving DecidableEq, Repr

/-! ### Billing Meter Unit (08_sessions_and_billing.md) -/

/-- R145. -/
inductive SessionState | closed | opening | opened | paused | locked | overtime | closing
deriving DecidableEq, Repr

inductive BillingMode | perGame | timed | prepaidGames
deriving DecidableEq, Repr

inductive OverflowMode | hold | holdAndLock
deriving DecidableEq, Repr

structure Meter where
  games     : Nat
  minutes   : Nat
  cents     : Nat
  fraction  : Nat
  saturated : Bool
deriving DecidableEq, Repr

structure Session where
  state           : SessionState
  pausedFrom      : Option SessionState
  mode            : BillingMode
  prepaidGames    : Nat
  gamesGranted    : Nat
  minuteAllowance : Bool
  prepaidMinutes  : Nat
  league          : Bool
  autoNext        : Bool
  foulDetect      : Bool
  meterDisplay    : Bool
  overflow        : OverflowMode
  meter           : Meter
  openTime        : Option Nat
deriving DecidableEq, Repr

/-! ### Monitor Feed Unit (09_monitor_feed.md) -/

inductive Attribute | normal | highlight | provisional
deriving DecidableEq, Repr

inductive PinShow | up | down | off | unknown
deriving DecidableEq, Repr

inductive Banner | none | laneClosed | locked | machineFault | service | moving
deriving DecidableEq, Repr

inductive Half | none | lower | upper
deriving DecidableEq, Repr

/-- The fields of a row, by its place in the plan (R164, R165). -/
inductive RowFields
  | blank
  | banner (banner : Banner) (lane : Option Nat)
  | laneHead (lane : Option Nat) (machine : MachineState) (cause : Option FaultCause) (ret : ReturnState)
      (retCause : Option ReturnCause) (lift : LiftCondition)
  | sessionHead (state : SessionState) (pausedFrom : Option SessionState) (mode : BillingMode)
  | groupHead (name : Name) (state : GroupState) (mode : PlayMode) (game : Option Nat) (frame : Nat)
  | upBowler (name : Name) (frame ball : Nat)
  | bowler (position : Nat) (name : Name) (status : LineStatus) (handicap : Nat)
  | ballMarks (frames : List (Nat × Bool × List Mark))
  | totals (running : List (Option Nat)) (scratch gameTotal : Option Total)
  | pins (shown : List (Nat × PinShow))
  | pinsAndBall (shown : List (Nat × PinShow)) (last : Option BallRecord)
  | groupTotals (name : Name) (game : Option Nat) (running total : Option Total)
  | lineTotal (name : Name) (total : Option Nat)
  | pastGames (scratches : List Nat)
  | awaited (ball : Option (Nat × Nat))
  | pendingCorrections (count : Nat)
  | meterAllowance (mode : BillingMode) (remaining : Option Nat)
  | meterCounts (games minutes : Nat)
  | meterCents (cents : Nat)
  | meterBand (band : Option Band)
  | timeOfDay (minute : Nat)
  | laneNumbers (lane other : Option Nat)
deriving DecidableEq, Repr

structure Row where
  look   : Attribute
  fields    : RowFields
deriving DecidableEq, Repr

structure Feed where
  lower          : List Row
  upper          : List Row
  pointer        : Nat
  markLower      : Bool
  markUpper      : Bool
  pendingHalf    : Half
  banner         : Banner
  highlights     : Positions
  oneShot        : Option Nat
  /-- whether the last load of the lower half carried the one-shot highlight (R167) -/
  oneShotCarried : Bool
  lastBall       : Option BallRecord
  /-- the model's own: a full load to be composed at the end of the event under way (log 7) -/
  composeOwed    : Bool
  /-- the model's own: the row last sent, with its number (log 26) -/
  rowOut         : Option (Nat × Row)
deriving DecidableEq, Repr

/-! ### Group Transfer Unit (10_group_moves.md) -/

/-- An outbound save: the entry list and how many of its entries have been sent (R175, R176). -/
structure Outbound where
  entries : List EntryContent
  sent    : Nat
deriving DecidableEq, Repr

structure Staging where
  id       : Nat
  slot     : Slot
  lane     : Lane
  expected : Nat
  entries  : List EntryContent
deriving DecidableEq, Repr

/-- Why a load was abandoned (R179, R180). -/
inductive AbandonReason | gap | range | reset | clear | count | order | values | laws | target | ids
deriving DecidableEq, Repr

/-! ### Link ports (11_links_messages_and_configuration.md) -/

/-- The results a reply body begins with (R188). -/
inductive Code
  | ok | unknown | rights | state | range | config | busy | full | stale | notHeld | held | shape | seq
deriving DecidableEq, Repr

/-- The answer of a request: its result, and the bytes of the fields that follow it (R196). -/
structure Answer where
  code   : Code
  fields : List Byte
deriving DecidableEq, Repr

/-- What kind of reply a reply is: that of the served request, a BUSY reply, or that of a link-reset request (R188, R191). -/
inductive ReplyRole | served | busy | reset
deriving DecidableEq, Repr

structure Reply where
  role   : ReplyRole
  kind   : Nat
  tag    : Tag
  answer : Answer
deriving DecidableEq, Repr

/-- A queued request: its type, its tag, and what its body spells, or none when the body does not fit the type (R188). -/
structure Queued where
  kind    : Nat
  tag     : Tag
  request : Option Request
deriving DecidableEq, Repr

/-- The ten notice classes, in the order of R190. -/
inductive NoticeClass | ball | line | claim | machine | returns | session | correction | transfer | sensing | incident
deriving DecidableEq, Repr

/-- The notices, each with the fields its rule gives. A lane is named by its lane number, which may be unset. -/
inductive Notice
  /-- SENSING HEAD_STATE (R1) -/
  | headState (state : HeadState)
  /-- SENSING SCAN_RESULT, to the service link (R19) -/
  | scanResult (set : ResultSet)
  /-- INCIDENT HEAD_FAULT (R17) -/
  | headFault (lane : Option Nat)
  /-- INCIDENT SENSING_STALLED (R30) -/
  | sensingStalled (lane : Option Nat) (line : Option LineId)
  /-- INCIDENT DEAD_BALL (R40) -/
  | deadBall (lane : Option Nat) (run : RunState) (line : Option LineId)
  /-- INCIDENT PIT_OVERFLOW, with the stamps of the queued balls (R75) -/
  | pitOverflow (lane : Option Nat) (stamps : List Nat)
  /-- BALL PROVISIONAL, REVISED and FINAL, with the record and its mark if it is on a line (R33, R34, R38, R196) -/
  | ballProvisional (ball : BallRecord) (mark : Option Mark)
  | ballRevised (ball : BallRecord) (mark : Option Mark)
  | ballFinal (ball : BallRecord) (mark : Option Mark)
  /-- BALL DISCARDED (R41) -/
  | ballDiscarded (line : Option LineId) (frame ball : Option Nat)
  /-- BALL SCORING_SOURCE (R42) -/
  | scoringSource (lane : Option Nat) (source : ScoringSource)
  /-- MACHINE STATE (R48); the classes are those of a second mismatch (R60) -/
  | machineState (lane : Option Nat) (state : MachineState) (cause : Option FaultCause)
      (recipe : Option (RecipeKind × RecipeOrigin)) (classes : Option (List PointClass))
  /-- MACHINE CHECK_SKIPPED (R60) -/
  | checkSkipped (lane : Option Nat)
  /-- MACHINE STEP_RESULT, to the service link: DONE, or the cause (R66) -/
  | stepResult (lane : Option Nat) (step : StepKind) (cause : Option FaultCause)
  /-- MACHINE RECIPE_IGNORED, to the service link (R67) -/
  | recipeIgnored (lane : Option Nat) (kind : RecipeKind)
  /-- MACHINE TEST_CYCLE_DONE, to the service link (R67) -/
  | testCycleDone (lane : Option Nat)
  /-- MACHINE RESUME_MISMATCH, to the service link (R69) -/
  | resumeMismatch (classes : List PointClass)
  /-- RETURN STATE and CLEARED (R81, R83) -/
  | returnState (state : ReturnState) (cause : Option ReturnCause) (lift : LiftCondition) (left right rack : Nat)
  | returnCleared (state : ReturnState) (cause : Option ReturnCause) (lift : LiftCondition) (left right rack : Nat)
  /-- RETURN RACK_FULL and RACK_FREE (R77, R79) -/
  | rackFull
  | rackFree
  /-- LINE GROUP_STATE (R88), with AUTO_NEXT_REFUSED and its code when it carries them (R104) -/
  | groupState (slot : Slot) (group : Group) (left right : LaneRecord) (refused : Option Code)
  /-- LINE GAME_END (R102) -/
  | gameEnd (slot : Slot) (game : Option Nat) (entries : List (LineId × GameEntry))
  /-- LINE LINE_CHANGED and LINE_REMOVED, to holders (R127, R128) -/
  | lineChanged (line : LineId) (version : Nat)
  | lineRemoved (line : LineId)
  /-- SESSION STATE (R145): the remaining prepaid games or minutes as the mode uses them -/
  | sessionState (lane : Option Nat) (state : SessionState) (pausedFrom : Option SessionState) (mode : BillingMode)
      (remaining : Option Nat)
  /-- SESSION FLAGS (R149) -/
  | sessionFlags (lane : Option Nat) (league autoNext foulDetect meterDisplay : Bool) (overflow : OverflowMode)
  /-- SESSION SATURATED and CLOSED, to the desk link (R151, R159) -/
  | saturated (lane : Option Nat)
  | sessionClosed (lane : Option Nat) (openTime : Option Nat) (meter : Meter)
  /-- CLAIM CLAIM_LOST and CLAIM_EXPIRED, to the holder (R129, R131) -/
  | claimLost (line : LineId) (reason : LostReason)
  | claimExpired (line : LineId)
  /-- CORRECTION CORRECTION_QUEUED, to the desk link; `updated` is the mark UPDATED (R138) -/
  | correctionQueued (entry : Correction) (updated : Bool)
  /-- CORRECTION CORRECTION_RESOLVED and CORRECTION_VOID, to the desk and console links (R139 to R141) -/
  | correctionResolved (entry : Correction) (result : Resolution)
  | correctionVoid (entry : Correction)
  /-- TRANSFER notices (chapter 10): the slot and, where there is one, the transfer id -/
  | frozen (slot : Slot)
  | sent (slot : Slot)
  | staging (slot : Slot) (id : Nat)
  | abandoned (slot : Slot) (id : Nat) (reason : AbandonReason)
  | committed (slot : Slot) (id : Nat)
  | resumed (slot : Slot)
  | released (slot : Slot)
deriving DecidableEq, Repr

/-- A notice in a queue, with its "notices lost" mark (R190). -/
structure Queuing where
  lost   : Bool
  notice : Notice
deriving DecidableEq, Repr

/-- The transmitter of a link (R189). -/
inductive Transmitter | free | reply | notice
deriving DecidableEq, Repr

structure Port where
  queue       : List Queued
  frontServed : Bool
  replies     : List Reply
  notices     : List Queuing
  /-- one flag for each class of `NoticeClass`, bit 0 the first -/
  mask        : BitVec 10
  lost        : Bool
  badFrames   : Nat
  inBreak     : Bool
  tx          : Transmitter
  /-- the model's own: the bytes of the frame whose transmission last completed (log 26) -/
  sent        : List Byte
deriving DecidableEq, Repr

/-! ### The whole -/

/-- The state of the part. -/
structure State where
  /-- the model's own: the commands that wait, first in, first out (log 1) -/
  pending     : List Instr
  configured  : Bool
  settings    : Settings
  handicap    : HandicapParams
  head        : Head
  sensing     : PerLane SensingLane
  /-- the model's own: the serial number of the next scan request (log 5) -/
  scanSerial  : Nat
  pdu         : PerLane Pdu
  psc         : PerLane Pinsetter
  ret         : BallReturn
  groups      : PerSlot Group
  lines       : Vector (Option Line) 16
  lanes       : PerLane LaneRecord
  corrections : List Correction
  nextEntry   : Nat
  sessions    : PerLane Session
  rates       : List Band
  timeOfDay   : Option Nat
  minuteTimer : Timer
  feeds       : PerLane Feed
  outbound    : PerSlot (Option Outbound)
  staging     : Option Staging
  gapTimer    : Timer
  ports       : PerLink Port
  /-- the model's own: the lines changed in the event under way whose version has not advanced yet (log 7) -/
  dirty       : BitVec 16
deriving DecidableEq, Repr

/-- No command of the table stops the part with a fault: the spec describes every outcome as an effect (INVENTORY.md, Faults). -/
inductive Fault
deriving DecidableEq, Repr

/-- Raised by `exec` alone, for a command with no meaning yet; no arm raises it now. Safe: the model would stop. -/
inductive Refusal
  | notModelled (mnemonic : String)
deriving DecidableEq, Repr

/-! ### The values at power-on -/

/-- Slots 0 to 9 name P1 to P10, slots 10 and 11 DL and DR; every observation is cleared (R23). -/
def ScanSlot.reset (point : Point) : ScanSlot :=
  { cfg := { point := point, enabled := true, baseline := 0, high := 400, low := -400, wobble := true }
    obs := { raw := none, result := none, cls := none, side := none, wobbling := false, count := 0 } }

def SensingLane.reset : SensingLane :=
  { slots := [.reset (.pin 0), .reset (.pin 1), .reset (.pin 2), .reset (.pin 3), .reset (.pin 4), .reset (.pin 5),
      .reset (.pin 6), .reset (.pin 7), .reset (.pin 8), .reset (.pin 9), .reset .dl, .reset .dr]
    runMode := .normal, fault := false, needs := { run := false, check := none, cont := false }, scan := none
    injection := none, contTimer := none }

/-- R47. -/
def Pdu.reset : Pdu :=
  { run := .idle, source := .auto, deck := .unknown 10, upAtArming := none, binding := none, foulOpen := false, foulFlag := false
    elapsed := false, settleCount := 0, settleTarget := 3, stalled := false, record := none, lastSet := none
    pinTimer := none, scanTimer := none, windowTimer := none, graceTimer := none, cycleTimer := none }

/-- R71. -/
def Pinsetter.reset : Pinsetter :=
  { state := .off, cause := none, recipe := none, step := none, queue := [], remainder := none, redo := 0, attempts := 0
    closingOwed := false, windingDown := false, pitHold := false, stray := 0, startTimer := none, stepTimer := none }

/-- R86. -/
def BallReturn.reset : BallReturn :=
  { state := .idle, cause := none, pits := ⟨[], []⟩, stampCounter := 0, lift := none, rack := 0, carryTimer := none
    holds := ⟨false, false⟩, rackGlitches := 0, liftGlitches := 0 }

/-- An EMPTY slot (R107). -/
def Group.empty : Group :=
  { state := .empty, name := [], home := .left, playMode := .openPlay, order := [], game := none, inProgress := false
    frame := 1, position := none, frozenFrom := none, runningTotal := none, groupTotal := none }

/-- A meter at zero (R162). -/
def Meter.zero : Meter := { games := 0, minutes := 0, cents := 0, fraction := 0, saturated := false }

/-- R162. -/
def Session.reset : Session :=
  { state := .closed, pausedFrom := none, mode := .perGame, prepaidGames := 0, gamesGranted := 0, minuteAllowance := false
    prepaidMinutes := 0, league := false, autoNext := false, foulDetect := false, meterDisplay := false, overflow := .hold
    meter := .zero, openTime := none }

def Row.blank : Row := { look := .normal, fields := .blank }

/-- R173. -/
def Feed.reset : Feed :=
  { lower := List.replicate 32 .blank, upper := List.replicate 32 .blank, pointer := 0, markLower := false
    markUpper := false, pendingHalf := .none, banner := .none, highlights := 0#8, oneShot := none, oneShotCarried := false
    lastBall := none, composeOwed := false, rowOut := none }

/-- R186. -/
def Port.reset : Port :=
  { queue := [], frontServed := false, replies := [], notices := [], mask := 1023#10, lost := false, badFrames := 0
    inBreak := false, tx := .free, sent := [] }

/-- The part right after power-on (R186 and the reset rules of each chapter). -/
def State.reset : State :=
  { pending := [], configured := false, settings := Config.defaults
    handicap := { basis := 0, percent := 0, cap := 0, noAverage := 0 }
    head := { state := .off, mode := .paired, warmTimer := none }
    sensing := ⟨.reset, .reset⟩, scanSerial := 0, pdu := ⟨.reset, .reset⟩, psc := ⟨.reset, .reset⟩, ret := .reset
    groups := ⟨.empty, .empty⟩, lines := Vector.replicate 16 none, lanes := ⟨⟨none, none⟩, ⟨none, none⟩⟩
    corrections := [], nextEntry := 1, sessions := ⟨.reset, .reset⟩, rates := [], timeOfDay := none, minuteTimer := none
    feeds := ⟨.reset, .reset⟩, outbound := ⟨none, none⟩, staging := none, gapTimer := none
    ports := ⟨.reset, .reset, .reset⟩, dirty := 0#16 }

end Sys2Proof.Machine
end

