-- ==== Sys2Proof/Machine/Operands.lean ====
section
/-! DEFINITION. The operand forms of the commands: what the raw numbers of a request name, pin sets and their adjacency,
decks, and the lengths of timers. -/
namespace Sys2Proof.Machine

/-! ### Enumerated values, numbered from 0 as R196 states -/

/-- LEFT is 0, RIGHT is 1. -/
def laneOf : Nat → Option Lane
  | 0 => some .left
  | 1 => some .right
  | _ => none

/-- G1 is 0, G2 is 1. -/
def slotOf : Nat → Option Slot
  | 0 => some .g1
  | 1 => some .g2
  | _ => none

/-- The step kinds, in the order of 00_scope.md (log 9). -/
def stepOf : Nat → Option StepKind
  | 0 => some .guardDown
  | 1 => some .pick
  | 2 => some .sweep
  | 3 => some .respot
  | 4 => some .setFull
  | 5 => some .guardUp
  | _ => none

/-- P1 to P10 are 0 to 9, DL is 10, DR is 11. -/
def pointOf (n : Nat) : Option Point :=
  if h : n < 10 then some (.pin ⟨n, h⟩) else if n = 10 then some .dl else if n = 11 then some .dr else none

def scanModeOf : Nat → Option ScanMode
  | 0 => some .paired
  | 1 => some .split
  | _ => none

def runModeOf : Nat → Option RunMode
  | 0 => some .normal
  | 1 => some .continuous
  | _ => none

def sourceOf : Nat → Option ScoringSource
  | 0 => some .auto
  | 1 => some .manual
  | _ => none

def billingOf : Nat → Option BillingMode
  | 0 => some .perGame
  | 1 => some .timed
  | 2 => some .prepaidGames
  | _ => none

def overflowOf : Nat → Option OverflowMode
  | 0 => some .hold
  | 1 => some .holdAndLock
  | _ => none

/-- The manner of a close: AFTER_GAME is 0 (`false`), NOW is 1 (`true`) (R157). -/
def mannerOf : Nat → Option Bool
  | 0 => some false
  | 1 => some true
  | _ => none

/-- The choice of a resume: AS_RECORDED is 0 (`false`), RACK is 1 (`true`) (R69). -/
def choiceOf : Nat → Option Bool
  | 0 => some false
  | 1 => some true
  | _ => none

def playModeOf : Nat → Option PlayMode
  | 0 => some .openPlay
  | 1 => some .cross
  | _ => none

def statusOf : Nat → Option LineStatus
  | 0 => some .active
  | 1 => some .withdrawn
  | _ => none

/-- A fixed value, when one is given, is 0 to 255 (R89, R180). -/
def fixedOk (fixed : Option Nat) : Bool :=
  match fixed with
  | some v => v ≤ 255
  | none => true

/-- The handicap mode a code and a fixed value name, every fixed value given being 0 to 255 (R89). FIXED needs its value, and
another mode takes no account of one (log 40). -/
def handicapOf (mode : Nat) (fixed : Option Nat) : Option HandicapMode :=
  if fixedOk fixed then
    match mode with
    | 0 => some .computed
    | 1 => fixed.map .fixed
    | 2 => some .noHandicap
    | _ => none
  else none

/-- The sources a ball of a line can have (R45, R137; log 20). -/
def lineSourceOf : Nat → Option BallSource
  | 0 => some .sensed
  | 1 => some .manual
  | 2 => some .corrected
  | _ => none

/-- A line id 1 to 16. -/
def lineOf (n : Nat) : Option LineId := if h : 1 ≤ n ∧ n ≤ 16 then some ⟨n - 1, by omega⟩ else none

/-- A line id as its number 1 to 16. -/
def lineNo (i : LineId) : Nat := i.val + 1

/-- A pin set carried in 16 bits; a number with a bit above pin 10 names no pin set, and is refused as out of range (log 38). -/
def pinsOf (n : Nat) : Option Pins := if n < 1024 then some (BitVec.ofNat 10 n) else none

/-! ### Lanes, slots and links -/

def otherLane : Lane → Lane
  | .left => .right
  | .right => .left

def otherSlot : Slot → Slot
  | .g1 => .g2
  | .g2 => .g1

/-- The access class a port fixes (R186). -/
def accessClass : Link → Nat
  | .desk => 0
  | .service => 1
  | .console => 2

/-- The rights table: which request types each link may send (11_links_messages_and_configuration.md, Rights). -/
def admits (link : Link) (kind : Nat) : Bool :=
  match link with
  | .desk => (1 ≤ kind && kind ≤ 34) || (48 ≤ kind && kind ≤ 60)
  | .service => kind = 34 || (36 ≤ kind && kind ≤ 60)
  | .console => (23 ≤ kind && kind ≤ 33) || kind = 35 || (48 ≤ kind && kind ≤ 60)

/-! ### Pin sets -/

def hasPin (s : Pins) (p : Fin 10) : Bool := s.getLsbD p.val

/-- The ten pins in ascending order. -/
def pinList : List (Fin 10) := [0, 1, 2, 3, 4, 5, 6, 7, 8, 9]

/-- The number of pins of a set. -/
def pinCount (s : Pins) : Nat := (pinList.filter (hasPin s)).length

/-- The pin set of the pins that satisfy a test. -/
def pinsWhere (f : Fin 10 → Bool) : Pins :=
  pinList.foldl (fun acc p => if f p then acc ||| (1#10 <<< p.val) else acc) 0#10

/-- The set of the pins with these numbers. -/
def pinSet (numbers : List Nat) : Pins := numbers.foldl (fun acc p => acc ||| (1#10 <<< (p - 1))) 0#10

/-- The pins adjacent to a pin (R36). -/
def adjacent : Fin 10 → Pins
  | 0 => pinSet [2, 3]
  | 1 => pinSet [1, 3, 4, 5, 8]
  | 2 => pinSet [1, 2, 5, 6, 9]
  | 3 => pinSet [2, 5, 7, 8]
  | 4 => pinSet [2, 3, 4, 6, 8, 9]
  | 5 => pinSet [3, 5, 9, 10]
  | 6 => pinSet [4, 8]
  | 7 => pinSet [2, 4, 5, 7, 9]
  | 8 => pinSet [3, 5, 6, 8, 10]
  | 9 => pinSet [6, 9]

/-- The pins of `s` that `r` holds or that stand next to a pin `r` holds. -/
def grow (s r : Pins) : Pins :=
  s &&& (r ||| pinList.foldl (fun acc p => if hasPin r p then acc ||| adjacent p else acc) 0#10)

/-- The pins of `s` that chains of `n` steps reach from `r`. -/
def reach (s : Pins) : Nat → Pins → Pins
  | 0, r => r
  | n + 1, r => reach s n (grow s r)

/-- Each pin of the set is reached from every other by a chain of adjacent pins of the set (R36). -/
def connected (s : Pins) : Bool :=
  match pinList.find? (hasPin s) with
  | none => true
  | some p => reach s 9 (pinSet [p.val + 1]) = s

/-! ### Decks -/

/-- The pins a deck holds: the number of its set, or its remaining count. -/
def Deck.count : Deck → Nat
  | .known s => pinCount s
  | .unknown n => n

/-- The set of a deck, absent when it is UNKNOWN. -/
def Deck.set? : Deck → Option Pins
  | .known s => some s
  | .unknown _ => none

/-- The set of a deck against which a run's result sets are judged. No rule gives one for an UNKNOWN deck, which a test recipe can
write under a test run (R31, R33, R67): it is then a free value (log 50). -/
def Deck.pins : Deck → Pins
  | .known s => s
  | .unknown n => Config.unknownPins n

/-- A deck made UNKNOWN, with the count it had (R64). -/
def Deck.forget (d : Deck) : Deck := .unknown d.count

/-- R26: a pins-up set agrees with the expected deck when it is that deck, or is UNKNOWN with its count. When it does not
agree, it becomes UNKNOWN with the expected deck's count. -/
def Deck.agree (d expected : Deck) : Deck :=
  if d = expected then d else .unknown expected.count

/-- The full rack. -/
def fullDeck : Deck := .known allPins

/-! ### Times -/

/-- Seconds in units of 10 ms. -/
def seconds (n : Nat) : Nat := 100 * n

/-- The step timeout of a step kind, in seconds (R51). -/
def stepTime (t : StepTimes) : StepKind → Nat
  | .guardDown => t.guardDown
  | .pick => t.pick
  | .sweep => t.sweep
  | .respot => t.respot
  | .setFull => t.setFull
  | .guardUp => t.guardUp

def setStepTime (t : StepTimes) (k : StepKind) (v : Nat) : StepTimes :=
  match k with
  | .guardDown => { t with guardDown := v }
  | .pick => { t with pick := v }
  | .sweep => { t with sweep := v }
  | .respot => { t with respot := v }
  | .setFull => { t with setFull := v }
  | .guardUp => { t with guardUp := v }

/-- The causes of a FAULT completion among the causes of a machine fault. -/
def causeOf : CompletionFault → FaultCause
  | .jam => .jam
  | .motor => .motor
  | .table => .table
  | .guard => .guard

/-- The steps of a recipe, in order (03_pinsetter_control.md, Taking a recipe). -/
def recipeSteps : RecipeKind → List StepKind
  | .full => [.guardDown, .sweep, .setFull, .guardUp]
  | .pick => [.guardDown, .pick, .sweep, .respot, .guardUp]
  | .rerack => [.guardDown, .pick, .sweep, .respot, .guardUp]

/-- What the pinsetter command line carries (R48's table). -/
inductive CommandLine | idle | start | run | step (k : StepKind) | stop
deriving DecidableEq, Repr

/-- The command line of a machine (R48): in SERVICE the stop condition is lifted only while a step executes. -/
def commandLine (p : Pinsetter) : CommandLine :=
  match p.state with
  | .off | .standby => .idle
  | .starting => .start
  | .ready | .inPlay | .heldPit | .checking => .run
  | .cycling =>
    match p.step with
    | some k => .step k
    | none => .run
  | .fault => .stop
  | .service =>
    match p.step with
    | some k => .step k
    | none => .stop

/-- The lift condition (R73). -/
def liftCondition (r : BallReturn) (capacity : Nat) : LiftCondition :=
  if r.lift.isSome then .carrying else if r.rack = capacity then .rackFull else .waiting

/-- Whether the return motor runs (R81). -/
def motorOn (r : BallReturn) : Bool := r.state = .running

end Sys2Proof.Machine
end

