-- ==== Sys2Proof/Machine/Flags.lean ====
section
/-! DEFINITION. What the balls of a frame show: strike, spare, completeness, ranges, split flags and marks. -/
namespace Sys2Proof.Machine

/-- Ball 1 of count 10 that is not a foul (R110). -/
def isStrike (b : BallRecord) : Bool := b.count = 10 && !b.foul

def isFinal (b : BallRecord) : Bool := b.state = .final

/-- Frame 10 earns a ball 3: ball 1 is a strike, or the counts of balls 1 and 2 sum to 10 (R111). -/
def earnsThird (b1 b2 : BallRecord) : Bool := isStrike b1 || b1.count + b2.count = 10

/-- Whether the balls make up all that a frame is due (R94). -/
def ballsComplete (number : Nat) (balls : List BallRecord) : Bool :=
  match balls with
  | [] => false
  | [b1] => number < 10 && isStrike b1
  | b1 :: b2 :: rest => if number < 10 then true else !earnsThird b1 b2 || !rest.isEmpty

/-- A frame is complete when it is missed, or when its FINAL balls are those it is due (R94). -/
def frameComplete (f : FrameRecord) : Bool := f.missed || ballsComplete f.number (f.balls.filter isFinal)

/-- Every ball within the range of its position (R110, R111). -/
def rangesOk (number : Nat) (balls : List BallRecord) : Bool :=
  match balls with
  | [] => true
  | [b1] => b1.count ≤ 10
  | [b1, b2] =>
    b1.count ≤ 10 &&
      (if number < 10 then !isStrike b1 && b1.count + b2.count ≤ 10
       else b2.count ≤ 10 && (isStrike b1 || b1.count + b2.count ≤ 10))
  | [b1, b2, b3] =>
    decide (number = 10) && b1.count ≤ 10 && b2.count ≤ 10 && earnsThird b1 b2 && b3.count ≤ 10 &&
      (if isStrike b1 then b2.count = 10 || b2.count + b3.count ≤ 10 else b1.count + b2.count ≤ 10)
  | _ => false

/-- The shape of a frame (R136): in frames 1 to 9 whether ball 1 is a strike, in frame 10 whether it earns a ball 3. -/
def frameShape (number : Nat) (balls : List BallRecord) : Bool :=
  match balls with
  | b1 :: b2 :: _ => if number < 10 then isStrike b1 else earnsThird b1 b2
  | [b1] => isStrike b1
  | [] => false

/-- A standing set makes a split: pin 1 is down, at least two pins stand, and they are not connected (R37). -/
def splitSet (standing : Pins) : Bool :=
  !hasPin standing 0 && 2 ≤ pinCount standing && !connected standing

/-- R37, from the binding of a ball in the making: ball 1 of frames 1 to 9, or a ball of frame 10 at a full rack. -/
def splitEligible (b : Binding) : Bool :=
  match b.frame with
  | none => false
  | some f => if f < 10 then b.ball = some 1 else b.fullRack

/-- R120: the standing set of a ball, taken as absent when it does not agree with the count; without a pins-up set it agrees
only for a foul of count 0 (log 42). -/
def agreedStanding (b : BallRecord) : Option Pins :=
  match b.standing with
  | none => none
  | some s =>
    let byCount := match b.pinsUp with
      | some u => decide (b.count + pinCount s = pinCount u)
      | none => false
    if byCount || (b.foul && b.count = 0) then some s else none

/-- R120: the split flag the Score Engine derives from a ball's record at ball position `pos` of frame `number`. -/
def derivedSplit (number pos : Nat) (b : BallRecord) : Bool :=
  let eligible := if number < 10 then decide (pos = 1) else decide (b.pinsUp = some allPins)
  match agreedStanding b with
  | some s => eligible && !b.foul && splitSet s
  | none => false

/-- The symbol of ball `pos` of a frame (R121), the first case that applies. -/
def markSymbol (number pos : Nat) (balls : List BallRecord) (b : BallRecord) : MarkSymbol :=
  let b1 := balls[0]?.getD b
  let b2 := balls[1]?.getD b
  let strike1 := isStrike b1
  if b.foul then .foul
  else if pos = 1 && b.count = 10 then .strike
  else if pos = 2 && (number < 10 || !strike1) && b1.count + b.count = 10 then .spare
  else if pos = 2 && number = 10 && strike1 && b.count = 10 then .strike
  else if pos = 3 && b.count = 10 && (b2.count = 10 || (!strike1 && b1.count + b2.count = 10)) then .strike
  else if pos = 3 && strike1 && b2.count < 10 && b2.count + b.count = 10 then .spare
  else if b.count = 0 then .miss
  else .pins b.count

/-- The mark of ball `pos` of a frame: its symbol and split indicator (R121). -/
def markOf (number pos : Nat) (balls : List BallRecord) (b : BallRecord) : Mark :=
  { symbol := markSymbol number pos balls b, split := b.split }

end Sys2Proof.Machine
end

