-- ==== Sys2Proof/Machine/Scoring.lean ====
section
/-! DEFINITION. The Score Engine (06_score_arithmetic.md): frame scores, running totals, handicaps, totals, and the legality
of a line's frames. -/
namespace Sys2Proof.Machine

/-- The state of a figure that needs these balls (R115). -/
def figureState (balls : List BallRecord) : FigureState := if balls.all isFinal then .final else .provisional

/-- The frame score of a frame and its state, from its balls and the balls that follow it on the line (R113 to R115). -/
def frameScore (f : FrameRecord) (after : List BallRecord) : Option (Nat × FigureState) :=
  if f.missed then some (0, .final)
  else if f.number < 10 then
    match f.balls with
    | [] => none
    | b1 :: rest =>
      if isStrike b1 then
        match rest ++ after with
        | n1 :: n2 :: _ => some (10 + n1.count + n2.count, figureState [b1, n1, n2])
        | _ => none
      else
        match rest with
        | [] => none
        | b2 :: _ =>
          if b1.count + b2.count = 10 then
            match after with
            | n1 :: _ => some (10 + n1.count, figureState [b1, b2, n1])
            | [] => none
          else some (b1.count + b2.count, figureState [b1, b2])
  else
    match f.balls with
    | b1 :: b2 :: rest =>
      if earnsThird b1 b2 then
        match rest with
        | b3 :: _ => some (b1.count + b2.count + b3.count, figureState [b1, b2, b3])
        | [] => none
      else some (b1.count + b2.count, figureState [b1, b2])
    | _ => none

/-- The balls of a frame with their split flags derived afresh (R120). -/
def splitBalls (number : Nat) (balls : List BallRecord) : List BallRecord :=
  balls.mapIdx fun i b => { b with split := derivedSplit number (i + 1) b }

/-- The frames of a line computed from frame 1 forward (R109): `before` is the running total of the frame before, absent
once a frame is unresolved. -/
def scoreFrames : Option Nat → List FrameRecord → List FrameRecord
  | _, [] => []
  | before, f :: rest =>
    let balls := splitBalls f.number f.balls
    let marks := balls.mapIdx fun i b => markOf f.number (i + 1) balls b
    match frameScore f (rest.map (·.balls)).flatten with
    | some (score, state) =>
      let running := before.map (· + score)
      { f with balls := balls, marks := marks, score := some score, state := some state, running := running }
        :: scoreFrames running rest
    | none =>
      { f with balls := balls, marks := marks, score := none, state := none, running := none } :: scoreFrames none rest

/-- The state of a running total: PROVISIONAL when any frame up to it is (R116). -/
def runningState (frames : List FrameRecord) : FigureState :=
  if frames.all fun f => f.state ≠ some .provisional then .final else .provisional

/-- The last present running total of a line, with its state (R116). -/
def lastRunning (frames : List FrameRecord) : Option Total :=
  let present := frames.filter fun f => f.running.isSome
  match present.getLast? with
  | some f => f.running.map fun v => { value := v, state := runningState present }
  | none => none

/-- R117. -/
def handicapFigure (p : HandicapParams) (mode : HandicapMode) (average : Option Nat) : Nat :=
  match mode with
  | .computed =>
    match average with
    | some a => if p.basis ≤ a then 0 else min ((p.basis - a) * p.percent / 100) p.cap
    | none => p.noAverage
  | .fixed v => v
  | .noHandicap => 0

/-- The scratch total (R116): of an ACTIVE line the running total of frame 10, of a WITHDRAWN line its last running total,
or 0, which is FINAL (log 41). -/
def scratchTotal (status : LineStatus) (frames : List FrameRecord) : Option Total :=
  match status with
  | .active =>
    match frames[9]? with
    | some f => f.running.map fun v => { value := v, state := runningState frames }
    | none => none
  | .withdrawn => some ((lastRunning frames).getD { value := 0, state := .final })

/-- A line computed afresh (R109). -/
def computeLine (p : HandicapParams) (l : Line) : Line :=
  let frames := scoreFrames (some 0) l.frames
  let handicap := handicapFigure p l.mode l.average
  let scratch := scratchTotal l.status frames
  { l with
    frames := frames, handicap := handicap, scratch := scratch
    gameTotal := scratch.map fun t => { t with value := t.value + handicap } }

/-- The sum of totals, PROVISIONAL when any of them is (R119). -/
def sumTotals (ts : List Total) : Total :=
  { value := (ts.map (·.value)).sum
    state := if ts.all fun t => t.state = .final then .final else .provisional }

/-- The lines that take part in a group's game: those that hold a frame record (R119). -/
def takingPart (ls : List Line) : List Line := ls.filter fun l => !l.frames.isEmpty

/-- The group total (R119): present when every line that takes part has a game total. -/
def groupTotalOf (ls : List Line) : Option Total :=
  let part := takingPart ls
  if part.isEmpty || part.any (fun l => l.gameTotal.isNone) then none
  else some (sumTotals (part.filterMap (·.gameTotal)))

/-- The group running total (R119): present when a line takes part. -/
def groupRunningOf (ls : List Line) : Option Total :=
  let part := takingPart ls
  if part.isEmpty then none
  else some (sumTotals (part.map fun l =>
    let t := (lastRunning l.frames).getD { value := 0, state := .final }
    { t with value := t.value + l.handicap }))

/-! ### Legality (R112) -/

/-- The frame numbers run 1, 2, 3 and onward. -/
def numbersRun : Nat → List FrameRecord → Bool
  | _, [] => true
  | n, f :: rest => f.number = n && numbersRun (n + 1) rest

/-- No missed frame follows a frame that is not missed. -/
def missedFirst : List FrameRecord → Bool
  | [] => true
  | f :: rest => if f.missed then missedFirst rest else rest.all fun g => !g.missed

/-- A ball holds no more than the pins of its pins-up set, and none when it is a foul. -/
def ballLegal (b : BallRecord) : Bool :=
  (!b.foul || b.count = 0) && (match b.pinsUp with | some u => decide (b.count ≤ pinCount u) | none => true)

/-- A frame on its own: a missed one holds no ball; another holds at least one, each within its range. -/
def frameLegal (f : FrameRecord) : Bool :=
  if f.missed then f.balls.isEmpty
  else !f.balls.isEmpty && rangesOk f.number f.balls && f.balls.all ballLegal

/-- The laws of R112; `openLast` allows the last frame to be incomplete. -/
def framesLegal (openLast : Bool) (fs : List FrameRecord) : Bool :=
  numbersRun 1 fs && fs.length ≤ 10 && missedFirst fs && fs.all frameLegal && fs.dropLast.all frameComplete
    && (openLast || fs.all frameComplete)

end Sys2Proof.Machine
end

