-- ==== Sys2Proof/Machine/Ops.lean ====
section
/-! DEFINITION. The named operations over State: one home for each register group, and the offering of notices to the links
(R190). -/
namespace Sys2Proof.Machine

/-! ### One update for each register group -/

def State.modSensing (s : State) (l : Lane) (f : SensingLane → SensingLane) : State :=
  { s with sensing := s.sensing.set l (f (s.sensing.get l)) }

def State.modPdu (s : State) (l : Lane) (f : Pdu → Pdu) : State :=
  { s with pdu := s.pdu.set l (f (s.pdu.get l)) }

def State.modPsc (s : State) (l : Lane) (f : Pinsetter → Pinsetter) : State :=
  { s with psc := s.psc.set l (f (s.psc.get l)) }

def State.modReturn (s : State) (f : BallReturn → BallReturn) : State := { s with ret := f s.ret }

def State.modGroup (s : State) (g : Slot) (f : Group → Group) : State :=
  { s with groups := s.groups.set g (f (s.groups.get g)) }

def State.modLane (s : State) (l : Lane) (f : LaneRecord → LaneRecord) : State :=
  { s with lanes := s.lanes.set l (f (s.lanes.get l)) }

def State.modSession (s : State) (l : Lane) (f : Session → Session) : State :=
  { s with sessions := s.sessions.set l (f (s.sessions.get l)) }

def State.modFeed (s : State) (l : Lane) (f : Feed → Feed) : State :=
  { s with feeds := s.feeds.set l (f (s.feeds.get l)) }

def State.modPort (s : State) (k : Link) (f : Port → Port) : State :=
  { s with ports := s.ports.set k (f (s.ports.get k)) }

def State.modHead (s : State) (f : Head → Head) : State := { s with head := f s.head }

/-- The line with an id, if it is in use. -/
def State.line (s : State) (i : LineId) : Option Line := s.lines.get i

def State.setLine (s : State) (i : LineId) (l : Option Line) : State := { s with lines := s.lines.set i.val l i.isLt }

/-- A change of a line in use; an id not in use is left as it is. -/
def State.modLine (s : State) (i : LineId) (f : Line → Line) : State :=
  match s.line i with
  | some l => s.setLine i (some (f l))
  | none => s

/-- The sixteen line ids, lowest first. -/
def lineIds : List LineId := [0, 1, 2, 3, 4, 5, 6, 7, 8, 9, 10, 11, 12, 13, 14, 15]

/-- The free line ids, lowest first (R89). -/
def State.freeLines (s : State) : List LineId := lineIds.filter fun i => (s.line i).isNone

/-- The lane number of a lane, or unset (R192). -/
def State.laneNumber (s : State) (l : Lane) : Option Nat :=
  match l with
  | .left => s.settings.laneNumber
  | .right => s.settings.laneNumber.map (· + 1)

/-! ### Notices -/

def Notice.cls : Notice → NoticeClass
  | .ballProvisional .. | .ballRevised .. | .ballFinal .. | .ballDiscarded .. | .scoringSource .. => .ball
  | .groupState .. | .gameEnd .. | .lineChanged .. | .lineRemoved _ => .line
  | .claimLost .. | .claimExpired _ => .claim
  | .machineState .. | .checkSkipped _ | .stepResult .. | .recipeIgnored .. | .testCycleDone _ | .resumeMismatch .. =>
    .machine
  | .returnState .. | .returnCleared .. | .rackFull | .rackFree => .returns
  | .sessionState .. | .sessionFlags .. | .saturated _ | .sessionClosed .. => .session
  | .correctionQueued .. | .correctionResolved .. | .correctionVoid _ => .correction
  | .frozen _ | .sent _ | .staging .. | .abandoned .. | .committed .. | .resumed _ | .released _ => .transfer
  | .headState _ | .scanResult _ => .sensing
  | .headFault _ | .sensingStalled .. | .deadBall .. | .pitOverflow .. => .incident

/-- The number of a class, 0 to 9, in the order of R190. -/
def NoticeClass.index : NoticeClass → Nat
  | .ball => 0
  | .line => 1
  | .claim => 2
  | .machine => 3
  | .returns => 4
  | .session => 5
  | .correction => 6
  | .transfer => 7
  | .sensing => 8
  | .incident => 9

/-- A notice offered to a link: it joins a queue of fewer than 16, with the lost mark if the flag is set; a full queue
discards it and sets the flag (R190). -/
def Port.offer (p : Port) (n : Notice) : Port :=
  if p.notices.length < 16 then { p with notices := p.notices ++ [⟨p.lost, n⟩], lost := false }
  else { p with lost := true }

/-- Whether a link's mask admits a class (R190). -/
def Port.admitsClass (p : Port) (c : NoticeClass) : Bool := p.mask.getLsbD c.index

/-- A notice addressed to a link, whatever its mask admits (R190). -/
def State.tell (s : State) (k : Link) (n : Notice) : State := s.modPort k fun p => p.offer n

/-- A notice offered to a link if its mask admits the class (R190). -/
def State.tellMasked (s : State) (k : Link) (n : Notice) : State :=
  s.modPort k fun p => if p.admitsClass n.cls then p.offer n else p

/-- A notice to every link whose mask has its class on (R190). -/
def State.broadcast (s : State) (n : Notice) : State :=
  ((s.tellMasked .desk n).tellMasked .service n).tellMasked .console n

/-- A correction notice to the desk and console links (R139 to R141). -/
def State.tellDeskConsole (s : State) (n : Notice) : State := (s.tell .desk n).tell .console n

end Sys2Proof.Machine
end

