-- ==== Sys2Proof/Machine/Queries.lean ====
section
/-! DEFINITION. What the state shows without changing: the up bowler, the expected deck, the home group of a lane, the band in
force, the prefix a lane's scans read, and the conditions other rules test. -/
namespace Sys2Proof.Machine

/-! ### Game Table -/

/-- A group slot that holds a group. -/
def Group.present (g : Group) : Bool := g.state ≠ .empty

/-- Frozen for a move (R88). -/
def Group.isFrozen (g : Group) : Bool := g.state = .moving || g.state = .moved

/-- The group homed on a lane (R88: at most one). -/
def State.homeGroup (s : State) (l : Lane) : Option Slot :=
  if s.groups.g1.present && s.groups.g1.home = l then some .g1
  else if s.groups.g2.present && s.groups.g2.home = l then some .g2
  else none

/-- The lane whose occupant a group is. -/
def State.laneOfOccupant (s : State) (g : Slot) : Option Lane :=
  if s.lanes.left.occupant = some g then some .left
  else if s.lanes.right.occupant = some g then some .right
  else none

/-- The lane of frame `k` for a group (R98). -/
def Group.laneOfFrame (g : Group) (k : Nat) : Lane :=
  match g.playMode with
  | .openPlay => g.home
  | .cross => if k % 2 = 1 then g.home else otherLane g.home

def Line.frameAt (l : Line) (n : Nat) : Option FrameRecord := l.frames.find? fun f => f.number = n

/-- A line has completed a frame (R94). -/
def Line.completed (l : Line) (n : Nat) : Bool :=
  match l.frameAt n with
  | some f => frameComplete f
  | none => false

/-- The balls a line holds of a frame. -/
def Line.ballsOf (l : Line) (n : Nat) : List BallRecord :=
  match l.frameAt n with
  | some f => f.balls
  | none => []

/-- The frame and ball a line awaits when its group's frame in progress is `n` (R94). -/
def Line.awaits (l : Line) (n : Nat) : Option (Nat × Nat) :=
  if l.completed n then none else some (n, (l.ballsOf n).length + 1)

/-- A line has begun a frame and not completed it. -/
def Line.midFrame (l : Line) (n : Nat) : Bool := !(l.ballsOf n).isEmpty && !l.completed n

/-- A line that takes balls and has not completed a frame. -/
def Line.dueFor (l : Line) (n : Nat) : Bool := l.status = .active && !l.completed n

/-- A test on the line with an id; false when the id is not in use. -/
def State.lineTest (s : State) (i : LineId) (t : Line → Bool) : Bool :=
  match s.line i with
  | some l => t l
  | none => false

/-- The up line of a group that bowls (R95). -/
def State.upLine (s : State) (g : Group) : Option LineId :=
  match g.order.find? fun i => s.lineTest i fun l => l.midFrame g.frame with
  | some i => some i
  | none => g.order.find? fun i => s.lineTest i fun l => l.dueFor g.frame

/-- The group that bowls on a lane: its occupant, when it is PLAYING (R95). -/
def State.bowling (s : State) (l : Lane) : Option Slot :=
  match (s.lanes.get l).occupant with
  | some g => if (s.groups.get g).state = .playing then some g else none
  | none => none

/-- The up bowler of a lane: the line, with the frame and ball it awaits (R95). -/
def State.upBowler (s : State) (l : Lane) : Option (LineId × Nat × Nat) :=
  match s.bowling l with
  | some g =>
    let group := s.groups.get g
    match s.upLine group with
    | some i =>
      match s.line i with
      | some line => some (i, group.frame, (line.ballsOf group.frame).length + 1)
      | none => none
    | none => none
  | none => none

/-- The order position of a line in an order, from 1. -/
def positionIn (order : List LineId) (i : LineId) : Option Nat :=
  (order.findIdx? fun j => j = i).map (· + 1)

/-- The lines of a group in order position. -/
def State.linesOf (s : State) (g : Slot) : List Line := (s.groups.get g).order.filterMap s.line

/-- A group with a game in progress bowls on the lane or waits for it (R50, R171). DEDUCED (log 57): a frozen group that holds
the lane or its waiting place counts. -/
def State.gameOnLane (s : State) (l : Lane) : Bool :=
  let r := s.lanes.get l
  (match r.occupant with | some g => (s.groups.get g).inProgress | none => false)
    || (match r.waiter with | some g => (s.groups.get g).inProgress | none => false)

/-- The home group of a lane has a game in progress (R154). -/
def State.homeGameOn (s : State) (l : Lane) : Bool :=
  match s.homeGroup l with
  | some g => (s.groups.get g).inProgress
  | none => false

/-- Both sessions OPEN or OVERTIME with the league flag set (R100, R103, R181). -/
def State.crossAdmitted (s : State) : Bool :=
  let ok (x : Session) : Bool := (x.state = .opened || x.state = .overtime) && x.league
  ok s.sessions.left && ok s.sessions.right

/-! ### Pinfall and pinsetter -/

/-- A ball is in play on the lane (R25). -/
def RunState.inPlay : RunState → Bool
  | .delay | .settling | .settled | .awaitingEntry => true
  | .idle | .armed | .final => false

def State.ballInPlay (s : State) (l : Lane) : Bool := (s.pdu.get l).run.inPlay

/-- The deck that the awaited ball `b` of frame `f` should face, from the balls the frame holds (R69, log 16, log 17). R69 gives a
previous ball without a standing set its deck only when manual-ball entered it; another such ball, which a committed transfer
can bring, is given the same deck, whatever its source (log 56: the model's choice). -/
def awaitedDeck (f b : Nat) (balls : List BallRecord) : Deck :=
  if b ≤ 1 then fullDeck
  else
    match balls[b - 2]? with
    | none => fullDeck
    | some prev =>
      let b1 := balls[0]?.getD prev
      let cleared := f = 10 && (if b = 2 then isStrike b1
        else (isStrike b1 && prev.count = 10) || (!isStrike b1 && b1.count + prev.count = 10))
      if prev.foul || cleared then fullDeck
      else
        match prev.standing with
        | some set => .known set
        | none => .unknown ((match prev.pinsUp with | some u => pinCount u | none => 10) - prev.count)

/-- The lane's expected deck (R69). -/
def State.expectedDeck (s : State) (l : Lane) : Deck :=
  match s.upBowler l with
  | none => fullDeck
  | some (i, f, b) =>
    match s.line i with
    | some line => awaitedDeck f b (line.ballsOf f)
    | none => fullDeck

/-- The standby condition of a lane's machine (R50). -/
def State.machineIdles (s : State) (l : Lane) : Bool :=
  let st := (s.sessions.get l).state
  st = .closed || (st = .locked && !s.gameOnLane l)

/-- The pause condition of a lane (R148). -/
def State.pauseHolds (s : State) (l : Lane) : Bool :=
  let m := (s.psc.get l).state
  m = .fault || m = .service || s.ret.state = .fault

/-- The idle condition of the return (R81). -/
def State.returnIdles (s : State) : Bool :=
  s.sessions.left.state = .closed && s.sessions.right.state = .closed && s.ret.pits.left.isEmpty
    && s.ret.pits.right.isEmpty && s.ret.lift.isNone

/-! ### Sensing -/

/-- The enabled prefix of a scan list (R4). -/
def enabledRun (slots : List ScanSlot) : List ScanSlot := slots.takeWhile fun x => x.cfg.enabled

/-- The number of slots a lane's scans read in a scan mode (R4). -/
def effectiveLength (mode : ScanMode) (sensing : PerLane SensingLane) (l : Lane) : Nat :=
  let own := (enabledRun (sensing.get l).slots).length
  match mode with
  | .split => own
  | .paired => min own (enabledRun (sensing.get (otherLane l)).slots).length

def State.effectiveLength (s : State) (l : Lane) : Nat := Machine.effectiveLength s.head.mode s.sensing l

/-- The scan list of a lane covers the ten pins (R5). -/
def coversTenIn (mode : ScanMode) (sensing : PerLane SensingLane) (l : Lane) : Bool :=
  let read := (sensing.get l).slots.take (effectiveLength mode sensing l)
  pinList.all fun p => read.any fun x => x.cfg.point = .pin p

def State.coversTen (s : State) (l : Lane) : Bool := coversTenIn s.head.mode s.sensing l

/-- A run need of the lane is served from the injection buffer: SERVICE with run mode NORMAL (R8). -/
def State.injects (s : State) (l : Lane) : Bool :=
  (s.psc.get l).state = .service && (s.sensing.get l).runMode = .normal

/-- The lane has a head-served need waiting (R8). -/
def State.headNeed (s : State) (l : Lane) : Bool :=
  let n := (s.sensing.get l).needs
  n.check.isSome || n.cont || (n.run && (s.psc.get l).state ≠ .service)

/-- A head-served need waits on a lane without a sensing fault (R1, R3). -/
def State.needWaits (s : State) : Bool :=
  (s.headNeed .left && !s.sensing.left.fault) || (s.headNeed .right && !s.sensing.right.fault)

/-- The waking condition of the head (R1). -/
def State.headWakes (s : State) : Bool :=
  s.sessions.left.state = .opening || s.sessions.right.state = .opening
    || s.psc.left.state = .service || s.psc.right.state = .service || s.needWaits

/-- A session state that keeps the head awake (R3). -/
def SessionState.keepsAwake : SessionState → Bool
  | .opening | .opened | .overtime | .closing => true
  | .closed | .paused | .locked => false

/-- The standby condition of the head (R3). -/
def State.headIdles (s : State) : Bool :=
  !s.sessions.left.state.keepsAwake && !s.sessions.right.state.keepsAwake
    && s.psc.left.state ≠ .service && s.psc.right.state ≠ .service
    && s.sensing.left.scan.isNone && s.sensing.right.scan.isNone && !s.needWaits

/-! ### Billing -/

/-- The band in force at a minute (R153): the greatest start not after it, else the greatest start of all. The table is
held in order of start minute (R161). -/
def bandAt (rates : List Band) (minute : Nat) : Option Band :=
  match (rates.filter fun b => b.start ≤ minute).getLast? with
  | some b => some b
  | none => rates.getLast?

/-- The band in force now. With the time of day unset it is the band with the greatest start minute, which R150 gives for a game
charge; that row 61 of the monitor and read-meter show it too is the model's choice (R160, R165: log 49). -/
def State.bandNow (s : State) : Option Band :=
  match s.timeOfDay with
  | some m => bandAt s.rates m
  | none => s.rates.getLast?

/-- The prepaid games or minutes remaining as the billing mode uses them (R145). PER_GAME uses neither: the item is absent, two
bytes FF in the notice STATE (log 8). -/
def Session.remaining (x : Session) : Option Nat :=
  match x.mode with
  | .perGame => none
  | .timed => some x.prepaidMinutes
  | .prepaidGames => some x.prepaidGames

/-! ### The monitor -/

/-- The group a lane's lower half shows (R164). -/
def State.shownLower (s : State) (l : Lane) : Option Slot :=
  match (s.lanes.get l).occupant with
  | some g => some g
  | none => s.homeGroup l

/-- The group a lane's upper half shows (R164): in CROSS the other slot's group, if that slot holds one (R88). -/
def State.shownUpper (s : State) (l : Lane) : Option Slot :=
  match s.shownLower l with
  | some g =>
    match (s.groups.get g).playMode with
    | .openPlay => some g
    | .cross => if (s.groups.get (otherSlot g)).present then some (otherSlot g) else none
  | none => none

end Sys2Proof.Machine
end

