-- ==== Sys2Proof/Machine/Feed.lean ====
section
/-! DEFINITION. The Monitor Feed Unit (09_monitor_feed.md): the row plan, attributes, refresh marks, loads, banners and row
pulls. -/
namespace Sys2Proof.Machine

/-! ### The deck picture (R164) -/

/-- What the monitor shows of one pin, from the last ball or else from the PDU's pins-up set. -/
def pinShow (last : Option BallRecord) (deck : Deck) (p : Fin 10) : PinShow :=
  match last with
  | some b =>
    match b.pinsUp with
    | none => .unknown
    | some up =>
      match b.standing with
      | none => if hasPin up p then .unknown else .off
      | some st => if hasPin st p then .up else if hasPin up p then .down else .off
  | none =>
    match deck with
    | .known up => if hasPin up p then .up else .off
    | .unknown _ => .unknown

/-- The pins of a picture row, each with its number. -/
def pinRow (last : Option BallRecord) (deck : Deck) (pins : List (Fin 10)) : List (Nat × PinShow) :=
  pins.map fun p => (p.val + 1, pinShow last deck p)

/-! ### Attributes (R166) -/

def isProvisional (t : Option Total) : Bool :=
  match t with
  | some t => t.state = .provisional
  | none => false

def Line.provisionalMark (l : Line) : Bool := l.frames.any fun f => f.balls.any fun b => b.state = .provisional

def Line.provisionalTotal (l : Line) : Bool :=
  (l.frames.any fun f => f.running.isSome && f.state = some .provisional) || isProvisional l.scratch
    || isProvisional l.gameTotal

/-- Position `p`, from 1, is in a highlight set. -/
def hasPosition (set : Positions) (p : Nat) : Bool := set.getLsbD (p - 1)

/-- The first case of R166 that applies. -/
def lookOf (provisional highlighted : Bool) : Attribute :=
  if provisional then .provisional else if highlighted then .highlight else .normal

/-! ### The row plan -/

/-- The line at an order position of a group, if there is one. -/
def State.lineAt (s : State) (g : Option Slot) (p : Nat) : Option Line :=
  match g with
  | some g =>
    match (s.groups.get g).order[p - 1]? with
    | some i => s.line i
    | none => none
  | none => none

/-- The positions 1 to 8 of the plan. -/
def planPositions : List Nat := [1, 2, 3, 4, 5, 6, 7, 8]

/-- The three lower rows of one order position (R164, R166). -/
def positionRows (f : Feed) (line : Option Line) (p : Nat) : List Row :=
  let lit := hasPosition f.highlights p || f.oneShot = some p
  match line with
  | none => List.replicate 3 ⟨lookOf false lit, .blank⟩
  | some l =>
    [⟨lookOf false lit, .bowler p l.name l.status l.handicap⟩,
     ⟨lookOf l.provisionalMark lit, .ballMarks (l.frames.map fun fr => (fr.number, fr.missed, fr.marks))⟩,
     ⟨lookOf l.provisionalTotal lit, .totals (l.frames.map (·.running)) l.scratch l.gameTotal⟩]

/-- Row 2 (R164). -/
def State.groupRow (s : State) (g : Option Slot) : RowFields :=
  match g with
  | some g =>
    let r := s.groups.get g
    .groupHead r.name r.state r.playMode r.game r.frame
  | none => .blank

/-- Row 3 (R164). -/
def State.upRow (s : State) (l : Lane) : RowFields :=
  match s.upBowler l with
  | some (i, frame, ball) =>
    match s.line i with
    | some line => .upBowler line.name frame ball
    | none => .blank
  | none => .blank

/-- The lower half of a lane (R164), for a feed whose highlights and last ball are `f`'s. -/
def State.composeLower (s : State) (l : Lane) (f : Feed) : List Row :=
  let m := s.psc.get l
  let x := s.sessions.get l
  let g := s.shownLower l
  let deck := (s.pdu.get l).deck
  let ballLook := match f.lastBall with
    | some b => lookOf (b.state = .provisional) false
    | none => .normal
  [⟨.normal, .laneHead (s.laneNumber l) m.state m.cause s.ret.state s.ret.cause
      (liftCondition s.ret s.settings.rackCapacity)⟩,
   ⟨.normal, .sessionHead x.state x.pausedFrom x.mode⟩,
   ⟨.normal, s.groupRow g⟩,
   ⟨.normal, s.upRow l⟩]
  ++ planPositions.flatMap (fun p => positionRows f (s.lineAt g p) p)
  ++ [⟨.normal, .pins (pinRow f.lastBall deck [6, 7, 8, 9])⟩,
      ⟨.normal, .pins (pinRow f.lastBall deck [3, 4, 5])⟩,
      ⟨.normal, .pins (pinRow f.lastBall deck [1, 2])⟩,
      ⟨ballLook, .pinsAndBall (pinRow f.lastBall deck [0]) f.lastBall⟩]

/-- How many entries of the pending correction queue name a line of the group homed on a lane (R165). -/
def State.correctionsHomed (s : State) (l : Lane) : Nat :=
  (s.corrections.filter fun e => s.lineTest e.line fun line => s.homeGroup l = some line.group).length

/-- The group the upper half shows, when its rows are filled: a slot that is EMPTY and a group whose totals are both absent
leave their rows blank (R165, log 31). -/
def State.upperGroup (s : State) (l : Lane) : Option Slot :=
  match s.shownUpper l with
  | some g =>
    let r := s.groups.get g
    if r.present && (r.runningTotal.isSome || r.groupTotal.isSome) then some g else none
  | none => none

/-- Rows 33 to 40, for one position (R165). -/
def totalRow (f : Feed) (own : Bool) (line : Option Line) (p : Nat) : Row :=
  let lit := own && hasPosition f.highlights p
  match line with
  | none => ⟨lookOf false lit, .blank⟩
  | some l =>
    let t := if own then l.gameTotal else lastRunning l.frames
    ⟨lookOf (isProvisional t) lit, .lineTotal l.name (t.map (·.value))⟩

/-- Rows 41 to 48, for one position, of a group whose frame in progress is `frame` (R165). -/
def pastRow (f : Feed) (own : Bool) (line : Option Line) (frame p : Nat) : Row :=
  let lit := own && hasPosition f.highlights p
  match line with
  | none => ⟨lookOf false lit, .blank⟩
  | some l => ⟨lookOf false lit, if own then .pastGames (l.games.map (·.scratch)) else .awaited (l.awaits frame)⟩

/-- The four meter rows (R165). -/
def State.meterRows (s : State) (l : Lane) : List Row :=
  let x := s.sessions.get l
  if x.meterDisplay then
    [⟨.normal, .meterAllowance x.mode x.remaining⟩, ⟨.normal, .meterCounts x.meter.games x.meter.minutes⟩,
     ⟨.normal, .meterCents x.meter.cents⟩, ⟨.normal, .meterBand s.bandNow⟩]
  else List.replicate 4 .blank

/-- The upper half of a lane (R165). -/
def State.composeUpper (s : State) (l : Lane) (f : Feed) : List Row :=
  let shown := s.shownUpper l
  let own := shown = s.shownLower l
  let g := s.upperGroup l
  let frame := match g with | some g => (s.groups.get g).frame | none => 1
  let head : Row := match g with
    | some g =>
      let r := s.groups.get g
      ⟨lookOf (isProvisional r.runningTotal || isProvisional r.groupTotal) false,
        .groupTotals r.name r.game r.runningTotal r.groupTotal⟩
    | none => .blank
  let waiting := s.correctionsHomed l
  [head]
  ++ planPositions.map (fun p => totalRow f (own && shown.isSome) (s.lineAt g p) p)
  ++ planPositions.map (fun p => pastRow f (own && shown.isSome) (s.lineAt g p) frame p)
  ++ List.replicate 8 .blank
  ++ [if waiting = 0 then .blank else ⟨.normal, .pendingCorrections waiting⟩]
  ++ s.meterRows l
  ++ [match s.timeOfDay with | some m => ⟨.normal, .timeOfDay m⟩ | none => .blank]
  ++ [⟨.normal, .laneNumbers (s.laneNumber l) (s.laneNumber (otherLane l))⟩]

/-! ### Marks and loads -/

/-- A composition event marks halves while no banner is shown (R169). Before the pair is CONFIGURED none is marked (R173). -/
def Feed.mark (f : Feed) (configured lower upper : Bool) : Feed :=
  if configured && f.banner = .none then
    { f with markLower := f.markLower || lower, markUpper := f.markUpper || upper }
  else f

def State.markFeed (s : State) (l : Lane) (lower upper : Bool) : State := s.modFeed l fun f => f.mark s.configured lower upper

/-- The same marks on both lanes. -/
def State.markFeeds (s : State) (lower upper : Bool) : State := (s.markFeed .left lower upper).markFeed .right lower upper

/-- Each half of each lane that shows a group, or showed it in the state `before` a change, is marked (R169). -/
def State.markShowing (s before : State) (g : Slot) : State :=
  let lower (l : Lane) : Bool := s.shownLower l = some g || before.shownLower l = some g
  let upper (l : Lane) : Bool := s.shownUpper l = some g || before.shownUpper l = some g
  (s.markFeed .left (lower .left) (upper .left)).markFeed .right (lower .right) (upper .right)

/-- A load of the lower half (R170). -/
def Feed.loadLower (f : Feed) (rows : List Row) : Feed :=
  { f with lower := rows, markLower := false, pendingHalf := .lower, oneShotCarried := f.oneShot.isSome }

/-- A load of the upper half (R170). -/
def Feed.loadUpper (f : Feed) (rows : List Row) : Feed :=
  { f with upper := rows, markUpper := false, pendingHalf := .upper }

/-- A full load (R171, R167). -/
def Feed.loadAll (f : Feed) (lower upper : List Row) : Feed :=
  { f with lower := lower, upper := upper, pointer := 0, pendingHalf := .none, markLower := false, markUpper := false
           oneShot := none, oneShotCarried := false, composeOwed := false }

/-- The loads that fall due at the end of an event (R170, R171). -/
def Feed.load (f : Feed) (lower upper : List Row) : Feed :=
  if f.composeOwed then f.loadAll lower upper
  else if f.markLower && 32 ≤ f.pointer && f.pointer ≤ 62 then f.loadLower lower
  else if f.markUpper && f.pointer ≤ 30 then f.loadUpper upper
  else f

/-- The loads of one lane's feed, composed from the state held at the event. -/
def State.loadFeed (s : State) (l : Lane) : Feed :=
  let f := s.feeds.get l
  f.load (s.composeLower l f) (s.composeUpper l f)

def State.feedLoads (s : State) : State := { s with feeds := ⟨s.loadFeed .left, s.loadFeed .right⟩ }

/-! ### Banners (R171) -/

def groupMoves (s : State) (g : Option Slot) : Bool :=
  match g with
  | some g => (s.groups.get g).isFrozen
  | none => false

/-- The first banner whose condition holds on a lane. -/
def State.bannerOf (s : State) (l : Lane) : Banner :=
  let x := (s.sessions.get l).state
  let m := (s.psc.get l).state
  if x = .closed then .laneClosed
  else if groupMoves s (s.lanes.get l).occupant || groupMoves s (s.homeGroup l) then .moving
  else if m = .fault then .machineFault
  else if m = .service then .service
  else if x = .locked && !s.gameOnLane l then .locked
  else .none

/-- A banner fill: the banner's row in all 64 rows (R171). -/
def Feed.fill (f : Feed) (b : Banner) (lane : Option Nat) : Feed :=
  { f with lower := List.replicate 32 ⟨.normal, .banner b lane⟩, upper := List.replicate 32 ⟨.normal, .banner b lane⟩
           pointer := 0, pendingHalf := .none, markLower := false, markUpper := false, banner := b
           oneShot := none, oneShotCarried := false, composeOwed := false }

/-- The new banner state of a feed: a fill, a full load that the end of the event composes, or nothing (R171). -/
def Feed.onBanner (f : Feed) (b : Banner) (lane : Option Nat) : Feed :=
  if b = f.banner then f
  else if b = .none then { f with banner := .none, composeOwed := true }
  else f.fill b lane

/-- The banner conditions of a lane evaluated; none is while the pair is UNCONFIGURED (R171). -/
def State.bannerEval (s : State) (l : Lane) : State :=
  s.modFeed l fun f => if s.configured then f.onBanner (s.bannerOf l) (s.laneNumber l) else f

def State.bannersEval (s : State) : State := (s.bannerEval .left).bannerEval .right

/-! ### Balls, highlights and pulls -/

/-- The last ball of a lane and the mark of its lower half (R164, R169). -/
def State.showBall (s : State) (l : Lane) (b : Option BallRecord) : State :=
  (s.modFeed l fun f => { f with lastBall := b }).markFeed l true false

/-- The one-shot highlight set to a position; no load has carried it yet (R167). -/
def State.setOneShot (s : State) (l : Lane) (p : Nat) : State :=
  s.modFeed l fun f => { f with oneShot := some p, oneShotCarried := false }

/-- The persistent highlight set of a lane emptied (R167). -/
def State.dropHighlights (s : State) (l : Lane) : State := s.modFeed l fun f => { f with highlights := 0#8 }

/-- The row with a number (R168). -/
def Feed.rowAt (f : Feed) (n : Nat) : Row :=
  if n < 32 then f.lower[n]?.getD .blank else f.upper[n - 32]?.getD .blank

/-- A row pull: the row at the pointer leaves, and the pointer advances (R168, R167). -/
def Feed.pull (f : Feed) : Feed :=
  let sent := { f with rowOut := some (f.pointer, f.rowAt f.pointer) }
  if f.pointer = 31 then
    { sent with pointer := 32, pendingHalf := if f.pendingHalf = .upper then .none else f.pendingHalf }
  else if 63 ≤ f.pointer then
    { sent with
      pointer := 0, pendingHalf := if f.pendingHalf = .lower then .none else f.pendingHalf
      oneShot := if f.oneShotCarried then none else f.oneShot, oneShotCarried := false }
  else { sent with pointer := f.pointer + 1 }

/-- At pair clear: the highlights and the last ball go, and a LANE CLOSED fill is made even over LANE CLOSED (R173). -/
def Feed.clear (f : Feed) (configured : Bool) (lane : Option Nat) : Feed :=
  let f := { f with highlights := 0#8, oneShot := none, oneShotCarried := false, lastBall := none }
  if configured then f.fill .laneClosed lane else f

end Sys2Proof.Machine
end

