-- ==== Sys2Proof/WellFormed.lean ====
section
/-! DEFINITION. The well-formed commands: every operand fits the bytes that R196 gives its field, a raw reading lies
within 0 to 1023 (R1), a whole frame has the body its length bytes name. A value that fits its bytes but lies outside its
rule's range is well formed: the rule refuses it. -/
namespace Sys2Proof

/-- A number that `k` bytes hold. -/
def fits (k n : Nat) : Bool := n < 256 ^ k

/-- A number that may be absent: in `k` bytes it is not the value with every bit set (R196). -/
def fitsOpt (k : Nat) : Option Nat → Bool
  | none => true
  | some n => n + 1 < 256 ^ k

/-- A signed number of two bytes (R196). -/
def fitsInt (i : Int) : Bool := -32768 ≤ i && i ≤ 32767

/-- A list whose length one byte holds (log 8) and whose members are well formed. -/
def fitsList {α : Type} (ok : α → Bool) (l : List α) : Bool := l.length < 256 && l.all ok

/-- How many bytes the value of a set-config item takes: the fewest that hold its range (R192, R196). -/
def configWidth (item : Nat) : Nat :=
  if item = 1 ∨ item = 3 ∨ item = 5 ∨ item = 6 ∨ item = 7 ∨ item = 12 then 2 else 1

def BowlerSpec.wf (b : BowlerSpec) : Bool :=
  b.name.length < 256 && fitsOpt 2 b.average && fits 1 b.mode && fitsOpt 2 b.fixed

def Band.wf (b : Band) : Bool := fits 2 b.start && fits 2 b.price && fits 2 b.hourly

def LineChanges.wf (c : LineChanges) : Bool :=
  (match c.name with | some n => n.length < 256 | none => true)
  && (match c.average with | some a => fitsOpt 2 a | none => true)
  && (match c.handicap with | some h => fits 1 h.1 && fitsOpt 2 h.2 | none => true)
  && (match c.position with | some p => fits 1 p | none => true)

def EntryBall.wf (b : EntryBall) : Bool :=
  fits 1 b.count && fits 1 b.source && fitsOpt 2 b.pinsUp && fitsOpt 2 b.standing

def EntryFrame.wf (f : EntryFrame) : Bool := fits 1 f.number && fitsList EntryBall.wf f.balls

def GameEntry.wf (g : GameEntry) : Bool := fits 1 g.game && fits 2 g.scratch && fits 1 g.handicap

def EntryContent.wf : EntryContent → Bool
  | .header name mode game _ frame position =>
    name.length < 256 && fits 1 mode && fitsOpt 2 game && fits 1 frame && fitsOpt 1 position
  | .line name average mode fixed status games =>
    name.length < 256 && fitsOpt 2 average && fits 1 mode && fitsOpt 2 fixed && fits 1 status && fitsList GameEntry.wf games
  | .frames records => fitsList EntryFrame.wf records
  | .malformed kind bytes => fits 1 kind && fits 2 bytes.length

def Request.wf : Request → Bool
  | .setConfig item value step =>
    item < 13 && fits (configWidth item) value
      && (match step with | some k => item = 9 && fits 1 k | none => item ≠ 9)
  | .setHandicap basis percent cap noAverage => fits 2 basis && fits 1 percent && fits 1 cap && fits 1 noAverage
  | .setTime minute => fits 2 minute
  | .setRates bands => fitsList Band.wf bands
  | .openSession lane mode _ _ _ _ overflow allowance => fits 1 lane && fits 1 mode && fits 1 overflow && fits 2 allowance
  | .setSessionFlags lane _ _ _ _ overflow => fits 1 lane && fits 1 overflow
  | .closeSession lane manner => fits 1 lane && fits 1 manner
  | .unlock lane mode allowance => fits 1 lane && fits 1 mode && fits 2 allowance
  | .moveGroup slot lane => fits 1 slot && fits 1 lane
  | .approve n | .deny n | .dismissGroup n | .saveGroup n | .resumeGroup n | .releaseMoved n | .newGame n | .readLine n
  | .claimLine n | .releaseLine n | .reRack n | .setScanMode n | .stopMachine n | .clearFault n | .readMeter n
  | .readSensing n | .readPinfall n | .readMachine n | .readScores n | .readFeed n => fits 1 n
  | .savePart slot _ => fits 1 slot
  | .loadBegin transfer slot lane count => fits 1 transfer && fits 1 slot && fits 1 lane && fits 1 count
  | .loadPart transfer entries | .loadEnd transfer entries => fits 1 transfer && fitsList EntryContent.wf entries
  | .createGroup slot name lane bowlers => fits 1 slot && name.length < 256 && fits 1 lane && fitsList BowlerSpec.wf bowlers
  | .addBowler slot bowler => fits 1 slot && bowler.wf
  | .setPlayMode slot mode => fits 1 slot && fits 1 mode
  | .editLine line base changes => fits 1 line && fits 2 base && changes.wf
  | .correctBall line game frame ball count _ base =>
    fits 1 line && fits 1 game && fits 1 frame && fits 1 ball && fits 1 count && fits 2 base
  | .manualBall lane count _ => fits 1 lane && fits 1 count
  | .setScoringSource lane source => fits 1 lane && fits 1 source
  | .setHighlight lane positions => fits 1 lane && fitsList (fits 1) positions
  | .setSlot slot lane point _ baseline high low _ =>
    fits 1 slot && fits 1 lane && fits 1 point && fits 2 baseline && fitsInt high && fitsInt low
  | .setRunMode lane mode => fits 1 lane && fits 1 mode
  | .injectReadings lane readings => fits 1 lane && fitsList (fits 2) readings
  | .armTest lane pins => fits 1 lane && fits 2 pins
  | .issueStep lane step => fits 1 lane && fits 1 step
  | .resumeMachine lane choice => fits 1 lane && fits 1 choice
  | .clearReturn lift left right rack => fits 1 lift && fits 1 left && fits 1 right && fitsOpt 1 rack
  | .configDone | .pairClear | .restartHead | .readLinks | .readStatus | .readReturn | .readPlay | .readCorrections
  | .readRates | .readTransfer | .setMask _ | .linkReset => true

/-- The request that a request command carries, if it is one. -/
def Instr.request : Instr → Option (Link × Tag × Request)
  | .setConfig k t a b c => some (k, t, .setConfig a b c)
  | .configDone k t => some (k, t, .configDone)
  | .setHandicap k t a b c d => some (k, t, .setHandicap a b c d)
  | .setTime k t a => some (k, t, .setTime a)
  | .setRates k t a => some (k, t, .setRates a)
  | .readRates k t => some (k, t, .readRates)
  | .pairClear k t => some (k, t, .pairClear)
  | .openSession k t a b c d e f g h => some (k, t, .openSession a b c d e f g h)
  | .setSessionFlags k t a b c d e f => some (k, t, .setSessionFlags a b c d e f)
  | .closeSession k t a b => some (k, t, .closeSession a b)
  | .unlock k t a b c => some (k, t, .unlock a b c)
  | .readMeter k t a => some (k, t, .readMeter a)
  | .approve k t a => some (k, t, .approve a)
  | .deny k t a => some (k, t, .deny a)
  | .moveGroup k t a b => some (k, t, .moveGroup a b)
  | .dismissGroup k t a => some (k, t, .dismissGroup a)
  | .saveGroup k t a => some (k, t, .saveGroup a)
  | .savePart k t a b => some (k, t, .savePart a b)
  | .loadBegin k t a b c d => some (k, t, .loadBegin a b c d)
  | .loadPart k t a b => some (k, t, .loadPart a b)
  | .loadEnd k t a b => some (k, t, .loadEnd a b)
  | .resumeGroup k t a => some (k, t, .resumeGroup a)
  | .releaseMoved k t a => some (k, t, .releaseMoved a)
  | .createGroup k t a b c d => some (k, t, .createGroup a b c d)
  | .addBowler k t a b => some (k, t, .addBowler a b)
  | .setPlayMode k t a b => some (k, t, .setPlayMode a b)
  | .newGame k t a => some (k, t, .newGame a)
  | .readLine k t a => some (k, t, .readLine a)
  | .claimLine k t a => some (k, t, .claimLine a)
  | .releaseLine k t a => some (k, t, .releaseLine a)
  | .editLine k t a b c => some (k, t, .editLine a b c)
  | .correctBall k t a b c d e f g => some (k, t, .correctBall a b c d e f g)
  | .manualBall k t a b c => some (k, t, .manualBall a b c)
  | .reRack k t a => some (k, t, .reRack a)
  | .setScoringSource k t a b => some (k, t, .setScoringSource a b)
  | .setHighlight k t a b => some (k, t, .setHighlight a b)
  | .setSlot k t a b c d e f g h => some (k, t, .setSlot a b c d e f g h)
  | .setScanMode k t a => some (k, t, .setScanMode a)
  | .setRunMode k t a b => some (k, t, .setRunMode a b)
  | .restartHead k t => some (k, t, .restartHead)
  | .injectReadings k t a b => some (k, t, .injectReadings a b)
  | .armTest k t a b => some (k, t, .armTest a b)
  | .stopMachine k t a => some (k, t, .stopMachine a)
  | .issueStep k t a b => some (k, t, .issueStep a b)
  | .clearFault k t a => some (k, t, .clearFault a)
  | .resumeMachine k t a b => some (k, t, .resumeMachine a b)
  | .clearReturn k t a b c d => some (k, t, .clearReturn a b c d)
  | .readLinks k t => some (k, t, .readLinks)
  | .readStatus k t => some (k, t, .readStatus)
  | .readSensing k t a => some (k, t, .readSensing a)
  | .readPinfall k t a => some (k, t, .readPinfall a)
  | .readMachine k t a => some (k, t, .readMachine a)
  | .readReturn k t => some (k, t, .readReturn)
  | .readPlay k t => some (k, t, .readPlay)
  | .readScores k t a => some (k, t, .readScores a)
  | .readCorrections k t => some (k, t, .readCorrections)
  | .readFeed k t a => some (k, t, .readFeed a)
  | .readTransfer k t => some (k, t, .readTransfer)
  | .setMask k t a => some (k, t, .setMask a)
  | .linkReset k t => some (k, t, .linkReset)
  | .powerOn | .frameReceived .. | .frameGapTimeout _ | .transmitComplete _ | .breakBegin _ | .breakEnd _ | .readout ..
  | .readoutTimeout _ | .warmUpExpiry | .continuousScanExpiry _ | .arrival _ | .foulBreak _ | .pinActionDelayExpiry _
  | .scanTimerExpiry _ | .settleWindowExpiry _ | .foulGraceExpiry _ | .cycleDelayExpiry _ | .startTimerExpiry _ | .done _
  | .redo _ | .faultCompletion .. | .stepTimerExpiry _ | .pitDetector _ | .liftTopSensor | .rackTake | .carryTimerExpiry
  | .claimTimerExpiry _ | .minuteTimerExpiry | .gapTimerExpiry | .rowPull _ => none

/-- The well-formed commands: a request as its fields say, a frame whose body has the length it names, raw readings
within range, a line id of 1 to 16. -/
def Instr.wf (i : Instr) : Bool :=
  match i.request with
  | some (_, _, r) => r.wf
  | none =>
    match i with
    | .frameReceived _ hi lo _ _ body _ => body.length = 256 * hi.toNat + lo.toNat
    | .readout _ left right => left.all (· ≤ 1023) && right.all (· ≤ 1023)
    | .claimTimerExpiry line => 1 ≤ line && line ≤ 16
    | _ => true

end Sys2Proof
end

