-- ==== Sys2Proof/Decode.lean ====
section
/-! DEFINITION. The bytes of a request frame (R187, R196) and the request they spell, in both directions; and the table's own
word, which no row of spec/opcode_table.json gives bits. Layout details that R196 leaves open are those of log 8 and log 9. -/
namespace Sys2Proof

/-- The command a table word spells: the table gives no row any bits, so none does (log 27). -/
def decodeTableWord (_nbits _w : Nat) : Option Instr := none

/-! ### Numbers and texts as bytes -/

/-- A number in `k` bytes, most significant byte first (R196). -/
def be : Nat → Nat → List Byte
  | 0, _ => []
  | k + 1, n => byte (n / 256 ^ k) :: be k n

/-- A number that may be absent: every bit set when it is (R196). -/
def beOpt (k : Nat) : Option Nat → List Byte
  | some n => be k n
  | none => List.replicate k 255#8

/-- A signed number in `k` bytes, two's complement (R196). -/
def beInt (k : Nat) (i : Int) : List Byte := be k (i % (256 ^ k : Int)).toNat

/-- A signed number of `k` bytes that may be absent and of which -1 is a value: one byte more than its range needs, so that
every bit set means absent alone (R196). DEDUCED (log 60): the byte added stands first and is 0 below a number. -/
def beIntOpt (k : Nat) : Option Int → List Byte
  | some i => 0#8 :: beInt k i
  | none => List.replicate (k + 1) 255#8

/-- A yes/no byte (R196). -/
def yesNo (b : Bool) : List Byte := [if b then 1#8 else 0#8]

/-- A text: a length byte, then its characters (R196). -/
def text (n : Name) : List Byte := byte n.length :: n

/-- A list: a count byte, then its members in order (log 8). -/
def listed {α : Type} (f : α → List Byte) (l : List α) : List Byte := byte l.length :: (l.map f).flatten

/-! ### Reading bytes -/

/-- A reader of bytes: what it reads and the bytes left, or nothing when the bytes do not read. -/
abbrev Reader (α : Type) := List Byte → Option (α × List Byte)

def Reader.pure {α : Type} (a : α) : Reader α := fun b => some (a, b)

def Reader.bind {α β : Type} (r : Reader α) (f : α → Reader β) : Reader β := fun b =>
  match r b with
  | some (a, rest) => f a rest
  | none => none

/-- A reader's result when it uses every byte (R188: a body too short or too long is refused). -/
def Reader.run {α : Type} (r : Reader α) (b : List Byte) : Option α :=
  match r b with
  | some (a, []) => some a
  | _ => none

/-- A number of `k` bytes, with what the bytes before it made. -/
def readNumFrom : Nat → Nat → Reader Nat
  | 0, acc => Reader.pure acc
  | k + 1, acc => fun b =>
    match b with
    | [] => none
    | x :: rest => readNumFrom k (256 * acc + x.toNat) rest

def readNum (k : Nat) : Reader Nat := readNumFrom k 0

/-- A number that may be absent (R196). -/
def readOpt (k : Nat) : Reader (Option Nat) :=
  (readNum k).bind fun n => Reader.pure (if n + 1 = 256 ^ k then none else some n)

/-- A signed number of two bytes (R196). -/
def readInt : Reader Int :=
  (readNum 2).bind fun n => Reader.pure (if n < 32768 then (n : Int) else (n : Int) - 65536)

/-- A yes/no byte: 0 or 1, and nothing else reads (log 10). -/
def readYesNo : Reader Bool := fun b =>
  match b with
  | x :: rest => if x = 0#8 then some (false, rest) else if x = 1#8 then some (true, rest) else none
  | [] => none

/-- `k` bytes as they stand. -/
def readBytes (k : Nat) : Reader (List Byte) := fun b => if k ≤ b.length then some (b.take k, b.drop k) else none

def readText : Reader Name := (readNum 1).bind readBytes

/-- `k` members in order. -/
def readMany {α : Type} (r : Reader α) : Nat → Reader (List α)
  | 0 => Reader.pure []
  | k + 1 => r.bind fun a => (readMany r k).bind fun l => Reader.pure (a :: l)

/-- A list with its count byte (log 8). -/
def readList {α : Type} (r : Reader α) : Reader (List α) := (readNum 1).bind (readMany r)

/-! ### The records of request bodies -/

def BowlerSpec.encode (b : BowlerSpec) : List Byte := text b.name ++ beOpt 2 b.average ++ be 1 b.mode ++ beOpt 2 b.fixed

def readBowler : Reader BowlerSpec :=
  readText.bind fun name => (readOpt 2).bind fun average => (readNum 1).bind fun mode =>
    (readOpt 2).bind fun fixed => Reader.pure ⟨name, average, mode, fixed⟩

def Band.encode (b : Band) : List Byte := be 2 b.start ++ be 2 b.price ++ be 2 b.hourly

def readBand : Reader Band :=
  (readNum 2).bind fun start => (readNum 2).bind fun price => (readNum 2).bind fun hourly =>
    Reader.pure ⟨start, price, hourly⟩

/-- The change mask of an edit-line body: bit 0 name, 1 average, 2 handicap, 3 position, 4 withdraw (log 8). -/
def LineChanges.mask (c : LineChanges) : Nat :=
  c.name.isSome.toNat + 2 * c.average.isSome.toNat + 4 * c.handicap.isSome.toNat + 8 * c.position.isSome.toNat
    + 16 * c.withdraw.toNat

def LineChanges.encode (c : LineChanges) : List Byte :=
  be 1 c.mask
    ++ (match c.name with | some n => text n | none => [])
    ++ (match c.average with | some a => beOpt 2 a | none => [])
    ++ (match c.handicap with | some h => be 1 h.1 ++ beOpt 2 h.2 | none => [])
    ++ (match c.position with | some p => be 1 p | none => [])

/-- A field that is there only when its mask bit is set. -/
def readIf {α : Type} (present : Bool) (r : Reader α) : Reader (Option α) :=
  if present then r.bind fun a => Reader.pure (some a) else Reader.pure none

/-- The changes of an edit-line, with the mask of log 8 before them; a mask with a bit above bit 4 set does not read (log 10). -/
def readChanges : Reader LineChanges :=
  (readNum 1).bind fun mask =>
    if mask < 32 then
      (readIf (mask.testBit 0) readText).bind fun name =>
      (readIf (mask.testBit 1) (readOpt 2)).bind fun average =>
      (readIf (mask.testBit 2)
        ((readNum 1).bind fun mode => (readOpt 2).bind fun fixed => Reader.pure (mode, fixed))).bind fun handicap =>
      (readIf (mask.testBit 3) (readNum 1)).bind fun position =>
        Reader.pure ⟨name, average, handicap, position, mask.testBit 4⟩
    else fun _ => none

def GameEntry.encode (g : GameEntry) : List Byte := be 1 g.game ++ be 2 g.scratch ++ be 1 g.handicap

def readGameEntry : Reader GameEntry :=
  (readNum 1).bind fun game => (readNum 2).bind fun scratch => (readNum 1).bind fun handicap =>
    Reader.pure ⟨game, scratch, handicap⟩

/-- A ball of a frames entry, in 7 bytes: count, foul (bit 0) and split (bit 1), source, pins up, standing (R196). -/
def EntryBall.encode (b : EntryBall) : List Byte :=
  be 1 b.count ++ be 1 (b.foul.toNat + 2 * b.split.toNat) ++ be 1 b.source ++ beOpt 2 b.pinsUp ++ beOpt 2 b.standing

/-- A ball of a frames entry; a flag byte with a bit above the split bit does not read (log 53). -/
def readEntryBall : Reader EntryBall :=
  (readNum 1).bind fun count => (readNum 1).bind fun bits => (readNum 1).bind fun source =>
  (readOpt 2).bind fun pinsUp => (readOpt 2).bind fun standing =>
    if bits < 4 then Reader.pure ⟨count, bits.testBit 0, bits.testBit 1, source, pinsUp, standing⟩ else fun _ => none

def EntryFrame.encode (f : EntryFrame) : List Byte := be 1 f.number ++ yesNo f.missed ++ listed EntryBall.encode f.balls

def readEntryFrame : Reader EntryFrame :=
  (readNum 1).bind fun number => readYesNo.bind fun missed => (readList readEntryBall).bind fun balls =>
    Reader.pure ⟨number, missed, balls⟩

/-- The kind byte of an entry: 1 header, 2 line, 3 frames (R196). -/
def EntryContent.kind : EntryContent → Nat
  | .header .. => 1
  | .line .. => 2
  | .frames _ => 3
  | .malformed kind _ => kind

/-- What follows an entry's kind and length (R196). -/
def EntryContent.content : EntryContent → List Byte
  | .header name mode game inProgress frame position =>
    text name ++ be 1 mode ++ beOpt 2 game ++ yesNo inProgress ++ be 1 frame ++ beOpt 1 position
  | .line name average mode fixed status games =>
    text name ++ beOpt 2 average ++ be 1 mode ++ beOpt 2 fixed ++ be 1 status ++ listed GameEntry.encode games
  | .frames records => listed EntryFrame.encode records
  | .malformed _ bytes => bytes

/-- An entry: its kind, a two-byte length of what follows, and that (R196). -/
def EntryContent.encode (e : EntryContent) : List Byte := be 1 e.kind ++ be 2 e.content.length ++ e.content

def readHeader : Reader EntryContent :=
  readText.bind fun name => (readNum 1).bind fun mode => (readOpt 2).bind fun game => readYesNo.bind fun inProgress =>
  (readNum 1).bind fun frame => (readOpt 1).bind fun position =>
    Reader.pure (.header name mode game inProgress frame position)

def readLineEntry : Reader EntryContent :=
  readText.bind fun name => (readOpt 2).bind fun average => (readNum 1).bind fun mode => (readOpt 2).bind fun fixed =>
  (readNum 1).bind fun status => (readList readGameEntry).bind fun games =>
    Reader.pure (.line name average mode fixed status games)

def readFrames : Reader EntryContent := (readList readEntryFrame).bind fun records => Reader.pure (.frames records)

/-- The content of an entry by its kind; content that does not read is kept as it stands (R178). -/
def entryContent (kind : Nat) (bytes : List Byte) : EntryContent :=
  let read : Option EntryContent :=
    if kind = 1 then readHeader.run bytes
    else if kind = 2 then readLineEntry.run bytes
    else if kind = 3 then readFrames.run bytes
    else none
  match read with
  | some e => e
  | none => .malformed kind bytes

def readEntry : Reader EntryContent :=
  (readNum 1).bind fun kind => (readNum 2).bind fun len => (readBytes len).bind fun bytes =>
    Reader.pure (entryContent kind bytes)

/-! ### Requests -/

/-- The type number of a request, 1 to 60 (the table "Rights"). -/
def Request.kind : Request → Nat
  | .setConfig .. => 1 | .configDone => 2 | .setHandicap .. => 3 | .setTime _ => 4 | .setRates _ => 5 | .pairClear => 6
  | .openSession .. => 7 | .setSessionFlags .. => 8 | .closeSession .. => 9 | .unlock .. => 10 | .readMeter _ => 11
  | .approve _ => 12 | .deny _ => 13 | .moveGroup .. => 14 | .dismissGroup _ => 15 | .saveGroup _ => 16
  | .savePart .. => 17 | .loadBegin .. => 18 | .loadPart .. => 19 | .loadEnd .. => 20 | .resumeGroup _ => 21
  | .releaseMoved _ => 22 | .createGroup .. => 23 | .addBowler .. => 24 | .setPlayMode .. => 25 | .newGame _ => 26
  | .readLine _ => 27 | .claimLine _ => 28 | .releaseLine _ => 29 | .editLine .. => 30 | .correctBall .. => 31
  | .manualBall .. => 32 | .reRack _ => 33 | .setScoringSource .. => 34 | .setHighlight .. => 35 | .setSlot .. => 36
  | .setScanMode _ => 37 | .setRunMode .. => 38 | .restartHead => 39 | .injectReadings .. => 40 | .armTest .. => 41
  | .stopMachine _ => 42 | .issueStep .. => 43 | .clearFault _ => 44 | .resumeMachine .. => 45 | .clearReturn .. => 46
  | .readLinks => 47 | .readStatus => 48 | .readSensing _ => 49 | .readPinfall _ => 50 | .readMachine _ => 51
  | .readReturn => 52 | .readPlay => 53 | .readScores _ => 54 | .readCorrections => 55 | .readRates => 56
  | .readFeed _ => 57 | .readTransfer => 58 | .setMask _ => 59 | .linkReset => 60

/-- The ten class flags of set-mask, one yes/no byte each in the order of R190. -/
def maskBytes (m : BitVec 10) : List Byte := ((List.range 10).map fun i => yesNo (m.getLsbD i)).flatten

def readMask : Reader (BitVec 10) :=
  (readMany readYesNo 10).bind fun flags =>
    Reader.pure (BitVec.ofNat 10 (flags.foldr (fun b acc => b.toNat + 2 * acc) 0))

/-- The body of a request: its fields in the order its rule lists them (R196). -/
def Request.encode : Request → List Byte
  | .setConfig item value step => be 1 item ++ be (configWidth item) value ++ (match step with | some k => be 1 k | none => [])
  | .setHandicap basis percent cap noAverage => be 2 basis ++ be 1 percent ++ be 1 cap ++ be 1 noAverage
  | .setTime minute => be 2 minute
  | .setRates bands => listed Band.encode bands
  | .openSession lane mode league autoNext foulDetect meterDisplay overflow allowance =>
    be 1 lane ++ be 1 mode ++ yesNo league ++ yesNo autoNext ++ yesNo foulDetect ++ yesNo meterDisplay
      ++ be 1 overflow ++ be 2 allowance
  | .setSessionFlags lane league autoNext foulDetect meterDisplay overflow =>
    be 1 lane ++ yesNo league ++ yesNo autoNext ++ yesNo foulDetect ++ yesNo meterDisplay ++ be 1 overflow
  | .closeSession lane manner => be 1 lane ++ be 1 manner
  | .unlock lane mode allowance => be 1 lane ++ be 1 mode ++ be 2 allowance
  | .moveGroup slot lane => be 1 slot ++ be 1 lane
  | .approve n | .deny n | .dismissGroup n | .saveGroup n | .resumeGroup n | .releaseMoved n | .newGame n | .readLine n
  | .claimLine n | .releaseLine n | .reRack n | .setScanMode n | .stopMachine n | .clearFault n | .readMeter n
  | .readSensing n | .readPinfall n | .readMachine n | .readScores n | .readFeed n => be 1 n
  | .savePart slot restart => be 1 slot ++ yesNo restart
  | .loadBegin transfer slot lane count => be 1 transfer ++ be 1 slot ++ be 1 lane ++ be 1 count
  | .loadPart transfer entries | .loadEnd transfer entries => be 1 transfer ++ listed EntryContent.encode entries
  | .createGroup slot name lane bowlers => be 1 slot ++ text name ++ be 1 lane ++ listed BowlerSpec.encode bowlers
  | .addBowler slot bowler => be 1 slot ++ bowler.encode
  | .setPlayMode slot mode => be 1 slot ++ be 1 mode
  | .editLine line base changes => be 1 line ++ be 2 base ++ changes.encode
  | .correctBall line game frame ball count foul base =>
    be 1 line ++ be 1 game ++ be 1 frame ++ be 1 ball ++ be 1 count ++ yesNo foul ++ be 2 base
  | .manualBall lane count foul => be 1 lane ++ be 1 count ++ yesNo foul
  | .setScoringSource lane source => be 1 lane ++ be 1 source
  | .setHighlight lane positions => be 1 lane ++ listed (be 1) positions
  | .setSlot slot lane point enabled baseline high low wobble =>
    be 1 slot ++ be 1 lane ++ be 1 point ++ yesNo enabled ++ be 2 baseline ++ beInt 2 high ++ beInt 2 low ++ yesNo wobble
  | .setRunMode lane mode => be 1 lane ++ be 1 mode
  | .injectReadings lane readings => be 1 lane ++ listed (be 2) readings
  | .armTest lane pins => be 1 lane ++ be 2 pins
  | .issueStep lane step => be 1 lane ++ be 1 step
  | .resumeMachine lane choice => be 1 lane ++ be 1 choice
  | .clearReturn lift left right rack => be 1 lift ++ be 1 left ++ be 1 right ++ beOpt 1 rack
  | .configDone | .pairClear | .restartHead | .readLinks | .readStatus | .readReturn | .readPlay | .readCorrections
  | .readRates | .readTransfer | .linkReset => []
  | .setMask mask => maskBytes mask

/-- A request of one number of one byte. -/
def read1 (f : Nat → Request) : Reader Request := (readNum 1).bind fun a => Reader.pure (f a)

/-- A request of two numbers of one byte each. -/
def read2 (f : Nat → Nat → Request) : Reader Request :=
  (readNum 1).bind fun a => (readNum 1).bind fun b => Reader.pure (f a b)

/-- The reader of a set-config body: the width of the value and the step kind go by the item (R192). -/
def readConfig : Reader Request :=
  (readNum 1).bind fun item =>
    if item < 13 then
      (readNum (configWidth item)).bind fun value =>
      (readIf (item = 9) (readNum 1)).bind fun step => Reader.pure (.setConfig item value step)
    else fun _ => none

/-- The four session flags. -/
def readFlags (f : Bool → Bool → Bool → Bool → Reader Request) : Reader Request :=
  readYesNo.bind fun a => readYesNo.bind fun b => readYesNo.bind fun c => readYesNo.bind fun d => f a b c d

/-- The reader of the body of each request type; a type above 60 or 0 names no request. -/
def bodyReader : Nat → Reader Request
  | 1 => readConfig
  | 2 => Reader.pure .configDone
  | 3 => (readNum 2).bind fun b => (readNum 1).bind fun p => (readNum 1).bind fun c => (readNum 1).bind fun n =>
      Reader.pure (.setHandicap b p c n)
  | 4 => (readNum 2).bind fun m => Reader.pure (.setTime m)
  | 5 => (readList readBand).bind fun l => Reader.pure (.setRates l)
  | 6 => Reader.pure .pairClear
  | 7 => (readNum 1).bind fun lane => (readNum 1).bind fun mode => readFlags fun a b c d =>
      (readNum 1).bind fun o => (readNum 2).bind fun n => Reader.pure (.openSession lane mode a b c d o n)
  | 8 => (readNum 1).bind fun lane => readFlags fun a b c d =>
      (readNum 1).bind fun o => Reader.pure (.setSessionFlags lane a b c d o)
  | 9 => read2 .closeSession
  | 10 => (readNum 1).bind fun l => (readNum 1).bind fun m => (readNum 2).bind fun n => Reader.pure (.unlock l m n)
  | 11 => read1 .readMeter
  | 12 => read1 .approve
  | 13 => read1 .deny
  | 14 => read2 .moveGroup
  | 15 => read1 .dismissGroup
  | 16 => read1 .saveGroup
  | 17 => (readNum 1).bind fun s => readYesNo.bind fun r => Reader.pure (.savePart s r)
  | 18 => (readNum 1).bind fun i => (readNum 1).bind fun s => (readNum 1).bind fun l => (readNum 1).bind fun c =>
      Reader.pure (.loadBegin i s l c)
  | 19 => (readNum 1).bind fun i => (readList readEntry).bind fun l => Reader.pure (.loadPart i l)
  | 20 => (readNum 1).bind fun i => (readList readEntry).bind fun l => Reader.pure (.loadEnd i l)
  | 21 => read1 .resumeGroup
  | 22 => read1 .releaseMoved
  | 23 => (readNum 1).bind fun s => readText.bind fun n => (readNum 1).bind fun l => (readList readBowler).bind fun b =>
      Reader.pure (.createGroup s n l b)
  | 24 => (readNum 1).bind fun s => readBowler.bind fun b => Reader.pure (.addBowler s b)
  | 25 => read2 .setPlayMode
  | 26 => read1 .newGame
  | 27 => read1 .readLine
  | 28 => read1 .claimLine
  | 29 => read1 .releaseLine
  | 30 => (readNum 1).bind fun l => (readNum 2).bind fun b => readChanges.bind fun c => Reader.pure (.editLine l b c)
  | 31 => (readNum 1).bind fun l => (readNum 1).bind fun g => (readNum 1).bind fun f => (readNum 1).bind fun b =>
      (readNum 1).bind fun c => readYesNo.bind fun foul => (readNum 2).bind fun v =>
        Reader.pure (.correctBall l g f b c foul v)
  | 32 => (readNum 1).bind fun l => (readNum 1).bind fun c => readYesNo.bind fun f => Reader.pure (.manualBall l c f)
  | 33 => read1 .reRack
  | 34 => read2 .setScoringSource
  | 35 => (readNum 1).bind fun l => (readList (readNum 1)).bind fun p => Reader.pure (.setHighlight l p)
  | 36 => (readNum 1).bind fun s => (readNum 1).bind fun l => (readNum 1).bind fun p => readYesNo.bind fun e =>
      (readNum 2).bind fun b => readInt.bind fun h => readInt.bind fun lo => readYesNo.bind fun w =>
        Reader.pure (.setSlot s l p e b h lo w)
  | 37 => read1 .setScanMode
  | 38 => read2 .setRunMode
  | 39 => Reader.pure .restartHead
  | 40 => (readNum 1).bind fun l => (readList (readNum 2)).bind fun r => Reader.pure (.injectReadings l r)
  | 41 => (readNum 1).bind fun l => (readNum 2).bind fun p => Reader.pure (.armTest l p)
  | 42 => read1 .stopMachine
  | 43 => read2 .issueStep
  | 44 => read1 .clearFault
  | 45 => read2 .resumeMachine
  | 46 => (readNum 1).bind fun l => (readNum 1).bind fun a => (readNum 1).bind fun b => (readOpt 1).bind fun r =>
      Reader.pure (.clearReturn l a b r)
  | 47 => Reader.pure .readLinks
  | 48 => Reader.pure .readStatus
  | 49 => read1 .readSensing
  | 50 => read1 .readPinfall
  | 51 => read1 .readMachine
  | 52 => Reader.pure .readReturn
  | 53 => Reader.pure .readPlay
  | 54 => read1 .readScores
  | 55 => Reader.pure .readCorrections
  | 56 => Reader.pure .readRates
  | 57 => read1 .readFeed
  | 58 => Reader.pure .readTransfer
  | 59 => readMask.bind fun m => Reader.pure (.setMask m)
  | 60 => Reader.pure .linkReset
  | _ => fun _ => none

/-- The request that a type and a body spell, or none when the body is too short or too long for its fields (R188). -/
def decodeRequest (kind : Nat) (body : List Byte) : Option Request := (bodyReader kind).run body

/-- The check byte of a frame: the complement of the 8-bit sum of its length bytes, type, tag and body (R187). -/
def checkByte (lenHi lenLo kind tag : Byte) (body : List Byte) : Byte :=
  ~~~ (lenHi + lenLo + kind + tag + body.foldl (· + ·) 0#8)

/-- Whether a whole frame passes the check of R187; its gaps are the matter of FRAME_GAP_TIMEOUT. -/
def frameOk (lenHi lenLo kind tag : Byte) (body : List Byte) (check : Byte) : Bool :=
  body.length = 256 * lenHi.toNat + lenLo.toNat && body.length ≤ 1024 && tag.toNat ≤ 15
    && check = checkByte lenHi lenLo kind tag body

/-- The bytes of a frame: start byte, length, type, tag, body, check byte (R196). -/
def frameBytes (kind tag : Byte) (body : List Byte) : List Byte :=
  let hi := byte (body.length / 256)
  let lo := byte body.length
  165#8 :: hi :: lo :: kind :: tag :: body ++ [checkByte hi lo kind tag body]

end Sys2Proof
end

