-- ==== Sys2Proof/Machine/Messages.lean ====
section
/-! DEFINITION. The layouts of replies and notices (R196): what each field is as bytes. Where R196 leaves a layout open, log 8
and log 9 say what stands here. -/
namespace Sys2Proof.Machine

/-! ### Enumerated values, numbered from 0 -/

def Lane.code : Lane → Nat
  | .left => 0
  | .right => 1

def Slot.code : Slot → Nat
  | .g1 => 0
  | .g2 => 1

def HeadState.code : HeadState → Nat
  | .off => 0 | .standby => 1 | .warming => 2 | .active => 3

def ScanMode.code : ScanMode → Nat
  | .paired => 0 | .split => 1

def RunMode.code : RunMode → Nat
  | .normal => 0 | .continuous => 1

def Point.code : Point → Nat
  | .pin p => p.val
  | .dl => 10
  | .dr => 11

/-- Numbered in the order of R15, HIGH, MID, LOW; R12 lists HIGH, LOW, MID (log 9). -/
def PinClass.code : PinClass → Nat
  | .high => 0 | .mid => 1 | .low => 2

def Side.code : Side → Nat
  | .above => 0 | .below => 1

def RunState.code : RunState → Nat
  | .idle => 0 | .armed => 1 | .delay => 2 | .settling => 3 | .settled => 4 | .awaitingEntry => 5 | .final => 6

def ScoringSource.code : ScoringSource → Nat
  | .auto => 0 | .manual => 1

def BallSource.code : BallSource → Nat
  | .sensed => 0 | .manual => 1 | .corrected => 2 | .test => 3

def MachineState.code : MachineState → Nat
  | .off => 0 | .standby => 1 | .starting => 2 | .ready => 3 | .inPlay => 4 | .cycling => 5 | .heldPit => 6
  | .checking => 7 | .fault => 8 | .service => 9

def FaultCause.code : FaultCause → Nat
  | .jam => 0 | .motor => 1 | .table => 2 | .guard => 3 | .timeout => 4 | .redoLimit => 5 | .deckMismatch => 6

def StepKind.code : StepKind → Nat
  | .guardDown => 0 | .pick => 1 | .sweep => 2 | .respot => 3 | .setFull => 4 | .guardUp => 5

def RecipeKind.code : RecipeKind → Nat
  | .full => 0 | .pick => 1 | .rerack => 2

def RecipeOrigin.code : RecipeOrigin → Nat
  | .play => 0 | .start => 1 | .close => 2 | .rerack => 3 | .resume => 4 | .test => 5

def ReturnState.code : ReturnState → Nat
  | .running => 0 | .idle => 1 | .fault => 2

def ReturnCause.code : ReturnCause → Nat
  | .pitOverflow => 0 | .liftJam => 1

def LiftCondition.code : LiftCondition → Nat
  | .carrying => 0 | .rackFull => 1 | .waiting => 2

def GroupState.code : GroupState → Nat
  | .empty => 0 | .idle => 1 | .playing => 2 | .waiting => 3 | .moving => 4 | .moved => 5

def PlayMode.code : PlayMode → Nat
  | .openPlay => 0 | .cross => 1

def LineStatus.code : LineStatus → Nat
  | .active => 0 | .withdrawn => 1

def FigureState.code : FigureState → Nat
  | .final => 0 | .provisional => 1

def CopyState.code : CopyState → Nat
  | .none => 0 | .copy => 1 | .edit => 2

def Resolution.code : Resolution → Nat
  | .applied => 0 | .stale => 1 | .denied => 2

def LostReason.code : LostReason → Nat
  | .preempted => 0 | .moved => 1

def SessionState.code : SessionState → Nat
  | .closed => 0 | .opening => 1 | .opened => 2 | .paused => 3 | .locked => 4 | .overtime => 5 | .closing => 6

def BillingMode.code : BillingMode → Nat
  | .perGame => 0 | .timed => 1 | .prepaidGames => 2

def OverflowMode.code : OverflowMode → Nat
  | .hold => 0 | .holdAndLock => 1

/-- Numbered in the order of the item table of chapter 9; R171 lists the banners otherwise (log 9). -/
def Banner.code : Banner → Nat
  | .none => 0 | .laneClosed => 1 | .locked => 2 | .machineFault => 3 | .service => 4 | .moving => 5

def Half.code : Half → Nat
  | .none => 0 | .lower => 1 | .upper => 2

/-- The reasons of the notice ABANDONED: those of R179, then those of R180 (log 9). -/
def AbandonReason.code : AbandonReason → Nat
  | .gap => 0 | .range => 1 | .reset => 2 | .clear => 3 | .count => 4 | .order => 5 | .values => 6 | .laws => 7
  | .target => 8 | .ids => 9

/-- The reason byte of a load-end refusal, in the order of R180 (log 9); the others never reach such a reply. -/
def AbandonReason.endCode (r : AbandonReason) : Nat := r.code - 4

/-- The result byte of a reply: 0 for OK, 1 to 12 for the refusals in the order of R188 (R196). -/
def Code.code : Code → Nat
  | .ok => 0 | .unknown => 1 | .rights => 2 | .state => 3 | .range => 4 | .config => 5 | .busy => 6 | .full => 7
  | .stale => 8 | .notHeld => 9 | .held => 10 | .shape => 11 | .seq => 12

/-! ### Fields -/

/-- `k` bytes of an absent field (R196). -/
def absentBytes (k : Nat) : List Byte := List.replicate k 255#8

/-- The name of a notice kind, as a text (R196). -/
def kindText (s : String) : List Byte := text (s.toList.map fun c => byte c.toNat)

/-- A pin set in two bytes: bit p - 1 for pin p (R196). -/
def pinsField (s : Pins) : List Byte := be 2 s.toNat

def pinsOptField (s : Option Pins) : List Byte := beOpt 2 (s.map (·.toNat))

/-- A deck: its set, absent when UNKNOWN, then its remaining count, absent when the set is known (log 8). -/
def deckField (d : Deck) : List Byte :=
  match d with
  | .known s => pinsField s ++ absentBytes 1
  | .unknown n => absentBytes 2 ++ be 1 n

def lineField (i : LineId) : List Byte := be 1 (lineNo i)

def slotOptField (g : Option Slot) : List Byte := beOpt 1 (g.map Slot.code)

/-- A total with its state byte (R196). -/
def totalField (t : Option Total) : List Byte :=
  match t with
  | some t => be 2 t.value ++ be 1 t.state.code
  | none => absentBytes 3

/-- A handicap mode and its fixed value; 0 to 255 that may be absent takes two bytes (R196). -/
def modeField (m : HandicapMode) : List Byte :=
  match m with
  | .computed => be 1 0 ++ absentBytes 2
  | .fixed v => be 1 1 ++ be 2 v
  | .noHandicap => be 1 2 ++ absentBytes 2

/-- The character of a mark symbol (R196); the minus sign is 2D hexadecimal (log 8). -/
def symbolByte : MarkSymbol → Byte
  | .strike => 88#8
  | .spare => 47#8
  | .foul => 70#8
  | .miss => 45#8
  | .pins n => byte (48 + n)

/-- The thirteen bytes of a ball record (R196). A ball that is on no line, a test ball among them, has no mark symbol (log 20). -/
def ballField (b : BallRecord) (mark : Option MarkSymbol) : List Byte :=
  be 1 (Lane.code b.lane) ++ beOpt 1 (b.line.map lineNo) ++ beOpt 1 b.game ++ beOpt 1 b.frame ++ beOpt 1 b.ball
    ++ pinsOptField b.pinsUp ++ pinsOptField b.standing ++ be 1 b.count
    ++ be 1 (b.foul.toNat + 2 * b.split.toNat + 4 * (isFinal b).toNat) ++ be 1 b.source.code
    ++ [match mark with | some m => symbolByte m | none => 255#8]

/-- A record with its mark, or thirteen bytes of an absent record. -/
def ballOptField (b : Option BallRecord) (mark : Option MarkSymbol) : List Byte :=
  match b with
  | some b => ballField b mark
  | none => absentBytes 13

/-- A mark outside a ball record: its symbol and its split indicator (log 8). -/
def markField (m : Mark) : List Byte := symbolByte m.symbol :: yesNo m.split

/-- A frame record of a line body (R196). -/
def frameField (f : FrameRecord) : List Byte :=
  be 1 f.number ++ yesNo f.missed ++ beOpt 1 f.score ++ beOpt 2 f.running ++ beOpt 1 (f.state.map FigureState.code)
    ++ be 1 f.balls.length ++ (f.balls.mapIdx fun i b => ballField b ((f.marks[i]?).map (·.symbol))).flatten

def gameField (g : GameEntry) : List Byte := g.encode

/-- A line body (R196). -/
def lineBody (i : LineId) (l : Line) (held : CopyState) : List Byte :=
  lineField i ++ be 1 (Slot.code l.group) ++ be 2 l.version ++ be 1 held.code ++ text l.name ++ beOpt 2 l.average
    ++ modeField l.mode ++ be 1 l.status.code ++ be 1 l.handicap ++ totalField l.scratch ++ totalField l.gameTotal
    ++ listed frameField l.frames ++ listed gameField l.games

def entryField (e : Correction) : List Byte :=
  be 1 e.id ++ lineField e.line ++ be 1 e.game ++ be 1 e.frame ++ be 1 e.ball ++ be 1 e.count ++ yesNo e.foul ++ be 2 e.base

/-- The named ball of an entry: its line id, game, frame and ball number. -/
def entryBallField (e : Correction) : List Byte := lineField e.line ++ be 1 e.game ++ be 1 e.frame ++ be 1 e.ball

/-- A band that may be absent: 0 to 65535 that may be absent takes three bytes (R196). -/
def bandField (b : Option Band) : List Byte :=
  match b with
  | some b => be 2 b.start ++ be 3 b.price ++ be 3 b.hourly
  | none => absentBytes 8

/-- A class of a sensing point: UNSENSED is 3 (R15). -/
def classField (c : PointClass) : List Byte :=
  match c with
  | some (k, _) => be 1 k.code
  | none => be 1 3

/-- The ten pin classes of a result set (R16, R60). -/
def tenClasses (points : List PointClass) : List Byte := ((points.take 10).map classField).flatten

def readingField (r : SlotReading) : List Byte :=
  be 1 r.slot ++ be 1 r.point.code ++ be 2 r.raw ++ beInt 2 r.result ++ be 1 r.cls.code ++ yesNo r.crossed

/-- A sensing point of a result set: its class and its wobbling mark, which for an UNSENSED point is no (R15, log 8). -/
def pointField (c : PointClass) : List Byte := classField c ++ yesNo (match c with | some (_, w) => w | none => false)

/-- A result set (R15). -/
def setField (r : ResultSet) : List Byte :=
  be 1 (Lane.code r.lane) ++ be 1 r.injected.toNat ++ listed readingField r.readings
    ++ (r.points.map pointField).flatten ++ yesNo r.crossed

def meterField (m : Meter) : List Byte :=
  be 2 m.games ++ be 2 m.minutes ++ be 3 m.cents ++ be 1 m.fraction ++ yesNo m.saturated

/-- The final meter of a session that closes (R159). -/
def finalMeter (m : Meter) : List Byte := be 2 m.games ++ be 2 m.minutes ++ be 3 m.cents ++ yesNo m.saturated

def laneRecordField (r : LaneRecord) : List Byte := slotOptField r.occupant ++ slotOptField r.waiter

def returnField (state : ReturnState) (cause : Option ReturnCause) (lift : LiftCondition) (left right rack : Nat) : List Byte :=
  be 1 state.code ++ beOpt 1 (cause.map ReturnCause.code) ++ be 1 lift.code ++ be 1 left ++ be 1 right ++ be 1 rack

/-! ### Notices -/

/-- The kind of a notice and its fields (R196). "DONE or the cause" of STEP_RESULT (R66) is the cause's byte, absent for DONE,
and CORRECTION_RESOLVED and CORRECTION_VOID carry their line id once, as part of the named ball (R139, R141), TEST_CYCLE_DONE
carries the lane number (R67 names no field), and an item that a rule carries only in some case is absent in the others, but for
two that are then left out: the ten pin classes of DECK_MISMATCH (R48, R60, R145), and the transfer id of FROZEN, SENT, RESUMED
and RELEASED, which has one byte in STAGING, ABANDONED and COMMITTED (chapter 10): all are the model's choice (log 8). -/
def Notice.content : Notice → String × List Byte
  | .headState st => ("HEAD_STATE", be 1 st.code)
  | .scanResult r => ("SCAN_RESULT", setField r)
  | .headFault lane => ("HEAD_FAULT", beOpt 1 lane)
  | .sensingStalled lane line => ("SENSING_STALLED", beOpt 1 lane ++ beOpt 1 (line.map lineNo))
  | .deadBall lane run line => ("DEAD_BALL", beOpt 1 lane ++ be 1 run.code ++ beOpt 1 (line.map lineNo))
  | .pitOverflow lane stamps => ("PIT_OVERFLOW", beOpt 1 lane ++ (stamps.map (be 2)).flatten)
  | .ballProvisional b m => ("PROVISIONAL", ballField b (m.map (·.symbol)))
  | .ballRevised b m => ("REVISED", ballField b (m.map (·.symbol)))
  | .ballFinal b m => ("FINAL", ballField b (m.map (·.symbol)))
  | .ballDiscarded line frame ball => ("DISCARDED", beOpt 1 (line.map lineNo) ++ beOpt 1 frame ++ beOpt 1 ball)
  | .scoringSource lane src => ("SCORING_SOURCE", beOpt 1 lane ++ be 1 src.code)
  | .machineState lane st cause recipe classes =>
    ("STATE", beOpt 1 lane ++ be 1 st.code ++ beOpt 1 (cause.map FaultCause.code)
      ++ beOpt 1 (recipe.map fun r => r.1.code) ++ beOpt 1 (recipe.map fun r => r.2.code)
      ++ (match classes with | some c => tenClasses c | none => []))
  | .checkSkipped lane => ("CHECK_SKIPPED", beOpt 1 lane)
  | .stepResult lane k cause => ("STEP_RESULT", beOpt 1 lane ++ be 1 (StepKind.code k) ++ beOpt 1 (cause.map FaultCause.code))
  | .recipeIgnored lane k => ("RECIPE_IGNORED", beOpt 1 lane ++ be 1 k.code)
  | .testCycleDone lane => ("TEST_CYCLE_DONE", beOpt 1 lane)
  | .resumeMismatch classes => ("RESUME_MISMATCH", tenClasses classes)
  | .returnState st cause lift l r rack => ("STATE", returnField st cause lift l r rack)
  | .returnCleared st cause lift l r rack => ("CLEARED", returnField st cause lift l r rack)
  | .rackFull => ("RACK_FULL", [])
  | .rackFree => ("RACK_FREE", [])
  | .groupState g r left right refused =>
    ("GROUP_STATE", be 1 (Slot.code g) ++ text r.name ++ be 1 r.state.code ++ be 1 r.playMode.code ++ be 1 (Lane.code r.home)
      ++ listed lineField r.order ++ beOpt 2 r.game ++ be 1 r.frame ++ beOpt 1 r.position ++ laneRecordField left
      ++ laneRecordField right ++ beOpt 1 (refused.map Code.code))
  | .gameEnd g game entries =>
    ("GAME_END", be 1 (Slot.code g) ++ be 1 (game.getD 0) ++ listed (fun e => lineField e.1 ++ gameField e.2) entries)
  | .lineChanged i v => ("LINE_CHANGED", lineField i ++ be 2 v)
  | .lineRemoved i => ("LINE_REMOVED", lineField i)
  | .sessionState lane st pausedFrom mode left =>
    ("STATE", beOpt 1 lane ++ be 1 st.code ++ beOpt 1 (pausedFrom.map SessionState.code) ++ be 1 mode.code ++ beOpt 2 left)
  | .sessionFlags lane a b c d o =>
    ("FLAGS", beOpt 1 lane ++ yesNo a ++ yesNo b ++ yesNo c ++ yesNo d ++ be 1 o.code)
  | .saturated lane => ("SATURATED", beOpt 1 lane)
  | .sessionClosed lane openTime m => ("CLOSED", beOpt 1 lane ++ beOpt 2 openTime ++ finalMeter m)
  | .claimLost i reason => ("CLAIM_LOST", lineField i ++ be 1 reason.code)
  | .claimExpired i => ("CLAIM_EXPIRED", lineField i)
  | .correctionQueued e updated => ("CORRECTION_QUEUED", entryField e ++ be 1 updated.toNat)
  | .correctionResolved e r => ("CORRECTION_RESOLVED", be 1 e.id ++ entryBallField e ++ be 1 r.code)
  | .correctionVoid e => ("CORRECTION_VOID", be 1 e.id ++ entryBallField e)
  | .frozen g => ("FROZEN", be 1 (Slot.code g))
  | .sent g => ("SENT", be 1 (Slot.code g))
  | .staging g id => ("STAGING", be 1 (Slot.code g) ++ be 1 id)
  | .abandoned g id reason => ("ABANDONED", be 1 (Slot.code g) ++ be 1 id ++ be 1 reason.code)
  | .committed g id => ("COMMITTED", be 1 (Slot.code g) ++ be 1 id)
  | .resumed g => ("RESUMED", be 1 (Slot.code g))
  | .released g => ("RELEASED", be 1 (Slot.code g))

/-- The type of a notice frame: 128 plus its class number, 1 to 10 (R196). -/
def Notice.type (n : Notice) : Nat := 129 + n.cls.index

/-- The body of a notice: the lost mark byte, the kind, the fields (R196). -/
def Queuing.body (q : Queuing) : List Byte := yesNo q.lost ++ kindText q.notice.content.1 ++ q.notice.content.2

/-- The frame of a notice, with tag 0 (R196). -/
def Queuing.frame (q : Queuing) : List Byte := frameBytes (byte q.notice.type) 0#8 q.body

/-- The frame of a reply: its request's type plus 64, its tag, the result byte and the fields (R196). For a type above 191 the
sum is taken modulo 256 (log 8). -/
def Reply.frame (r : Reply) : List Byte :=
  frameBytes (byte (r.kind + 64)) (r.tag.setWidth 8) (byte r.answer.code.code :: r.answer.fields)

/-! ### Answers -/

/-- The answer OK with its fields. -/
def Answer.ok (fields : List Byte) : Answer := { code := .ok, fields := fields }

/-- A refusal: its code and nothing more. -/
def Answer.refused (c : Code) : Answer := { code := c, fields := [] }

/-- A refused request: its code, and the state as it was (00_scope.md, Requests and refusals). -/
def refuse (c : Code) (s : State) : State × Answer := (s, .refused c)

/-- An accepted request that answers OK and nothing more. -/
def accept (s : State) : State × Answer := (s, .ok [])

end Sys2Proof.Machine
end

