-- ==== Sys2Proof/Machine/Lines.lean ====
section
/-! DEFINITION. The Line Directory (07_line_copies_claims_and_corrections.md): changes of a line's contents, versions, copies,
claims and the pending correction queue. -/
namespace Sys2Proof.Machine

/-! ### Changes of a line (R109, R125, R127) -/

/-- The totals of a group computed afresh (R119). -/
def State.refreshTotals (s : State) (g : Slot) : State :=
  s.modGroup g fun r =>
    let ls := r.order.filterMap s.line
    { r with runningTotal := groupRunningOf ls, groupTotal := groupTotalOf ls }

/-- A line's contents have changed in this event; its version advances once, at the event's end (R125, log 7). -/
def State.touch (s : State) (i : LineId) : State := { s with dirty := s.dirty ||| (1#16 <<< i.val) }

/-- A change of a line's contents, with the computation that forms part of it (R109). -/
def State.changeLine (s : State) (i : LineId) (f : Line → Line) : State :=
  match s.line i with
  | some l => ((s.setLine i (some (computeLine s.handicap (f l)))).refreshTotals l.group).touch i
  | none => s

/-- The copy state a link is left with by a change: COPY drops to NONE, but for the link whose request made the change (R127). -/
def copyAfter (kept : Bool) (c : CopyState) : CopyState :=
  match c with
  | .copy => if kept then .copy else .none
  | c => c

/-- The link whose request made a change to a line (R127). -/
abbrev Exempt := Option (Link × LineId)

def exempts (x : Exempt) (k : Link) (i : LineId) : Bool := x = some (k, i)

/-- LINE_CHANGED to a link that holds the line (R127). -/
def State.tellHolder (s : State) (k : Link) (c : CopyState) (n : Notice) : State := if c = .none then s else s.tell k n

/-- The version of a changed line advances, and its holders are notified (R125, R127, R169). -/
def State.flushLine (x : Exempt) (s : State) (i : LineId) : State :=
  if s.dirty.getLsbD i.val then
    match s.line i with
    | some l =>
      let v := wrapInc l.version
      let c := l.copies
      let s := s.setLine i (some { l with
        version := v
        copies := ⟨copyAfter (exempts x .desk i) c.desk, copyAfter (exempts x .service i) c.service,
          copyAfter (exempts x .console i) c.console⟩ })
      let tellOne (s : State) (k : Link) := if exempts x k i then s else s.tellHolder k (c.get k) (.lineChanged i v)
      (tellOne (tellOne (tellOne s .desk) .service) .console).markShowing s l.group
    | none => s
  else s

/-- Every version that falls due in this event advances. -/
def State.flushLines (x : Exempt) (s : State) : State :=
  { lineIds.foldl (State.flushLine x) s with dirty := 0#16 }

/-! ### Copies and claims -/

/-- The line a request names, when its id is in use (R126). -/
def State.namedLine (s : State) (n : Nat) : Option (LineId × Line) :=
  match lineOf n with
  | some i => (s.line i).map fun l => (i, l)
  | none => none

/-- The link that holds EDIT on a line (R129). -/
def Line.holder (l : Line) : Option Link :=
  if l.copies.desk = .edit then some .desk
  else if l.copies.service = .edit then some .service
  else if l.copies.console = .edit then some .console
  else none

def State.groupFrozen (s : State) (g : Slot) : Bool := (s.groups.get g).isFrozen

/-- read-line (R126). -/
def handleReadLine (k : Link) (line : Nat) (s : State) : State × Answer :=
  match s.namedLine line with
  | none => refuse .range s
  | some (i, l) =>
    let held : CopyState := if l.copies.get k = .none then .copy else l.copies.get k
    (s.setLine i (some { l with copies := l.copies.set k held }), .ok (lineBody i l held))

/-- A grant of EDIT (R129). -/
def Line.grant (l : Line) (k : Link) (expiry : Nat) : Line :=
  { l with copies := l.copies.set k .edit, claimTimer := some (seconds expiry) }

/-- claim-line (R129). -/
def handleClaimLine (k : Link) (line : Nat) (s : State) : State × Answer :=
  match s.namedLine line with
  | none => refuse .range s
  | some (i, l) =>
    let expiry := s.settings.claimExpiry
    if s.groupFrozen l.group then refuse .state s
    else if l.holder = none || l.holder = some k then
      (s.setLine i (some (l.grant k expiry)), .ok (be 2 l.version))
    else if k = .desk then
      match l.holder with
      | some h =>
        let dropped := { l with copies := l.copies.set h .copy }
        ((s.setLine i (some (dropped.grant k expiry))).tell h (.claimLost i .preempted), .ok (be 2 l.version))
      | none => refuse .held s
    else refuse .held s

/-- The holder drops from EDIT to COPY and the claim timer stops. -/
def Line.unclaim (l : Line) : Line :=
  match l.holder with
  | some h => { l with copies := l.copies.set h .copy, claimTimer := none }
  | none => { l with claimTimer := none }

/-- release-line (R130). -/
def handleReleaseLine (k : Link) (line : Nat) (s : State) : State × Answer :=
  match s.namedLine line with
  | none => refuse .range s
  | some (i, l) =>
    if l.copies.get k = .edit then accept (s.setLine i (some l.unclaim)) else refuse .notHeld s

/-- The claim timer of a line expires (R131). -/
def State.claimExpires (s : State) (i : LineId) : State :=
  match s.line i with
  | none => s
  | some l =>
    if l.claimTimer.isNone then s
    else
      let t := s.setLine i (some l.unclaim)
      match l.holder with
      | some h => t.tell h (.claimExpired i)
      | none => t

/-- A claim on a line of a group that is frozen is revoked (R132). -/
def State.revokeClaim (s : State) (i : LineId) : State :=
  match s.line i with
  | none => s
  | some l =>
    match l.holder with
    | some h => (s.setLine i (some l.unclaim)).tell h (.claimLost i .moved)
    | none => s

/-- A line as a link reset of link `k` leaves it (R143). -/
def Line.forgetLink (l : Line) (k : Link) : Line :=
  { l with
    copies := l.copies.set k .none
    claimTimer := if l.copies.get k = .edit then none else l.claimTimer }

def State.forgetLink (s : State) (k : Link) : State := { s with lines := s.lines.map fun l => l.map fun l => l.forgetLink k }

/-! ### The pending correction queue -/

/-- The home lane of the group of a line. -/
def State.homeOfLine (s : State) (i : LineId) : Option Lane := (s.line i).map fun l => (s.groups.get l.group).home

/-- A change of the queue for a line marks the upper half of the home lane of its group (R138, R169). -/
def State.markCorrection (s : State) (i : LineId) : State :=
  match s.homeOfLine i with
  | some home => s.markFeed home false true
  | none => s

/-- Entries are voided, each with its notice (R141); `home` is the home lane of the group whose lines they name. -/
def State.voidCorrections (s : State) (gone : Correction → Bool) (home : Lane) : State :=
  let lost := s.corrections.filter gone
  let t := { s with corrections := s.corrections.filter fun e => !gone e }
  let t := lost.foldl (fun t e => t.tellDeskConsole (.correctionVoid e)) t
  if lost.isEmpty then t else t.markFeed home false true

/-- The first entry id from `n` on, wrapping from 255 to 1, that no entry holds (R138). -/
def freeEntry (queue : List Correction) : Nat → Nat → Nat
  | 0, n => n
  | k + 1, n => if queue.any fun e => e.id = n then freeEntry queue k (if n < 255 then n + 1 else 1) else n

/-- Two entries name the same ball (07, the entry's fields). -/
def sameBall (a b : Correction) : Bool := a.line = b.line && a.game = b.game && a.frame = b.frame && a.ball = b.ball

/-- A line with one ball of a frame changed. -/
def Line.modBall (l : Line) (frame ball : Nat) (f : BallRecord → BallRecord) : Line :=
  { l with frames := l.frames.map fun fr =>
      if fr.number = frame then { fr with balls := fr.balls.mapIdx fun n b => if n + 1 = ball then f b else b } else fr }

/-- A ball as a correction leaves it: a foul counts 0 (R135, R137). -/
def BallRecord.corrected (b : BallRecord) (count : Nat) (foul : Bool) : BallRecord :=
  { b with count := if foul then 0 else count, foul := foul, source := .corrected }

/-- A correction applied to a ball of a line; `k` is the link whose request applies it (R137). -/
def State.applyCorrection (s : State) (k : Link) (e : Correction) : State :=
  State.flushLines (some (k, e.line)) (s.changeLine e.line fun l => l.modBall e.frame e.ball fun b => b.corrected e.count e.foul)

/-- The version of a line, 0 for an id not in use. -/
def State.versionOf (s : State) (i : LineId) : Nat := ((s.line i).map (·.version)).getD 0

/-- The check of R135 that refuses a correction, if one does; `e` carries what the request carries. -/
def State.correctionRefused (s : State) (l : Line) (e : Correction) : Option Code :=
  if s.groupFrozen l.group then some .state
  else if (s.groups.get l.group).game ≠ some e.game then some .stale
  else
    match l.frameAt e.frame with
    | none => some .state
    | some fr =>
      match fr.balls[e.ball - 1]? with
      | none => some .state
      | some b =>
        let after := fr.balls.mapIdx fun n x => if n + 1 = e.ball then x.corrected e.count e.foul else x
        let fits := match b.pinsUp with
          | some u => decide ((b.corrected e.count e.foul).count ≤ pinCount u)
          | none => true
        if !(isFinal b && frameComplete fr) then some .state
        else if frameShape fr.number after ≠ frameShape fr.number fr.balls then some .shape
        else if !rangesOk fr.number after then some .shape
        else if !fits then some .range
        else none

/-- An entry for a ball that has none joins the queue's end, or the queue is full (R138). -/
def State.queueNew (s : State) (e : Correction) : State × Answer :=
  if s.corrections.length < 8 then
    let id := freeEntry s.corrections 8 s.nextEntry
    let entry := { e with id := id }
    let t := { s with
      corrections := s.corrections ++ [entry]
      nextEntry := if id < 255 then id + 1 else 1 }
    ((t.tell .desk (.correctionQueued entry false)).markCorrection e.line, .ok (be 1 1 ++ be 1 id))
  else refuse .full s

/-- An entry overwritten in place: it keeps its id (R138). -/
def Correction.overwrite (old e : Correction) : Correction := { old with count := e.count, foul := e.foul, base := e.base }

/-- A correction of the console that waits for the desk (R138). -/
def State.queueCorrection (s : State) (e : Correction) : State × Answer :=
  match s.corrections.find? fun o => sameBall o e with
  | some old =>
    let t := { s with corrections := s.corrections.map fun o => if sameBall o e then o.overwrite e else o }
    ((t.tell .desk (.correctionQueued (old.overwrite e) true)).markCorrection e.line, .ok (be 1 1 ++ be 1 old.id))
  | none => s.queueNew e

/-- The correction is applied at once (R137): from the desk, or from the console while the home session is neither CLOSED
nor in a league. -/
def State.appliesAtOnce (s : State) (k : Link) (l : Line) : Bool :=
  let x := s.sessions.get (s.groups.get l.group).home
  k = .desk || (x.state ≠ .closed && !x.league)

/-- correct-ball (R135 to R138). -/
def handleCorrectBall (k : Link) (line game frame ball count : Nat) (foul : Bool) (base : Nat) (s : State) :
    State × Answer :=
  match s.namedLine line with
  | none => refuse .range s
  | some (i, l) =>
    if !(1 ≤ game && game ≤ 255 && 1 ≤ frame && frame ≤ 10 && 1 ≤ ball && ball ≤ 3 && count ≤ 10) then refuse .range s
    else
      let e : Correction :=
        { id := 0, line := i, game := game, frame := frame, ball := ball, count := count, foul := foul, base := base }
      match s.correctionRefused l e with
      | some c => refuse c s
      | none =>
        if s.appliesAtOnce k l then
          if base ≠ l.version then refuse .stale s
          else
            let t := s.applyCorrection k e
            (t, .ok (be 1 0 ++ be 2 (t.versionOf i)))
        else s.queueCorrection e

/-- An entry leaves the queue (R139, R140). -/
def State.dropEntry (s : State) (id : Nat) : State := { s with corrections := s.corrections.filter fun e => e.id ≠ id }

/-- approve (R139). -/
def handleApprove (id : Nat) (s : State) : State × Answer :=
  if !(1 ≤ id && id ≤ 255) then refuse .range s
  else
    match s.corrections.find? fun e => e.id = id with
    | none => refuse .state s
    | some e =>
      if s.lineTest e.line fun l => s.groupFrozen l.group then refuse .state s
      else
        let t := (s.dropEntry id).markCorrection e.line
        if s.lineTest e.line fun l => e.base = l.version then
          let t := t.applyCorrection .desk e
          (t.tellDeskConsole (.correctionResolved e .applied), .ok (be 2 (t.versionOf e.line)))
        else (t.tellDeskConsole (.correctionResolved e .stale), .refused .stale)

/-- deny (R140). -/
def handleDeny (id : Nat) (s : State) : State × Answer :=
  if !(1 ≤ id && id ≤ 255) then refuse .range s
  else
    match s.corrections.find? fun e => e.id = id with
    | none => refuse .state s
    | some e => accept (((s.dropEntry id).markCorrection e.line).tellDeskConsole (.correctionResolved e .denied))

/-! ### Removal -/

/-- A line is removed and forgotten, with LINE_REMOVED to its holders and its pending entries voided (R128). -/
def State.removeLine (s : State) (home : Lane) (i : LineId) : State :=
  match s.line i with
  | none => s
  | some l =>
    let n := Notice.lineRemoved i
    let t := ((s.tellHolder .desk l.copies.desk n).tellHolder .service l.copies.service n).tellHolder .console l.copies.console n
    (t.voidCorrections (fun e => e.line = i) home).setLine i none

/-- set-handicap (R118): accepted in every state; every line in use is computed again. -/
def handleSetHandicap (basis percent cap noAverage : Nat) (s : State) : State × Answer :=
  if !(basis ≤ 300 && percent ≤ 100 && cap ≤ 255 && noAverage ≤ 255) then refuse .range s
  else
    let p : HandicapParams := { basis := basis, percent := percent, cap := cap, noAverage := noAverage }
    if p = s.handicap then accept s
    else accept (lineIds.foldl (fun t i => t.changeLine i id) { s with handicap := p })

end Sys2Proof.Machine
end

