-- ==== Sys2Proof/Machine/Sessions.lean ====
section
/-! DEFINITION. The Billing Meter Unit (08_sessions_and_billing.md): session states, the pause, game permission, the meter, the
minute tick and the close. -/
namespace Sys2Proof.Machine

/-! ### Session states -/

/-- A change of session state, with its notice, its marks and the banner conditions, which are evaluated at the change itself
(R145, R169, R171, log 44). -/
def State.enterSession (s : State) (l : Lane) (state : SessionState) (pausedFrom : Option SessionState) : State :=
  let s := s.modSession l fun x => { x with state := state, pausedFrom := pausedFrom }
  let x := s.sessions.get l
  ((s.broadcast (.sessionState (s.laneNumber l) state pausedFrom x.mode x.remaining)).markFeed l true true).bannerEval l

/-- The pause condition evaluated (R148). -/
def State.pauseEval (s : State) (l : Lane) : State :=
  let x := s.sessions.get l
  match x.state with
  | .opened => if s.pauseHolds l then s.enterSession l .paused (some .opened) else s
  | .overtime => if s.pauseHolds l then s.enterSession l .paused (some .overtime) else s
  | .paused => if s.pauseHolds l then s else s.enterSession l (x.pausedFrom.getD .opened) none
  | .closed | .opening | .locked | .closing => s

def State.pauseEvals (s : State) : State := (s.pauseEval .left).pauseEval .right

/-! ### The meter -/

def maxCents : Nat := 9999999

/-- A counter of a meter raised by `n`, saturating at 65535. -/
def satAdd (a n : Nat) : Nat := min 65535 (a + n)

/-- A meter with cents added (R151). -/
def Meter.add (m : Meter) (n : Nat) : Meter :=
  if maxCents < m.cents + n then { m with cents := maxCents, saturated := true } else { m with cents := m.cents + n }

/-- Whether an addition reaches the limit (R151, log 23). -/
def Meter.reaches (m : Meter) (n : Nat) : Bool := maxCents < m.cents + n

/-- A change of a lane's meter marks its upper half while the meter is displayed (R169). -/
def State.markMeter (s : State) (l : Lane) : State := s.markFeed l false (s.sessions.get l).meterDisplay

/-- Cents added to a lane's meter: SATURATED to the desk when the flag changes (R151). -/
def State.addCents (s : State) (l : Lane) (n : Nat) : State :=
  let m := (s.sessions.get l).meter
  let t := (s.modSession l fun x => { x with meter := x.meter.add n }).markMeter l
  if m.reaches n && !m.saturated then t.tell .desk (.saturated (s.laneNumber l)) else t

/-- An addition that can lock: under HOLD_AND_LOCK, in OPEN or OVERTIME, one that reaches the limit does (R151, R155). -/
def State.charge (s : State) (l : Lane) (n : Nat) : State :=
  let x := s.sessions.get l
  let t := s.addCents l n
  if x.meter.reaches n && x.overflow = .holdAndLock && (x.state = .opened || x.state = .overtime) then
    t.enterSession l .locked none
  else t

/-- The game price now in force (R150); with no band it is a free value (log 12). -/
def State.gamePrice (s : State) : Nat :=
  match s.bandNow with
  | some b => b.price
  | none => Config.unbandedPrice

/-- A permitted game raises bowler-games charged by `n` (R150). -/
def State.countGames (s : State) (l : Lane) (n : Nat) : State :=
  (s.modSession l fun x => { x with meter := { x.meter with games := satAdd x.meter.games n } }).markMeter l

/-- A game asked for with `n` bowlers: the BMU's decision, its charge and its effect on the session (R150). -/
def State.permitGame (s : State) (l : Lane) (n : Nat) : State × Option Code :=
  let x := s.sessions.get l
  if x.state ≠ .opened then (s, some .state)
  else
    match x.mode with
    | .prepaidGames =>
      if x.prepaidGames < n then (s.enterSession l .locked none, some .full)
      else ((s.modSession l fun x => { x with prepaidGames := x.prepaidGames - n }).countGames l n, none)
    | .perGame => ((s.countGames l n).charge l (n * s.gamePrice), none)
    | .timed => (s.countGames l n, none)

/-! ### Minute ticks -/

/-- The hourly rate in force at a minute (R153); with no band it is a free value (log 12). -/
def State.hourlyAt (s : State) (minute : Nat) : Nat :=
  match bandAt s.rates minute with
  | some b => b.hourly
  | none => Config.unbandedHourly

/-- The prepaid minutes of a session run out (R154). -/
def State.minutesSpent (s : State) (l : Lane) : State :=
  let s := s.modSession l fun x => { x with minuteAllowance := false }
  if s.homeGameOn l then (s.enterSession l .overtime none).pauseEval l else s.enterSession l .locked none

/-- The metering of a minute against the prepaid minutes (R153, step 2). -/
def State.spendMinute (s : State) (l : Lane) : State :=
  let t := (s.modSession l fun x => { x with prepaidMinutes := x.prepaidMinutes - 1 }).markMeter l
  if (t.sessions.get l).prepaidMinutes = 0 then t.minutesSpent l else t

/-- The metering of a minute at the hourly rate (R153, step 3). -/
def State.chargeMinute (s : State) (l : Lane) (minute : Nat) : State :=
  let sum := (s.sessions.get l).meter.fraction + s.hourlyAt minute
  (s.modSession l fun x => { x with meter := { x.meter with fraction := sum % 60 } }).charge l (sum / 60)

/-- A tick meters a lane whose session is TIMED and in OPEN or OVERTIME (R153). -/
def State.meterTick (s : State) (l : Lane) (minute : Nat) : State :=
  let x := s.sessions.get l
  if x.mode = .timed && (x.state = .opened || x.state = .overtime) then
    let t := (s.modSession l fun x => { x with meter := { x.meter with minutes := satAdd x.meter.minutes 1 } }).markMeter l
    if x.minuteAllowance then t.spendMinute l else t.chargeMinute l minute
  else s

/-- One minute in units of 10 ms. -/
def minuteLength : Nat := 6000

/-- The minute timer expires: a tick (R152). -/
def State.tick (s : State) : State :=
  match s.timeOfDay with
  | none => s
  | some m =>
    let t := { s with timeOfDay := some ((m + 1) % 1440), minuteTimer := some minuteLength }
    (((t.meterTick .left m).meterTick .right m).markFeeds false true)

/-! ### The close -/

/-- A session closes and its meter is settled (R159). -/
def State.closeSession (s : State) (l : Lane) : State :=
  let m := (s.sessions.get l).meter
  let t := if 30 ≤ m.fraction then s.addCents l 1 else s
  let t := (t.modSession l fun x => { x with meter := { x.meter with fraction := 0 } }).markMeter l
  let x := t.sessions.get l
  (t.tell .desk (.sessionClosed (t.laneNumber l) x.openTime x.meter)).enterSession l .closed none

/-- What a session does once its home group has no game in progress: OVERTIME, or PAUSED from it, locks; CLOSING closes
(R154, R157). It is judged at the end of an event (log 54). -/
def State.sessionFollows (s : State) (l : Lane) : State :=
  let x := s.sessions.get l
  if s.homeGameOn l then s
  else
    match x.state with
    | .overtime => s.enterSession l .locked none
    | .paused => if x.pausedFrom = some .overtime then s.enterSession l .locked none else s
    | .closing => s.closeSession l
    | .closed | .opening | .opened | .locked => s

def State.sessionsFollow (s : State) : State := (s.sessionFollows .left).sessionFollows .right

/-- set-time (R152). -/
def handleSetTime (minute : Nat) (s : State) : State × Answer :=
  if minute ≤ 1439 then
    accept ({ s with timeOfDay := some minute, minuteTimer := some minuteLength }.markFeeds false true)
  else refuse .range s

/-- Bands in order of start minute. -/
def insertBand (b : Band) : List Band → List Band
  | [] => [b]
  | c :: rest => if b.start ≤ c.start then b :: c :: rest else c :: insertBand b rest

/-- No two bands start at the same minute (R161). -/
def distinctStarts : List Band → Bool
  | [] => true
  | b :: rest => rest.all (fun c => c.start ≠ b.start) && distinctStarts rest

/-- set-rates (R161). -/
def handleSetRates (bands : List Band) (s : State) : State × Answer :=
  if !(1 ≤ bands.length && bands.length ≤ 8
      && bands.all fun b => b.start ≤ 1439 && b.price ≤ 65535 && b.hourly ≤ 65535) then refuse .range s
  else if !distinctStarts bands then refuse .range s
  else
    let t := { s with rates := bands.foldr insertBand [] }
    accept ((t.markFeed .left false t.sessions.left.meterDisplay).markFeed .right false t.sessions.right.meterDisplay)

/-- set-session-flags (R149). -/
def handleSetSessionFlags (lane : Nat) (league autoNext foulDetect meterDisplay : Bool) (overflow : Nat) (s : State) :
    State × Answer :=
  match laneOf lane, overflowOf overflow with
  | some l, some o =>
    if (s.sessions.get l).state = .closed then refuse .state s
    else
      let t := s.modSession l fun x => { x with
        league := league, autoNext := autoNext, foulDetect := foulDetect, meterDisplay := meterDisplay, overflow := o }
      accept ((t.broadcast (.sessionFlags (s.laneNumber l) league autoNext foulDetect meterDisplay o)).markFeed l false
        (t.sessions.get l ≠ s.sessions.get l))
  | _, _ => refuse .range s

end Sys2Proof.Machine
end

