-- ==== Sys2Proof/Machine/Pinsetter.lean ====
section
/-! DEFINITION. The Pinsetter Controller (03_pinsetter_control.md): machine states, steps and recipes, completions, the pit
gate, the deck check's answer and the cycle end. -/
namespace Sys2Proof.Machine

/-! ### What the end of a run drops (R41) -/

/-- A PDU with its run dropped: a PROVISIONAL record goes with it (R41, log 14). -/
def Pdu.dropped (p : Pdu) : Pdu :=
  { p with
    run := .idle, binding := none, foulOpen := false, foulFlag := false, lastSet := none
    record := match p.record with
      | some b => if b.state = .provisional then none else some b
      | none => none
    pinTimer := none, scanTimer := none, windowTimer := none, graceTimer := none, cycleTimer := none }

/-- The run need of a lane is dropped by its owner (R2, R41). -/
def State.dropRunNeed (s : State) (l : Lane) : State := s.modSensing l fun x => { x with needs := { x.needs with run := false } }

/-- A waiting check need is withdrawn (R16). -/
def State.withdrawCheck (s : State) (l : Lane) : State :=
  s.modSensing l fun x => { x with needs := { x.needs with check := none } }

/-- The lane leaves CONTINUOUS: its timer stops and a waiting continuous need is dropped (R19). -/
def State.endContinuous (s : State) (l : Lane) : State :=
  s.modSensing l fun x => { x with runMode := .normal, contTimer := none, needs := { x.needs with cont := false } }

/-- A PDU holds a test binding (R44). -/
def Pdu.testing (p : Pdu) : Bool :=
  match p.binding with
  | some b => b.test
  | none => false

/-- A machine leaves SERVICE: CONTINUOUS ends (R19), the injection buffer is emptied (R21), and a test run is dropped (R44). -/
def State.leaveService (s : State) (l : Lane) : State :=
  let s := (s.endContinuous l).modSensing l fun x => { x with injection := none }
  if (s.pdu.get l).testing then (s.dropRunNeed l).modPdu l Pdu.dropped else s

/-! ### Machine states (R48) -/

/-- A pinsetter in a new state: a timer that the new state does not allow stops (R48). -/
def Pinsetter.enter (p : Pinsetter) (state : MachineState) (cause : Option FaultCause) : Pinsetter :=
  { p with
    state := state, cause := cause
    startTimer := if state = .starting then p.startTimer else none
    stepTimer := if state = .cycling || state = .service then p.stepTimer else none }

/-- An OPENING session becomes OPEN when its machine enters READY (R147). -/
def State.opens (s : State) (l : Lane) : State :=
  if (s.psc.get l).state = .ready && (s.sessions.get l).state = .opening then (s.enterSession l .opened none).pauseEval l else s

/-- What other blocks do at a change of machine state: the notice and the mark (R48, R169), what leaving SERVICE ends, the
session's OPEN (R147), the pause (R148) and the banner (R171). -/
def State.machineChanged (s : State) (l : Lane) (before : MachineState) (classes : Option (List PointClass)) : State :=
  let p := s.psc.get l
  let recipe := p.recipe.map fun r => (r.kind, r.origin)
  let s := (s.broadcast (.machineState (s.laneNumber l) p.state p.cause recipe classes)).markFeed l true false
  let s := if before = .service then s.leaveService l else s
  ((s.opens l).pauseEval l).bannerEval l

/-- The machine of a lane enters a state; `classes` are those a second mismatch carries (R60). -/
def State.setMachine (s : State) (l : Lane) (state : MachineState) (cause : Option FaultCause := none)
    (classes : Option (List PointClass) := none) : State :=
  let before := (s.psc.get l).state
  let t := s.modPsc l fun p => p.enter state cause
  if before = state then t else t.machineChanged l before classes

/-- The machine leaves STANDBY for STARTING; in any other state nothing happens (R49). -/
def State.startMachine (s : State) (l : Lane) : State :=
  if (s.psc.get l).state = .standby then
    (s.modPsc l fun p => { p with startTimer := some (seconds s.settings.startTime) }).setMachine l .starting
  else s

/-- The machine takes its standby condition: from READY, and from STARTING (R50). -/
def State.machineStandby (s : State) (l : Lane) : State :=
  let m := (s.psc.get l).state
  if s.machineIdles l && (m = .ready || m = .starting) then s.setMachine l .standby else s

def State.machinesStandby (s : State) : State := (s.machineStandby .left).machineStandby .right

/-! ### Steps (R51, R53, R57 to R59) -/

/-- The pit hold of a lane, as the PSC holds it and as the BRC records it (R59, R80). -/
def State.setHold (s : State) (l : Lane) (on : Bool) : State :=
  (s.modPsc l fun p => { p with pitHold := on }).modReturn fun r => { r with holds := r.holds.set l on }

/-- A step issued on the command line (R51). -/
def State.issue (s : State) (l : Lane) (k : StepKind) : State :=
  s.modPsc l fun p =>
    { p with step := some k, redo := 0, stepTimer := some (seconds (stepTime s.settings.stepTimeouts k)) }

/-- The lane's pit is full, so that a SWEEP waits (R57). -/
def State.pitFull (s : State) (l : Lane) : Bool := 2 ≤ (s.ret.pits.get l).length

/-- A SWEEP is held: no step executes, and the hold turns on (R57). -/
def State.holdSweep (s : State) (l : Lane) : State :=
  let t := (s.modPsc l fun p => { p with step := none, stepTimer := none }).setHold l true
  if (t.psc.get l).state = .cycling then t.setMachine l .heldPit else t

/-- The step at the head of the queue leaves it and is issued; the remainder joins the queue (R53, R58). -/
def State.issueHead (s : State) (l : Lane) (k : StepKind) (rest : List StepKind) : State :=
  let t := s.modPsc l fun p => { p with queue := rest ++ p.remainder.toList, remainder := none }
  let t := (t.issue l k).setHold l false
  if (t.psc.get l).state = .heldPit then t.setMachine l .cycling else t

/-- The next step of the recipe in hand, subject to the pit gate (R53, R57). -/
def State.nextStep (s : State) (l : Lane) : State :=
  match (s.psc.get l).queue with
  | [] => s
  | k :: rest => if k = .sweep && s.pitFull l then s.holdSweep l else s.issueHead l k rest

/-- A held SWEEP is issued once the pit has room (R58). -/
def State.releaseHold (s : State) (l : Lane) : State :=
  if (s.psc.get l).pitHold && !s.pitFull l then s.nextStep l else s

/-- The steps of a recipe laid out, and the first issued (R51): every recipe begins with GUARD_DOWN, so the pit gate never
meets its first step. -/
def State.layOut (s : State) (l : Lane) (kind : RecipeKind) : State :=
  let steps := recipeSteps kind
  let t := s.modPsc l fun p => { p with queue := (steps.drop 1).take 3, remainder := steps[4]? }
  match steps with
  | k :: _ => t.issue l k
  | [] => t

/-- The PSC takes a recipe (R51). -/
def State.takeRecipe (s : State) (l : Lane) (r : Recipe) : State :=
  (s.modPsc l fun p => { p with recipe := some r, attempts := 0 }).layOut l r.kind

/-- A recipe taken into play: the machine enters CYCLING (R51, R52). -/
def State.cycle (s : State) (l : Lane) (r : Recipe) : State := (s.takeRecipe l r).setMachine l .cycling

def closingRack : Recipe := { kind := .full, target := fullDeck, origin := .close }

/-! ### The deck check and the cycle end (R60, R61) -/

/-- The deck of a lane's PDU is written. -/
def State.writeDeck (s : State) (l : Lane) (d : Deck) : State := s.modPdu l fun p => { p with deck := d }

/-- A cycle end (R61). -/
def State.cycleEnd (s : State) (l : Lane) : State :=
  let p := s.psc.get l
  let s := match p.recipe with
    | some r => s.writeDeck l r.target
    | none => s
  let full := match p.recipe with
    | some r => r.kind = .full
    | none => true
  let s := s.modPsc l fun p => { p with recipe := none, attempts := 0, closingOwed := false }
  if p.closingOwed && !full then s.cycle l closingRack
  else if s.machineIdles l then s.setMachine l .standby
  else s.setMachine l .ready

/-- An AS_RECORDED resume whose check does not match (R69). Pins-up becomes UNKNOWN with the count it had (log 39), and
a closing rack owed stays owed (log 51). -/
def State.resumeFails (s : State) (l : Lane) (classes : List PointClass) : State :=
  let s := s.modPsc l fun p => { p with recipe := none }
  let s := (s.modPdu l fun p => { p with deck := p.deck.forget }).setMachine l .service
  s.tell .service (.resumeMismatch classes)

/-- A second mismatch (R60). -/
def State.deckFault (s : State) (l : Lane) (classes : List PointClass) : State :=
  (s.modPsc l fun p => { p with recipe := none, closingOwed := false }).setMachine l .fault (some .deckMismatch) (some classes)

/-- The DSU's answer to a deck check (R60). -/
def State.checkAnswer (s : State) (l : Lane) (o : CheckOutcome) (classes : List PointClass) : State :=
  let p := s.psc.get l
  match o with
  | .matched => s.cycleEnd l
  | .noReading => (s.broadcast (.checkSkipped (s.laneNumber l))).cycleEnd l
  | .mismatch =>
    match p.recipe with
    | none => s
    | some r =>
      if r.kind = .rerack && r.origin = .resume then s.resumeFails l classes
      else if p.attempts ≤ 1 then (s.layOut l r.kind).setMachine l .cycling
      else s.deckFault l classes

/-- A check need is raised, to be served by a scan requested after it; on a faulted lane it is answered at once (R8, R16). -/
def State.raiseCheck (s : State) (l : Lane) (expected : Pins) : State :=
  if (s.sensing.get l).fault then s.checkAnswer l .noReading []
  else
    s.modSensing l fun x => { x with
      needs := { x.needs with check := some expected }
      scan := x.scan.map fun f => { f with checkPresent := false } }

/-- The last step of a recipe is done: CHECKING, and the check or its skipping (R60). -/
def State.enterChecking (s : State) (l : Lane) : State :=
  let s := (s.modPsc l fun p => { p with attempts := p.attempts + 1 }).setMachine l .checking
  match (s.psc.get l).recipe with
  | none => s.cycleEnd l
  | some r =>
    match r.target with
    | .unknown _ => s.cycleEnd l
    | .known pins => if (s.pdu.get l).source = .manual then s.cycleEnd l else s.raiseCheck l pins

/-! ### Completions (R53 to R56, R66, R67) -/

/-- A stray completion (R56). -/
def State.stray (s : State) (l : Lane) : State := s.modPsc l fun p => { p with stray := satInc p.stray }

/-- STEP_RESULT to the service link (R66). -/
def State.stepResult (s : State) (l : Lane) (k : StepKind) (cause : Option FaultCause) : State :=
  s.tell .service (.stepResult (s.laneNumber l) k cause)

/-- The last step of a test recipe is done (R67). -/
def State.testCycleDone (s : State) (l : Lane) (r : Recipe) : State :=
  let s := (s.writeDeck l r.target).modPsc l fun p => { p with recipe := none }
  s.tell .service (.testCycleDone (s.laneNumber l))

/-- A step ends in SERVICE with DONE (R66, R67). -/
def State.serviceDone (s : State) (l : Lane) (k : StepKind) : State :=
  let s := s.stepResult l k none
  let p := s.psc.get l
  match p.recipe with
  | none => s
  | some r => if p.queue.isEmpty then s.testCycleDone l r else s.nextStep l

/-- Winding down ends with its step: STANDBY, and STARTING if the session is OPENING by then (R72). -/
def State.woundDown (s : State) (l : Lane) : State :=
  let s := (s.modPsc l fun p => { p with windingDown := false }).setMachine l .standby
  if (s.sessions.get l).state = .opening then s.startMachine l else s

/-- DONE (R53, R66, R72). -/
def State.completeDone (s : State) (l : Lane) : State :=
  let p := s.psc.get l
  match p.step with
  | none => s.stray l
  | some k =>
    let s := s.modPsc l fun p => { p with step := none, stepTimer := none }
    if p.windingDown then s.woundDown l
    else if p.state = .service then s.serviceDone l k
    else if p.queue.isEmpty then s.enterChecking l
    else s.nextStep l

/-- The step, the queue and the recipe of a machine emptied. -/
def Pinsetter.emptied (p : Pinsetter) : Pinsetter :=
  { p with step := none, stepTimer := none, queue := [], remainder := none, recipe := none }

/-- A failure of the executing step `k` (R55, R66, R67). -/
def State.machineFails (s : State) (l : Lane) (k : StepKind) (cause : FaultCause) : State :=
  let inService := (s.psc.get l).state = .service
  let s := (s.modPsc l Pinsetter.emptied).setHold l false
  if inService then s.stepResult l k (some cause)
  else (s.modPsc l fun p => { p with closingOwed := false, windingDown := false }).setMachine l .fault (some cause)

/-- REDO (R54). -/
def State.completeRedo (s : State) (l : Lane) : State :=
  let p := s.psc.get l
  match p.step with
  | none => s.stray l
  | some k =>
    if p.redo < 3 then
      s.modPsc l fun p => { p with redo := p.redo + 1, stepTimer := some (seconds (stepTime s.settings.stepTimeouts k)) }
    else s.machineFails l k .redoLimit

/-- A FAULT completion (R55). -/
def State.completeFault (s : State) (l : Lane) (cause : FaultCause) : State :=
  match (s.psc.get l).step with
  | none => s.stray l
  | some k => s.machineFails l k cause

/-- The step timer expires (R55). -/
def State.stepExpires (s : State) (l : Lane) : State :=
  let p := s.psc.get l
  match p.step with
  | none => s
  | some k => if p.stepTimer.isSome then s.machineFails l k .timeout else s

/-- The start timer expires: a FULL recipe of origin START (R49). -/
def State.startExpires (s : State) (l : Lane) : State :=
  let p := s.psc.get l
  if p.state = .starting && p.startTimer.isSome then
    (s.modPsc l fun p => { p with startTimer := none }).cycle l { kind := .full, target := fullDeck, origin := .start }
  else s

/-! ### Close and pair clear (R62, R72) -/

/-- A session is closed now (R62). A closing rack is owed for a recipe in hand; a machine that winds down has none (log 30). -/
def State.pscCloseNow (s : State) (l : Lane) : State :=
  let p := s.psc.get l
  match p.state with
  | .ready | .inPlay => s.cycle l closingRack
  | .cycling | .heldPit | .checking => s.modPsc l fun p => { p with closingOwed := p.recipe.isSome }
  | .starting => s.setMachine l .standby
  | .off | .standby | .fault | .service => s

/-- The deck of a lane at pair clear (R72). -/
def State.clearDeck (s : State) (l : Lane) : State :=
  match (s.psc.get l).state with
  | .off | .ready | .standby | .fault | .service => s
  | .starting | .inPlay | .cycling | .heldPit | .checking => s.writeDeck l (.unknown 10)

/-- A test recipe in SERVICE is emptied, its executing step left (R72, R67). -/
def State.clearTest (s : State) (l : Lane) : State :=
  if (s.psc.get l).recipe.isSome then
    (s.modPsc l fun p => { p with queue := [], remainder := none, recipe := none }).setHold l false
  else s

/-- A machine out of FAULT and SERVICE at pair clear (R72). -/
def State.clearPlay (s : State) (l : Lane) : State :=
  let t := ((s.modPsc l fun p => { p with
    queue := [], remainder := none, recipe := none, attempts := 0, closingOwed := false, startTimer := none }).setHold l
      false).withdrawCheck l
  if (t.psc.get l).step.isNone then t.setMachine l .standby else t.modPsc l fun p => { p with windingDown := true }

/-- Pair clear (R72). -/
def State.pscClear (s : State) (l : Lane) : State :=
  let s := s.clearDeck l
  match (s.psc.get l).state with
  | .off | .fault => s
  | .service => s.clearTest l
  | .standby | .starting | .ready | .inPlay | .cycling | .heldPit | .checking => s.clearPlay l

/-! ### Requests (R63, R65) -/

/-- re-rack (R63). -/
def handleReRack (lane : Nat) (s : State) : State × Answer :=
  match laneOf lane with
  | none => refuse .range s
  | some l =>
    if (s.psc.get l).state = .ready then
      accept (s.cycle l { kind := .rerack, target := (s.pdu.get l).deck, origin := .rerack })
    else refuse .state s

/-- issue-step (R65). -/
def handleIssueStep (lane step : Nat) (s : State) : State × Answer :=
  match laneOf lane, stepOf step with
  | some l, some k =>
    let p := s.psc.get l
    if p.state ≠ .service then refuse .state s
    else if p.step.isSome || p.recipe.isSome then refuse .busy s
    else if k = .sweep && s.pitFull l then refuse .state s
    else accept (s.issue l k)
  | _, _ => refuse .range s

/-- resume-machine (R69). -/
def handleResumeMachine (lane choice : Nat) (s : State) : State × Answer :=
  match laneOf lane, choiceOf choice with
  | some l, some rack =>
    let p := s.psc.get l
    let expected := s.expectedDeck l
    if p.state ≠ .service then refuse .state s
    else if p.step.isSome || p.recipe.isSome then refuse .busy s
    else if rack then
      if expected = fullDeck then accept (s.cycle l { kind := .full, target := fullDeck, origin := .resume })
      else refuse .state s
    else
      let r : Recipe := { kind := .rerack, target := expected, origin := .resume }
      accept ((s.modPsc l fun p => { p with recipe := some r, attempts := 0 }).enterChecking l)
  | _, _ => refuse .range s

end Sys2Proof.Machine
end

