-- ==== Sys2Proof/Machine/Return.lean ====
section
/-! DEFINITION. The Ball Return Controller (04_ball_return.md): pits and stamps, the lift and its choice, the rack, return
states and the clear. -/
namespace Sys2Proof.Machine

/-! ### Return states (R81) -/

/-- A RETURN notice of any kind marks the lower half of both lanes (R169). -/
def State.tellReturn (s : State) (n : Notice) : State := (s.broadcast n).markFeeds true false

/-- The fields of a RETURN STATE or CLEARED notice (R81). -/
def State.returnNotice (s : State)
    (f : ReturnState → Option ReturnCause → LiftCondition → Nat → Nat → Nat → Notice) : Notice :=
  let r := s.ret
  f r.state r.cause (liftCondition r s.settings.rackCapacity) r.pits.left.length r.pits.right.length r.rack

/-- The return enters a state: the notice, and the pause condition of both lanes (R81, R148). -/
def State.setReturn (s : State) (state : ReturnState) (cause : Option ReturnCause) : State :=
  let s := s.modReturn fun r => { r with state := state, cause := cause }
  (s.tellReturn (s.returnNotice .returnState)).pauseEvals

/-- The idle condition evaluated (R81); a return in FAULT stays there. -/
def State.returnIdleEval (s : State) : State :=
  match s.ret.state with
  | .running => if s.returnIdles then s.setReturn .idle none else s
  | .idle => if s.returnIdles then s else s.setReturn .running none
  | .fault => s

/-! ### The lift (R74, R76) -/

/-- Ball `a` is older than ball `b`, by their stamps (R74). -/
def olderStamp (a b : Nat) : Bool :=
  let d := (b + 65536 - a) % 65536
  1 ≤ d && d ≤ 32767

/-- The lane whose pit the lift takes from, among candidate lanes: the one whose front ball is the oldest (R76). -/
def oldestPit (left right : Option Nat) : Option Lane :=
  match left, right with
  | some a, some b => if olderStamp b a then some .right else some .left
  | some _, none => some .left
  | none, some _ => some .right
  | none, none => none

/-- The lane of the next take: held lanes first, and among the candidates the oldest ball (R76). -/
def BallReturn.nextPit (r : BallReturn) : Option Lane :=
  let held := r.holds.left || r.holds.right
  let front (l : Lane) : Option Nat := if !held || r.holds.get l then (r.pits.get l).head? else none
  oldestPit (front .left) (front .right)

/-- The lift can take a ball: RUNNING, the lift empty, the rack below its capacity (R76). -/
def BallReturn.mayTake (r : BallReturn) (capacity : Nat) : Bool :=
  r.state = .running && r.lift.isNone && r.rack < capacity

/-- A take from a lane's pit: the ball at its front goes into the lift, and the carry timer starts (R76). -/
def BallReturn.takeFrom (r : BallReturn) (l : Lane) (timeout : Nat) : BallReturn :=
  match r.pits.get l with
  | [] => r
  | stamp :: rest =>
    { r with
      pits := r.pits.set l rest, lift := some { stamp := stamp, lane := l }, carryTimer := some (seconds timeout) }

/-- The take that falls due, if one does (R76). -/
def BallReturn.take (r : BallReturn) (capacity timeout : Nat) : BallReturn :=
  if r.mayTake capacity then
    match r.nextPit with
    | some l => r.takeFrom l timeout
    | none => r
  else r

def State.takeBall (s : State) : State := s.modReturn fun r => r.take s.settings.rackCapacity s.settings.carryTimeout

/-- The pit counts passed to both PSCs: a held sweep whose pit has room is issued, and its hold turned off (R58, R76, R83). -/
def State.passPits (s : State) : State := (s.releaseHold .left).releaseHold .right

/-- What falls due of the return in an event: its idle condition (R81), a take (R76), and the sweeps a pit with room
releases (R58). -/
def State.returnPump (s : State) : State := s.returnIdleEval.takeBall.passPits

/-! ### Events -/

/-- A ball enters a pit that has room (R74). -/
def BallReturn.enterPit (r : BallReturn) (l : Lane) : BallReturn :=
  { r with pits := r.pits.set l (r.pits.get l ++ [r.stampCounter]), stampCounter := wrapInc r.stampCounter }

/-- A pit detector event (R74, R75). -/
def State.pitEvent (s : State) (l : Lane) : State :=
  let r := s.ret
  if (r.pits.get l).length < 2 then s.modReturn fun r => r.enterPit l
  else
    let s := s.broadcast (.pitOverflow (s.laneNumber l) (r.pits.get l))
    match r.state with
    | .running => (s.modReturn fun r => { r with carryTimer := none }).setReturn .fault (some .pitOverflow)
    | .idle | .fault => s

/-- A lift top sensor event (R77). -/
def State.liftTop (s : State) : State :=
  if s.ret.lift.isSome then
    let s := s.modReturn fun r => { r with lift := none, carryTimer := none, rack := r.rack + 1 }
    if s.ret.rack = s.settings.rackCapacity then s.tellReturn .rackFull else s
  else s.modReturn fun r => { r with liftGlitches := satInc r.liftGlitches }

/-- A rack take sensor event (R79). -/
def State.rackTaken (s : State) : State :=
  let before := s.ret.rack
  if 0 < before then
    let s := s.modReturn fun r => { r with rack := r.rack - 1 }
    if before = s.settings.rackCapacity then s.tellReturn .rackFree else s
  else s.modReturn fun r => { r with rackGlitches := satInc r.rackGlitches }

/-- The carry timer expires (R78). -/
def State.carryExpires (s : State) : State :=
  let r := s.ret
  if r.carryTimer.isSome && r.lift.isSome && r.state = .running then
    (s.modReturn fun r => { r with carryTimer := none }).setReturn .fault (some .liftJam)
  else s

/-! ### Clearing and the capacity (R83, R84) -/

/-- The notice of a lift condition that moves into or out of RACK_FULL (R83, R84). -/
def State.rackMoved (s : State) (before : LiftCondition) : State :=
  let after := liftCondition s.ret s.settings.rackCapacity
  if before ≠ .rackFull && after = .rackFull then s.tellReturn .rackFull
  else if before = .rackFull && after ≠ .rackFull then s.tellReturn .rackFree
  else s

/-- The balls reported removed from the lift and the pits (R83). -/
def BallReturn.removed (r : BallReturn) (lift left right : Nat) : BallReturn :=
  { r with
    lift := if lift = 1 then none else r.lift
    carryTimer := if lift = 1 then none else r.carryTimer
    pits := ⟨r.pits.left.drop left, r.pits.right.drop right⟩ }

/-- The number of balls in the lift. -/
def BallReturn.inLift (r : BallReturn) : Nat := if r.lift.isSome then 1 else 0

/-- What a read or a clear says of the pits, the lift and the rack (R83, R85). -/
def liftField (b : Option LiftBall) : List Byte :=
  match b with
  | some b => be 3 b.stamp ++ be 1 (Lane.code b.lane)
  | none => absentBytes 4

/-- The effects of an accepted clear-return, in the order of R83: a sweep that its removals release is issued, and its hold
turned off, before any take (R58). The RETURN notice STATE of a return that leaves FAULT shows the counts before the take made
in the same clear, the notice CLEARED those after it (log 47). -/
def State.clearReturn (s : State) (lift left right : Nat) (rack : Option Nat) : State :=
  let was := s.ret.state
  let s := (s.modReturn fun r => r.removed lift left right).passPits
  let before := liftCondition s.ret s.settings.rackCapacity
  let s := match rack with
    | some n => (s.modReturn fun r => { r with rack := n }).rackMoved before
    | none => s
  let s := if was = .fault then s.setReturn .running none else s
  let s := s.returnIdleEval
  let s := s.modReturn fun r =>
    if r.state = .running && r.lift.isSome then { r with carryTimer := some (seconds s.settings.carryTimeout) } else r
  let s := s.returnPump
  if was = .running && s.ret.state = .running then s.tellReturn (s.returnNotice .returnCleared) else s

/-- clear-return (R83). -/
def handleClearReturn (lift left right : Nat) (rack : Option Nat) (s : State) : State × Answer :=
  let r := s.ret
  let bound := s.settings.rackCapacity - (r.inLift - lift)
  if !(lift ≤ 1 && left ≤ 3 && right ≤ 3) then refuse .range s
  else if lift = 1 && r.lift.isNone then refuse .range s
  else if bound < rack.getD 0 then refuse .range s
  else
    let t := s.clearReturn lift left right rack
    (t, .ok (be 1 t.ret.pits.left.length ++ be 1 t.ret.pits.right.length ++ liftField t.ret.lift ++ be 1 t.ret.rack))

end Sys2Proof.Machine
end

