-- ==== Sys2Proof/Machine/Groups.lean ====
section
/-! DEFINITION. The Game Table (05_groups_frames_and_play_order.md): groups, lines, frames, the hand-off of lanes, games and
their ends, and the requests that act on them. -/
namespace Sys2Proof.Machine

/-! ### What a change of the play state sends (R88, R169, R171, R49) -/

/-- The current position of a group that bowls follows its up line (R95); another group's is kept (log 13). -/
def State.placePosition (s : State) (g : Slot) : State :=
  s.modGroup g fun r =>
    if r.state = .playing then { r with position := (s.upLine r).bind (positionIn r.order) } else r

/-- A change of a group's state, play mode, home lane, order, frame in progress or current position (R88). -/
def groupDiffers (a b : Group) : Bool :=
  a.state ≠ b.state || a.playMode ≠ b.playMode || a.home ≠ b.home || a.order ≠ b.order || a.frame ≠ b.frame
    || a.position ≠ b.position

/-- GROUP_STATE for a group that has changed since `before`, with the code of a refused auto-next start (R88, R104). -/
def State.announceGroup (s before : State) (g : Slot) (refused : Option Code) : State :=
  let r := s.groups.get g
  if groupDiffers (before.groups.get g) r || refused.isSome then
    (s.broadcast (.groupState g r s.lanes.left s.lanes.right refused)).markShowing before g
  else s

/-- A lane whose occupant or home group has changed since `before`: its halves are marked (R169), and a new occupant with a
game in progress starts its machine (R49). -/
def State.announceLane (s before : State) (l : Lane) : State :=
  let occupant := (s.lanes.get l).occupant
  let moved := (before.lanes.get l).occupant ≠ occupant
  let s := if moved || before.homeGroup l ≠ s.homeGroup l then s.markFeed l true true else s
  let plays := match occupant with
    | some g => (s.groups.get g).inProgress
    | none => false
  if moved && plays && (s.sessions.get l).state ≠ .closed then s.startMachine l else s

/-- What the changes since `before` send: one GROUP_STATE for each changed group (log 19). `refused` names the group whose
auto-next start was refused, with the code. -/
def State.announce (s before : State) (refused : Option (Slot × Code)) : State :=
  let code (g : Slot) : Option Code :=
    match refused with
    | some (h, c) => if h = g then some c else none
    | none => none
  let s := (s.placePosition .g1).placePosition .g2
  let s := (s.announceGroup before .g1 (code .g1)).announceGroup before .g2 (code .g2)
  ((s.announceLane before .left).announceLane before .right).bannersEval

/-! ### Lanes (R99) -/

/-- The state a hand-off gives a group; a frozen group keeps its own, and takes it as its frozen-from (R99). -/
def Group.becomes (r : Group) (state : GroupState) : Group :=
  if r.isFrozen then { r with frozenFrom := some state } else { r with state := state }

def State.becomes (s : State) (g : Slot) (state : GroupState) : State := s.modGroup g fun r => r.becomes state

/-- A group releases a lane, or its waiting place there; a waiter takes a released lane (R99, step 1). -/
def State.releaseLane (s : State) (g : Slot) (l : Lane) : State :=
  let r := s.lanes.get l
  if r.occupant = some g then
    let s := s.modLane l fun r => { occupant := r.waiter, waiter := none }
    match r.waiter with
    | some w => s.becomes w .playing
    | none => s
  else if r.waiter = some g then s.modLane l fun r => { r with waiter := none }
  else s

def State.releaseLanes (s : State) (g : Slot) : State := (s.releaseLane g .left).releaseLane g .right

/-- A group asks for a lane (R99, step 2). -/
def State.askLane (s : State) (g : Slot) (l : Lane) : State :=
  match (s.lanes.get l).occupant with
  | none => (s.modLane l fun r => { r with occupant := some g }).becomes g .playing
  | some _ => (s.modLane l fun r => { r with waiter := some g }).becomes g .waiting

/-- A hand-off: release, then ask (R99). -/
def State.handOff (s : State) (g : Slot) (l : Lane) : State := (s.releaseLanes g).askLane g l

/-! ### Balls on lines (R96) -/

/-- A ball at its position of a frame: replaced there, or placed as the next. -/
def placeIn (balls : List BallRecord) (b : BallRecord) (position : Nat) : List BallRecord :=
  if position ≤ balls.length then balls.mapIdx fun n x => if n + 1 = position then b else x else balls ++ [b]

/-- A ball placed on a line; a frame record is created when the line has none for its frame (R96). -/
def Line.placeBall (l : Line) (b : BallRecord) (frame position : Nat) : Line :=
  if (l.frameAt frame).isSome then
    { l with frames := l.frames.map fun f =>
        if f.number = frame then { f with balls := placeIn f.balls b position } else f }
  else
    { l with frames := l.frames ++ [{ number := frame, missed := false, balls := [b], score := none, running := none
                                      state := none, marks := [] }] }

/-- A ball removed from a line, and its frame record when no ball is left in it (R96). -/
def Line.removeBall (l : Line) (frame position : Nat) : Line :=
  let frames := l.frames.map fun f =>
    if f.number = frame then { f with balls := f.balls.eraseIdx (position - 1) } else f
  { l with frames := frames.filter fun f => !(f.number = frame && f.balls.isEmpty && !f.missed) }

/-- The line that takes a ball record: the line of its binding, in use, whose frames are those of its game (R96). A line id that
another group has taken since, in a game of the same number, is that line too (log 18). -/
def State.lineForBall (s : State) (b : BallRecord) : Option LineId :=
  match b.line with
  | some i =>
    match s.line i with
    | some l => if (s.groups.get l.group).game = b.game then some i else none
    | none => none
  | none => none

/-- A record enters its line (R96); a test ball, or one whose line is gone, does not. -/
def State.placeBall (s : State) (b : BallRecord) : State :=
  match s.lineForBall b, b.frame, b.ball with
  | some i, some frame, some position => s.changeLine i fun l => l.placeBall b frame position
  | _, _, _ => s

/-- A DISCARDED record is removed from its line (R96). -/
def State.removeBall (s : State) (b : BallRecord) : State :=
  match s.lineForBall b, b.frame, b.ball with
  | some i, some frame, some position => s.changeLine i fun l => l.removeBall frame position
  | _, _, _ => s

/-! ### Games (R102 to R104) -/

def State.activeLines (s : State) (g : Slot) : Nat := ((s.linesOf g).filter fun l => l.status = .active).length

/-- The game number after one (R103). -/
def nextGame (n : Option Nat) : Nat :=
  match n with
  | some n => if n < 255 then n + 1 else 1
  | none => 1

/-- The checks and the permission of a game start (R103): the state they leave, and the refusal if there is one. -/
def State.permitStart (s : State) (g : Slot) : State × Option Code :=
  let r := s.groups.get g
  if r.state ≠ .idle then (s, some .state)
  else if s.activeLines g = 0 then (s, some .state)
  else if r.playMode = .cross && !s.crossAdmitted then (s, some .state)
  else s.permitGame r.home (s.activeLines g)

/-- A permitted game starts (R103). -/
def State.startGame (s : State) (g : Slot) : State :=
  let r := s.groups.get g
  let s := r.order.foldl (fun s i => s.changeLine i fun l => { l with frames := [] }) s
  let s := s.voidCorrections (fun e => r.order.contains e.line) r.home
  let s := s.modGroup g fun r => { r with game := some (nextGame r.game), inProgress := true, frame := 1 }
  s.askLane g r.home

/-- The completed-game entry of a line that took part (R102, R122). -/
def Line.entry (l : Line) (game : Nat) : GameEntry :=
  { game := game, scratch := (l.scratch.map (·.value)).getD 0, handicap := l.handicap }

/-- An entry joins a completed-game list, which keeps the last 8 (R102). -/
def appendGame (games : List GameEntry) (e : GameEntry) : List GameEntry :=
  let all := games ++ [e]
  all.drop (all.length - 8)

/-- The lines that receive an entry at a game end, with their entries (R102). -/
def State.gameEntries (s : State) (g : Slot) : List (LineId × GameEntry) :=
  let r := s.groups.get g
  r.order.filterMap fun i =>
    match s.line i with
    | some l => if l.frames.isEmpty then none else some (i, l.entry (r.game.getD 0))
    | none => none

/-- A group's game ends (R102), and the next one is requested if its session has the auto-next flag (R104). `before` is the
state before the event's changes of the play state. -/
def State.gameEnd (s before : State) (g : Slot) : State :=
  let r := s.groups.get g
  let entries := s.gameEntries g
  let s := entries.foldl (fun s e => s.changeLine e.1 fun l => { l with games := appendGame l.games e.2 }) s
  let s := ((s.releaseLanes g).modGroup g fun r => { r with inProgress := false, position := none }).becomes g .idle
  let ended := Notice.gameEnd g r.game entries
  if (s.sessions.get r.home).autoNext then
    match s.permitStart g with
    | (t, some c) => (t.announce before (some (g, c))).broadcast ended
    | (t, none) =>
      let t := (t.announce before none).broadcast ended
      (t.startGame g).announce t none
  else (s.announce before none).broadcast ended

/-- The test made after a ball becomes FINAL on a line of a group, and after a withdrawal (R97): the frame advances, or the
game ends. -/
def State.advance (s before : State) (g : Slot) : State :=
  let r := s.groups.get g
  let ls := s.linesOf g
  if ls.any fun l => l.dueFor r.frame then s.announce before none
  else if r.frame < 10 && ls.any fun l => l.status = .active then
    let old := r.laneOfFrame r.frame
    let new := r.laneOfFrame (r.frame + 1)
    let s := s.modGroup g fun r => { r with frame := r.frame + 1 }
    (if old = new then s else s.handOff g new).announce before none
  else s.gameEnd before g

/-- What follows a ball that has become FINAL on its line (R97); nothing advances when the group's game is over. -/
def State.advanceFor (s : State) (b : BallRecord) : State :=
  match s.lineForBall b with
  | some i =>
    match s.line i with
    | some l => if (s.groups.get l.group).inProgress then s.advance s l.group else s
    | none => s
  | none => s

/-! ### A close now (R101) -/

/-- The home group's game is abandoned, and a frozen group is unfrozen into IDLE (R101, R182). -/
def State.abandonGame (s : State) (g : Slot) : State :=
  let r := s.groups.get g
  if r.inProgress || r.isFrozen then
    let s := (s.releaseLanes g).modGroup g fun r => { r with state := .idle, inProgress := false, frozenFrom := none }
    { s with outbound := s.outbound.set g none }
  else s

/-- A CROSS group homed on the other lane, with a game in progress, is turned to OPEN (R101). -/
def State.turnOpen (s : State) (g : Slot) : State :=
  let r := s.groups.get g
  if r.playMode = .cross && r.inProgress then
    let s := s.modGroup g fun r => { r with playMode := .openPlay }
    if (s.lanes.get r.home).occupant = some g then s else s.handOff g r.home
  else s

/-- The close of a session now reaches the GT (R101). -/
def State.gtCloseNow (s : State) (l : Lane) : State :=
  let t := match s.homeGroup l with
    | some g => s.abandonGame g
    | none => s
  let t := match t.homeGroup (otherLane l) with
    | some g => t.turnOpen g
    | none => t
  t.announce s none

/-! ### Requests -/

def nameOk (n : Name) : Bool := 1 ≤ n.length && n.length ≤ 12

def averageOk (a : Option Nat) : Bool :=
  match a with
  | some n => n ≤ 300
  | none => true

/-- A bowler's attributes within their ranges (R89). -/
def bowlerOk (b : BowlerSpec) : Bool := nameOk b.name && averageOk b.average && (handicapOf b.mode b.fixed).isSome

/-- A new line, with version 1 and copy state NONE at every link (R89, R125). -/
def newLine (p : HandicapParams) (g : Slot) (b : BowlerSpec) (frames : List FrameRecord) : Line :=
  computeLine p
    { group := g, name := b.name, average := b.average, mode := (handicapOf b.mode b.fixed).getD .noHandicap
      status := .active, frames := frames, games := [], handicap := 0, scratch := none, gameTotal := none, version := 1
      copies := ⟨.none, .none, .none⟩, claimTimer := none }

/-- Lines created at ids. -/
def State.addLines (s : State) (new : List (LineId × Line)) : State := new.foldl (fun s e => s.setLine e.1 (some e.2)) s

def sessionTakesGroups (x : Session) : Bool := x.state ≠ .closed && x.state ≠ .closing

/-- The other slot's group has its home on a lane. -/
def State.otherHomed (s : State) (g : Slot) (l : Lane) : Bool :=
  let o := s.groups.get (otherSlot g)
  o.present && o.home = l

/-- create-group (R89). -/
def handleCreateGroup (slot : Nat) (name : Name) (lane : Nat) (bowlers : List BowlerSpec) (s : State) : State × Answer :=
  match slotOf slot, laneOf lane with
  | some g, some l =>
    let ids := s.freeLines.take bowlers.length
    if !(nameOk name && 1 ≤ bowlers.length && bowlers.length ≤ 8 && bowlers.all bowlerOk) then refuse .range s
    else if (s.groups.get g).present then refuse .state s
    else if s.otherHomed g l then refuse .state s
    else if !sessionTakesGroups (s.sessions.get l) then refuse .state s
    else if ids.length < bowlers.length then refuse .full s
    else
      let t := s.addLines (ids.zip (bowlers.map fun b => newLine s.handicap g b []))
      let t := t.modGroup g fun _ => { Group.empty with state := .idle, name := name, home := l, order := ids }
      (t.announce s none, .ok (listed lineField ids))
  | _, _ => refuse .range s

/-- dismiss-group (R90). -/
def handleDismissGroup (slot : Nat) (s : State) : State × Answer :=
  match slotOf slot with
  | none => refuse .range s
  | some g =>
    let r := s.groups.get g
    if r.state ≠ .idle then refuse .state s
    else
      let t := r.order.foldl (fun t i => t.removeLine r.home i) s
      accept (((t.modGroup g fun _ => Group.empty).dropHighlights r.home).announce s none)

/-- The frames a line holds that joins a group in frame `k`: the frames before it, missed (R91). -/
def missedFrames (k : Nat) : List FrameRecord :=
  (List.range (k - 1)).map fun n =>
    { number := n + 1, missed := true, balls := [], score := none, running := none, state := none, marks := [] }

/-- add-bowler (R91). -/
def handleAddBowler (slot : Nat) (b : BowlerSpec) (s : State) : State × Answer :=
  match slotOf slot with
  | none => refuse .range s
  | some g =>
    let r := s.groups.get g
    if !bowlerOk b then refuse .range s
    else if !(r.state = .idle || r.state = .playing) then refuse .state s
    else if 8 ≤ r.order.length then refuse .full s
    else
      match s.freeLines.head? with
      | none => refuse .full s
      | some i =>
        let frames := if r.state = .playing then missedFrames r.frame else []
        let t := s.setLine i (some (newLine s.handicap g b frames))
        let t := (t.modGroup g fun r => { r with order := r.order ++ [i] }).refreshTotals g
        (t.announce s none, .ok (lineField i))

/-- set-play-mode (R100). -/
def handleSetPlayMode (slot mode : Nat) (s : State) : State × Answer :=
  match slotOf slot, playModeOf mode with
  | some g, some m =>
    let r := s.groups.get g
    if r.state ≠ .idle then refuse .state s
    else if r.playMode = m then accept s
    else if m = .cross && !s.crossAdmitted then refuse .state s
    else accept ((s.modGroup g fun r => { r with playMode := m }).announce s none)
  | _, _ => refuse .range s

/-- new-game (R103). -/
def handleNewGame (slot : Nat) (s : State) : State × Answer :=
  match slotOf slot with
  | none => refuse .range s
  | some g =>
    match s.permitStart g with
    | (t, some c) => refuse c t
    | (t, none) =>
      let t := (t.startGame g).announce s none
      let r := t.groups.get g
      (t, .ok (be 1 (r.game.getD 0) ++ be 1 r.state.code))

/-- move-group (R105). -/
def handleMoveGroup (slot lane : Nat) (s : State) : State × Answer :=
  match slotOf slot, laneOf lane with
  | some g, some l =>
    let r := s.groups.get g
    if !(r.state = .idle || r.state = .playing || r.state = .waiting) then refuse .state s
    else if r.playMode ≠ .openPlay then refuse .state s
    else if l = r.home then refuse .state s
    else if (s.lanes.get l).occupant.isSome || s.otherHomed g l then refuse .state s
    else if (s.sessions.get l).state ≠ .opened then refuse .state s
    else if s.ballInPlay r.home then refuse .state s
    else
      let t := s.modGroup g fun r => { r with home := l }
      accept ((if r.inProgress then t.handOff g l else t).announce s none)
  | _, _ => refuse .range s

/-! ### edit-line (R133, R134) -/

/-- An order with one line moved to a new position (R93). -/
def moveTo (order : List LineId) (i : LineId) (p : Nat) : List LineId :=
  let rest := order.filter fun j => j ≠ i
  rest.take (p - 1) ++ [i] ++ rest.drop (p - 1)

/-- The changes carry at least one change (R133). -/
def changesAny (c : LineChanges) : Bool :=
  c.name.isSome || c.average.isSome || c.handicap.isSome || c.position.isSome || c.withdraw

/-- Every value of the changes within its range (R133). -/
def changesInRange (c : LineChanges) (lines : Nat) : Bool :=
  (match c.name with | some n => nameOk n | none => true)
  && (match c.average with | some a => averageOk a | none => true)
  && (match c.handicap with | some h => (handicapOf h.1 h.2).isSome | none => true)
  && (match c.position with | some p => 1 ≤ p && p ≤ lines | none => true)

/-- A lane has a ball in play whose binding names a line that satisfies a test. -/
def State.ballInPlayFor (s : State) (test : LineId → Bool) : Bool :=
  let on (l : Lane) : Bool :=
    s.ballInPlay l && (match (s.pdu.get l).binding with
      | some b => (match b.line with | some i => test i | none => false)
      | none => false)
  on .left || on .right

/-- The Game Table admits a withdrawal (R92); one of a line already WITHDRAWN passes (R133). -/
def State.withdrawOk (s : State) (i : LineId) (l : Line) : Bool :=
  l.status = .withdrawn || (!s.ballInPlayFor (fun j => j = i) && !l.midFrame (s.groups.get l.group).frame)

/-- The attributes a line has after the changes. -/
def Line.edited (l : Line) (c : LineChanges) : Line :=
  { l with
    name := c.name.getD l.name
    average := c.average.getD l.average
    mode := match c.handicap with
      | some h => (handicapOf h.1 h.2).getD l.mode
      | none => l.mode
    status := if c.withdraw then .withdrawn else l.status }

/-- An accepted edit-line of a line that changes at least one item (R134). -/
def State.editLine (s : State) (k : Link) (i : LineId) (l : Line) (c : LineChanges) : State :=
  let g := l.group
  let t := (s.changeLine i fun l => { l.edited c with claimTimer := some (seconds s.settings.claimExpiry) })
  let t := match c.position with
    | some p => t.modGroup g fun r => { r with order := moveTo r.order i p }
    | none => t
  let t :=
    if c.withdraw && l.status = .active && (t.groups.get g).inProgress then t.advance s g else t.announce s none
  t.flushLines (some (k, i))

/-- The check of R133 that refuses an edit-line, if one does. The ball-in-play check of an order change is made for every
position carried, one equal to the position in force too (log 34). -/
def State.editRefused (s : State) (k : Link) (i : LineId) (l : Line) (base : Nat) (c : LineChanges) : Option Code :=
  let r := s.groups.get l.group
  if !(changesAny c && changesInRange c r.order.length) then some .range
  else if r.isFrozen then some .state
  else if l.copies.get k ≠ .edit then some .notHeld
  else if base ≠ l.version then some .stale
  else if c.position.isSome && s.ballInPlayFor (fun j => s.lineTest j fun o => o.group = l.group) then some .state
  else if c.withdraw && !s.withdrawOk i l then some .state
  else none

/-- edit-line (R133, R134). -/
def handleEditLine (k : Link) (line base : Nat) (c : LineChanges) (s : State) : State × Answer :=
  match s.namedLine line with
  | none => refuse .range s
  | some (i, l) =>
    match s.editRefused k i l base c with
    | some code => refuse code s
    | none =>
      let moved := match c.position with
        | some p => positionIn (s.groups.get l.group).order i ≠ some p
        | none => false
      if l.edited c = l && !moved then
        (s.setLine i (some { l with claimTimer := some (seconds s.settings.claimExpiry) }), .ok (be 2 l.version))
      else
        let t := s.editLine k i l c
        (t, .ok (be 2 (t.versionOf i)))

end Sys2Proof.Machine
end

