-- ==== Sys2Proof/Machine/Pinfall.lean ====
section
/-! DEFINITION. The Pinfall Decision Unit (02_pinfall_decisions.md): arming, the sensing run, ball records, fouls, the choice of
recipe, run drops, MANUAL scoring and test balls. -/
namespace Sys2Proof.Machine

/-! ### Arming (R26, R27, R39) -/

/-- The binding of a lane's up bowler, with the deck made to agree with its expected deck (R26). -/
def State.bindingFor (s : State) (l : Lane) : Option (Binding × Deck) :=
  match s.upBowler l with
  | none => none
  | some (i, frame, ball) =>
    let game := match s.bowling l with
      | some g => (s.groups.get g).game
      | none => none
    let deck := (s.pdu.get l).deck.agree (s.expectedDeck l)
    some ({ line := some i, game := game, frame := some frame, ball := some ball, fullRack := deck = fullDeck, test := false },
      deck)

/-- The PDU arms (R26); the last ball becomes absent, and the lower half is marked (R164, R169). -/
def State.arm (s : State) (l : Lane) (b : Binding) (d : Deck) : State :=
  let detect := (s.sessions.get l).foulDetect
  (s.modPdu l fun p => { p with
    run := .armed, binding := some b, deck := d, upAtArming := d.set?, foulFlag := false, elapsed := false, settleCount := 0
    stalled := false, foulOpen := detect && p.source = .auto }).showBall l none

/-- The PDU returns to IDLE from ARMED or FINAL (R27, R39): the binding becomes absent, the foul window closes and the foul flag
is cleared (from FINAL: log 15). -/
def State.disarm (s : State) (l : Lane) : State :=
  s.modPdu l fun p => { p with run := .idle, binding := none, foulOpen := false, foulFlag := false }

/-- Two bindings name the same ball of the same line. -/
def sameBinding (a b : Binding) : Bool := a.line = b.line && a.game = b.game && a.frame = b.frame && a.ball = b.ball

/-- An ARMED PDU follows the lane's up bowler (R27). -/
def State.rebind (s : State) (l : Lane) (b : Binding) (d : Deck) : State :=
  let t := s.modPdu l fun p => { p with binding := some b, deck := d, upAtArming := d.set? }
  match (s.pdu.get l).binding with
  | some old => if sameBinding old b then s else t
  | none => t

/-- The PDU of a lane as its machine and its up bowler have it (R26, R27, R39). It is judged once, at the event's end: an ARMED
PDU whose up bowler goes and another comes within one event rebinds, and does not pass IDLE (log 46). -/
def State.pduSync (s : State) (l : Lane) : State :=
  let ready : Bool := (s.psc.get l).state = .ready
  match (s.pdu.get l).run, (if ready then s.bindingFor l else none) with
  | .idle, some (b, d) => s.arm l b d
  | .final, some (b, d) => s.arm l b d
  | .final, none => if ready then s.disarm l else s
  | .armed, some (b, d) => s.rebind l b d
  | .armed, none => s.disarm l
  | .idle, none | .delay, _ | .settling, _ | .settled, _ | .awaitingEntry, _ => s

def State.pdusSync (s : State) : State := (s.pduSync .left).pduSync .right

/-! ### Publishing a record (R33, R34, R38, R43) -/

/-- The mark of a record as its line shows it (R121, R196): none when the line is gone or its frames are of another game
(log 18, log 20). -/
def State.markOfBall (s : State) (b : BallRecord) : Option Mark :=
  match s.lineForBall b, b.frame, b.ball with
  | some i, some f, some n =>
    match s.line i with
    | some l =>
      match l.frameAt f with
      | some fr => fr.marks[n - 1]?
      | none => none
    | none => none
  | _, _, _ => none

/-- The mark symbol of a kept record, for the reads that return it (R46, R172, R196). -/
def State.symbolOf (s : State) (b : BallRecord) : Option MarkSymbol := (s.markOfBall b).map (·.symbol)

/-- A record held by the PDU, entered on its line, noticed and shown. -/
def State.publish (s : State) (l : Lane) (b : BallRecord) (kind : BallRecord → Option Mark → Notice) : State :=
  let s := (s.modPdu l fun p => { p with record := some b }).placeBall b
  (s.broadcast (kind b (s.markOfBall b))).showBall l (some b)

/-- The mark X or / (R167). -/
def shines (m : Option Mark) : Bool :=
  match m with
  | some m => m.symbol = .strike || m.symbol = .spare
  | none => false

/-- A FINAL strike or spare on a line of the shown group sets the one-shot highlight to its position (R167). -/
def State.highlightBall (s : State) (l : Lane) (b : BallRecord) : State :=
  if shines (s.markOfBall b) then
    match s.lineForBall b, s.shownLower l with
    | some i, some g =>
      match positionIn (s.groups.get g).order i with
      | some p => s.setOneShot l p
      | none => s
    | _, _ => s
  else s

/-- A record published as FINAL. -/
def State.publishFinal (s : State) (l : Lane) (b : BallRecord) : State := (s.publish l b .ballFinal).highlightBall l b

/-! ### The recipe (R38, R52, R67) -/

/-- The recipe chosen from a FINAL record and its binding, with the deck it leaves: the table of R38. `d` is the pins-up deck,
`strike` whether ball 1 of the frame was a strike. -/
def chooseRecipe (b : Binding) (r : BallRecord) (d : Deck) (strike : Bool) : RecipeKind × Deck :=
  let allDown : Bool := r.count = d.count && !r.foul
  let left : Deck := match r.standing with
    | some st => .known st
    | none => .unknown (d.count - r.count)
  let pick : Bool :=
    match b.frame, b.ball with
    | some f, some n =>
      if n = 1 then !(allDown || r.foul)
      else if f = 10 && n = 2 then strike && !(allDown || r.foul)
      else false
    | _, _ => !(allDown || r.foul)
  if pick then (.pick, left) else (.full, fullDeck)

/-- Whether ball 1 of the bound frame was a strike, read from the bound line (R38). R38 does not say what holds when that line is
gone, or holds no ball of the frame any more: the model takes `not a strike`, so that the recipe is FULL, and a line that has
taken the id since is read as the bound line (log 55: the model's choice). -/
def State.boundStrike (s : State) (b : Binding) : Bool :=
  match b.line, b.frame with
  | some i, some f =>
    match s.line i with
    | some l =>
      match (l.ballsOf f)[0]? with
      | some b1 => isStrike b1
      | none => false
    | none => false
  | _, _ => false

/-- A recipe handed to the PSC: in IN_PLAY it is taken with origin PLAY (R52); in SERVICE with origin TEST, unless a step
executes or a recipe is in hand (R67). -/
def State.handRecipe (s : State) (l : Lane) (kind : RecipeKind) (target : Deck) : State :=
  let p := s.psc.get l
  match p.state with
  | .inPlay => s.cycle l { kind := kind, target := target, origin := .play }
  | .service =>
    if p.step.isSome || p.recipe.isSome then s.tell .service (.recipeIgnored (s.laneNumber l) kind)
    else s.takeRecipe l { kind := kind, target := target, origin := .test }
  | .off | .standby | .starting | .ready | .cycling | .heldPit | .checking | .fault => s

/-! ### FINAL -/

/-- A PDU in FINAL: no timer runs, and the foul window is closed (R25, R38). -/
def Pdu.finished (p : Pdu) : Pdu :=
  { p with
    run := .final, foulOpen := false, pinTimer := none, scanTimer := none, windowTimer := none, graceTimer := none
    cycleTimer := none }

/-- A record becomes FINAL, its recipe is chosen and handed over, and play advances (R38, R43, R97). After a test ball the PDU
returns to IDLE (R44). -/
def State.finalize (s : State) (l : Lane) (r : BallRecord) : State :=
  let p := s.pdu.get l
  match p.binding with
  | none => s
  | some b =>
    let s := ((s.dropRunNeed l).modPdu l Pdu.finished).publishFinal l r
    let choice := chooseRecipe b r p.deck (s.boundStrike b)
    let s := s.handRecipe l choice.1 choice.2
    let s := if b.test then s.disarm l else s
    s.advanceFor r

/-- The cycle delay expires in SETTLED (R38). -/
def State.cycleExpires (s : State) (l : Lane) : State :=
  let p := s.pdu.get l
  match p.record with
  | some r => if p.cycleTimer.isSome && p.run = .settled then s.finalize l { r with state := .final } else s
  | none => s

/-! ### Settling (R31 to R34) -/

/-- The class of a pin in a result set. -/
def classAt (points : List PointClass) (p : Fin 10) : Option PinClass := ((points[p.val]?).getD none).map (·.1)

/-- The standing set a deciding set shows: the pins of the pins-up set whose class is not LOW (R33). -/
def standingIn (up : Pins) (points : List PointClass) : Pins :=
  pinsWhere fun p => hasPin up p && classAt points p ≠ some .low

/-- A set in which every pin of the pins-up set is HIGH or LOW (R31). -/
def decided (up : Pins) (points : List PointClass) : Bool :=
  pinList.all fun p => !hasPin up p || classAt points p = some .high || classAt points p = some .low

/-- The split flag of a record with a standing set (R37). -/
def splitFlag (b : Binding) (foul : Bool) (standing : Pins) : Bool := !foul && splitEligible b && splitSet standing

/-- The provisional record of a binding and a deciding set (R33): `armed` is the pins-up set at arming (R45), `up` the one now. -/
def provisionalRecord (l : Lane) (b : Binding) (armed : Option Pins) (up : Pins) (foul : Bool) (points : List PointClass) : BallRecord :=
  let st := standingIn up points
  { lane := l, line := b.line, game := b.game, frame := b.frame, ball := b.ball, pinsUp := armed, standing := some st
    count := if foul then 0 else pinCount up - pinCount st, foul := foul, split := splitFlag b foul st
    source := if b.test then .test else .sensed, state := .provisional }

/-- The PDU enters SETTLED with its deciding set (R33); a cycle delay of 0 makes the record FINAL at once (R38). -/
def State.settle (s : State) (l : Lane) : State :=
  let p := s.pdu.get l
  match p.binding, p.lastSet with
  | some b, some points =>
    let r := provisionalRecord l b p.upAtArming p.deck.pins p.foulFlag points
    let s := (s.modPdu l fun p => { p with
      run := .settled, windowTimer := none, cycleTimer := some s.settings.cycleDelay }).publish l r .ballProvisional
    if s.settings.cycleDelay = 0 then s.cycleExpires l else s
  | _, _ => s

/-- The settle counter after a scan (R31). -/
def settleNext (count : Nat) (up : Pins) (r : ResultSet) : Nat := if !r.crossed && decided up r.points then count + 1 else 0

/-- A result set taken as one scan of SETTLING (R31). -/
def State.settleScan (s : State) (l : Lane) (r : ResultSet) : State :=
  let p := s.pdu.get l
  let n := settleNext p.settleCount p.deck.pins r
  let s := s.modPdu l fun p => { p with settleCount := n, lastSet := some r.points }
  if p.settleTarget ≤ n then s.settle l else s

/-- The record after the late falls of a result set (R34). -/
def lateFalls (b : Binding) (r : BallRecord) (points : List PointClass) : BallRecord :=
  let before := r.standing.getD 0#10
  let st := standingIn before points
  { r with
    standing := some st
    count := if r.foul then 0 else r.count + (pinCount before - pinCount st)
    split := splitFlag b r.foul st }

/-- A result set in SETTLED (R34). -/
def State.lateScan (s : State) (l : Lane) (r : ResultSet) : State :=
  let p := s.pdu.get l
  match p.binding, p.record with
  | some b, some old =>
    let new := lateFalls b old r.points
    if new.standing = old.standing then s else s.publish l new .ballRevised
  | _, _ => s

/-- A result set reaches the PDU (R29, R31, R34). -/
def State.pduTakes (s : State) (l : Lane) (r : ResultSet) : State :=
  let p := s.pdu.get l
  match p.run with
  | .delay =>
    if p.elapsed then
      (s.modPdu l fun p => { p with run := .settling, windowTimer := some s.settings.settleWindow }).settleScan l r
    else s
  | .settling => s.settleScan l r
  | .settled => s.lateScan l r
  | .idle | .armed | .awaitingEntry | .final => s

/-- The settle window expires (R32). -/
def State.windowExpires (s : State) (l : Lane) : State :=
  let p := s.pdu.get l
  if p.windowTimer.isSome && p.run = .settling then s.settle l else s

/-! ### The run (R28 to R30, R35) -/

/-- SENSING_STALLED, once for a ball that waits in DELAY on a faulted lane; not for a test run (R30, R44). -/
def State.stallCheck (s : State) (l : Lane) : State :=
  let p := s.pdu.get l
  if p.run = .delay && p.elapsed && (s.sensing.get l).fault && !p.stalled && !p.testing then
    (s.modPdu l fun p => { p with stalled := true }).broadcast
      (.sensingStalled (s.laneNumber l) (p.binding.bind (·.line)))
  else s

/-- The start of a run clears every slot's previous side and wobbling mark (R14). -/
def SlotObservation.startRun (o : SlotObservation) : SlotObservation := { o with side := none, wobbling := false }

def State.startRun (s : State) (l : Lane) : State :=
  s.modSensing l fun x => { x with slots := x.slots.map fun k => { k with obs := k.obs.startRun } }

/-- A need raised by the PDU (R8, R29). -/
def State.raiseRunNeed (s : State) (l : Lane) : State := s.modSensing l fun x => { x with needs := { x.needs with run := true } }

/-- The pin action delay has expired: the first run need (R29). -/
def State.delayOver (s : State) (l : Lane) : State :=
  let s := s.modPdu l fun p => { p with
    pinTimer := none, elapsed := true, scanTimer := some s.settings.scanInterval, settleTarget := s.settings.settleCount }
  ((s.startRun l).raiseRunNeed l).stallCheck l

def State.delayExpires (s : State) (l : Lane) : State :=
  let p := s.pdu.get l
  if p.pinTimer.isSome && p.run = .delay then s.delayOver l else s

/-- The PDU enters DELAY: the pin action delay starts, and one of 0 expires at once (R28, R44). -/
def State.enterDelay (s : State) (l : Lane) : State :=
  let s := s.modPdu l fun p => { p with
    run := .delay, pinTimer := some s.settings.pinActionDelay, lastSet := none }
  if s.settings.pinActionDelay = 0 then s.delayOver l else s

/-- The foul grace starts; one of 0 closes the window at the arrival (R28, R35). -/
def Pdu.startGrace (p : Pdu) (grace : Nat) : Pdu :=
  if grace = 0 then { p with foulOpen := false, graceTimer := none } else { p with graceTimer := some grace }

/-- An arrival (R28, R40). -/
def State.arrive (s : State) (l : Lane) : State :=
  let p := s.pdu.get l
  if p.run = .armed then
    match p.source, p.deck with
    | .auto, .known _ =>
      ((s.setMachine l .inPlay).modPdu l fun p => p.startGrace s.settings.foulGrace).enterDelay l
    | _, _ => (s.setMachine l .inPlay).modPdu l fun p => { p with run := .awaitingEntry, foulOpen := false }
  else s.broadcast (.deadBall (s.laneNumber l) p.run (p.binding.bind (·.line)))

/-- The scan timer expires (R29). -/
def State.scanExpires (s : State) (l : Lane) : State :=
  let p := s.pdu.get l
  let scans : Bool := (p.run = .delay && p.elapsed) || p.run = .settling || p.run = .settled
  if p.scanTimer.isSome && scans then
    (s.modPdu l fun p => { p with scanTimer := some s.settings.scanInterval }).raiseRunNeed l
  else s

/-- The foul grace expires (R35). -/
def State.graceExpires (s : State) (l : Lane) : State :=
  let p := s.pdu.get l
  if p.graceTimer.isSome then s.modPdu l fun p => { p with graceTimer := none, foulOpen := false } else s

/-- A break of the foul beam (R35). -/
def State.foulBroken (s : State) (l : Lane) : State :=
  let p := s.pdu.get l
  if p.foulOpen && !p.foulFlag then
    let s := s.modPdu l fun p => { p with foulFlag := true }
    match p.run, p.record with
    | .settled, some r => s.publish l { r with foul := true, count := 0, split := false } .ballRevised
    | _, _ => s
  else s

/-! ### Run drops (R41) -/

/-- The run of a PDU that is not IDLE is dropped, and its run need with it. -/
def State.dropRun (s : State) (l : Lane) : State :=
  if (s.pdu.get l).run = .idle then s else (s.dropRunNeed l).modPdu l Pdu.dropped

/-- A service stop: a provisional record is discarded, and removed from its line (R41). -/
def State.stopRun (s : State) (l : Lane) : State :=
  let p := s.pdu.get l
  match p.run, p.record with
  | .settled, some r =>
    if p.testing then s.dropRun l
    else
      let s := (s.removeBall r).broadcast (.ballDiscarded r.line r.frame r.ball)
      (s.showBall l none).dropRun l
  | _, _ => s.dropRun l

/-- A session close now: a provisional record is made FINAL, placed and advanced, with no recipe (R41, R158). -/
def State.closeRun (s : State) (l : Lane) : State :=
  let p := s.pdu.get l
  match p.run, p.record with
  | .settled, some r =>
    let r : BallRecord := { r with state := .final }
    ((s.publishFinal l r).dropRun l).advanceFor r
  | _, _ => s.dropRun l

/-! ### Requests (R42 to R44) -/

/-- MANUAL set on a lane (R42). -/
def State.setManual (s : State) (l : Lane) : State :=
  let p := s.pdu.get l
  let s := s.modPdu l fun p => { p with source := .manual }
  match p.run with
  | .idle | .awaitingEntry | .final => s
  | .armed => s.modPdu l fun p => { p with foulOpen := false }
  | .delay | .settling =>
    (s.dropRunNeed l).modPdu l fun p => { p with
      run := .awaitingEntry, foulOpen := false, lastSet := none, pinTimer := none, scanTimer := none, windowTimer := none
      graceTimer := none, cycleTimer := none }
  | .settled => (s.dropRunNeed l).modPdu l fun p => { p with scanTimer := none }

/-- set-scoring-source (R42). -/
def handleSetScoringSource (lane source : Nat) (s : State) : State × Answer :=
  match laneOf lane, sourceOf source with
  | some l, some src =>
    let p := s.pdu.get l
    let said (t : State) := t.broadcast (.scoringSource (s.laneNumber l) src)
    if p.source = src then accept s
    else
      match src with
      | .manual => accept (said (s.setManual l))
      | .auto =>
        if (p.run = .idle || p.run = .armed) && !(s.sensing.get l).fault && p.deck.set?.isSome then
          accept (said (s.modPdu l fun p => { p with source := .auto }))
        else refuse .state s
  | _, _ => refuse .range s

/-- The record of a ball entered by request (R43), with the pins-up set at arming (R45); on a test binding its source is TEST
(log 32). -/
def manualRecord (l : Lane) (b : Binding) (armed : Option Pins) (flag : Bool) (count : Nat) (foul : Bool) : BallRecord :=
  let foul := foul || flag
  { lane := l, line := b.line, game := b.game, frame := b.frame, ball := b.ball, pinsUp := armed, standing := none
    count := if foul then 0 else count, foul := foul, split := false, source := if b.test then .test else .manual
    state := .final }

/-- manual-ball (R43). -/
def handleManualBall (lane count : Nat) (foul : Bool) (s : State) : State × Answer :=
  match laneOf lane with
  | none => refuse .range s
  | some l =>
    let p := s.pdu.get l
    match p.run, p.binding with
    | .awaitingEntry, some b =>
      if p.deck.count < count then refuse .range s
      else accept (s.finalize l (manualRecord l b p.upAtArming p.foulFlag count foul))
    | _, _ => refuse .state s

/-- arm-test (R44). It is no arming for the feed, whose last ball stays and whose halves are not marked (R164, R169: log 48);
for the pins up of R45 it is one (log 25). -/
def handleArmTest (lane pins : Nat) (s : State) : State × Answer :=
  match laneOf lane, pinsOf pins with
  | some l, some set =>
    if set = 0#10 then refuse .range s
    else if (s.psc.get l).state = .service && (s.sensing.get l).runMode = .normal && (s.pdu.get l).run = .idle then
      let b : Binding :=
        { line := none, game := none, frame := none, ball := none, fullRack := set = allPins, test := true }
      accept ((s.modPdu l fun p => { p with
        deck := .known set, upAtArming := some set, binding := some b, foulFlag := false, foulOpen := false, elapsed := false
        settleCount := 0, stalled := false }).enterDelay l)
    else refuse .state s
  | _, _ => refuse .range s

end Sys2Proof.Machine
end

