-- ==== Sys2Proof/Machine/Sensing.lean ====
section
/-! DEFINITION. The Deck Sensing Unit (01_deck_sensing.md): the camera head, scan requests and readouts, classification and
wobble, the deck check, faults, continuous scanning and injection. -/
namespace Sys2Proof.Machine

/-! ### The head (R1 to R3) -/

/-- A change of head state sends HEAD_STATE (R1). -/
def State.setHead (s : State) (st : HeadState) : State :=
  let t := s.modHead fun h => { h with state := st, warmTimer := if st = .warming then h.warmTimer else none }
  if s.head.state = st then t else t.broadcast (.headState st)

/-- Entry to WARMING: the warm-up timer starts; a warm-up time of 0 expires at once (R1). -/
def State.warmHead (s : State) : State :=
  let s := (s.setHead .warming).modHead fun h => { h with warmTimer := some s.settings.warmUp }
  if s.settings.warmUp = 0 then s.setHead .active else s

/-- The head wakes from STANDBY while a waking condition holds (R1). -/
def State.headWake (s : State) : State := if s.head.state = .standby && s.headWakes then s.warmHead else s

/-- The head enters STANDBY from ACTIVE once the standby condition holds (R3); also in the event that makes it ACTIVE (log 37). -/
def State.headStandby (s : State) : State := if s.head.state = .active && s.headIdles then s.setHead .standby else s

/-- The warm-up timer expires (R1). -/
def State.warmExpires (s : State) : State :=
  if s.head.state = .warming && s.head.warmTimer.isSome then s.setHead .active else s

/-! ### Classification and wobble (R12, R13) -/

def classify (c : SlotConfig) (result : Int) : PinClass :=
  if c.high ≤ result then .high else if result ≤ c.low then .low else .mid

/-- The centre of a slot: the floor of half the sum of its limits (R13). -/
def centre (c : SlotConfig) : Int := (c.high + c.low) / 2

/-- The side of a result; at the centre, the previous side (R13). -/
def sideOf (c : SlotConfig) (before : Option Side) (result : Int) : Option Side :=
  if centre c < result then some .above else if result < centre c then some .below else before

/-- The reading crosses: it has a side, opposite to the previous one, and wobble detection is on (R13). -/
def crosses (c : SlotConfig) (before after : Option Side) : Bool :=
  c.wobble && before.isSome && after.isSome && before ≠ after

/-- A slot after a reading, and whether it crossed; `inRun` says that the reading serves a run (R12, R13). -/
def ScanSlot.read (k : ScanSlot) (inRun : Bool) (raw : Nat) : ScanSlot × Bool :=
  let result : Int := (raw : Int) - (k.cfg.baseline : Int)
  let o := { k.obs with raw := some raw, result := some result, cls := some (classify k.cfg result) }
  if inRun then
    let side := sideOf k.cfg k.obs.side result
    let crossed := crosses k.cfg k.obs.side side
    ({ k with obs := { o with
        side := side, wobbling := crossed, count := if crossed then satInc k.obs.count else k.obs.count } }, crossed)
  else ({ k with obs := o }, false)

/-- The readings of a lane applied to its slots from the first on. -/
def readSlots (inRun : Bool) : List ScanSlot → List Nat → List (ScanSlot × Bool)
  | k :: slots, raw :: raws => k.read inRun raw :: readSlots inRun slots raws
  | _, _ => []

/-- The points of a result set, in the order P1 to P10, DL, DR. -/
def allPoints : List Point := pinList.map .pin ++ [.dl, .dr]

/-- The class of a point: that of the last slot read that names it (R5). -/
def pointClass (read : List (ScanSlot × Bool)) (p : Point) : PointClass :=
  match (read.filter fun k => k.1.cfg.point = p).getLast? with
  | some k => k.1.obs.cls.map fun c => (c, k.1.obs.wobbling)
  | none => none

/-- The reading of a slot in a result set (R15). -/
def slotReading (n : Nat) (k : ScanSlot × Bool) : SlotReading :=
  { slot := n, point := k.1.cfg.point, raw := k.1.obs.raw.getD 0, result := k.1.obs.result.getD 0
    cls := k.1.obs.cls.getD .mid, crossed := k.2 }

/-- The result set of the slots read (R15). -/
def resultSet (l : Lane) (injected : Bool) (read : List (ScanSlot × Bool)) : ResultSet :=
  { lane := l, injected := injected, readings := read.mapIdx slotReading, points := allPoints.map (pointClass read)
    crossed := read.any (·.2) }

/-! ### Serving needs (R8, R15, R16) -/

/-- The outcome of a deck check (R16). -/
def checkSet (expected : Pins) (points : List PointClass) : CheckOutcome :=
  let pinOk (p : Fin 10) : Bool := classAt points p = some (if hasPin expected p then .high else .low)
  let clear (n : Nat) : Bool :=
    match (points[n]?).getD none with
    | some (c, _) => c = .low
    | none => true
  if pinList.all pinOk && clear 10 && clear 11 then .matched else .mismatch

/-- The needs of a lane that a readout of the head, or an injected set, may serve (R8, R10, R15). -/
def State.servable (s : State) (l : Lane) (injected checkPresent : Bool) : Needs :=
  let n := (s.sensing.get l).needs
  { run := n.run && (injected || (s.psc.get l).state ≠ .service)
    check := if injected || !checkPresent then none else n.check
    cont := n.cont && !injected }

/-- A result set formed from a lane's readings and passed to the needs it serves (R15). It covers the slots that the request
asked for, also when a set-slot on the other lane has changed this lane's effective prefix since (R6, R11: log 45). -/
def State.serve (s : State) (l : Lane) (n : Needs) (injected : Bool) (raws : List Nat) : State :=
  let x := s.sensing.get l
  let read := readSlots (n.run || n.cont) x.slots raws
  let r := resultSet l injected read
  let s := s.modSensing l fun x => { x with
    slots := read.map (·.1) ++ x.slots.drop read.length
    needs := { run := x.needs.run && !n.run, check := if n.check.isSome then none else x.needs.check
               cont := x.needs.cont && !n.cont } }
  let s := if n.run then s.pduTakes l r else s
  let s := match n.check with
    | some expected => s.checkAnswer l (checkSet expected r.points) r.points
    | none => s
  if n.cont then s.tell .service (.scanResult r) else s

/-- A lane's readings: they form a result set if the lane has a need they may serve, and are discarded otherwise (R10). -/
def State.deliver (s : State) (l : Lane) (injected checkPresent : Bool) (raws : List Nat) : State :=
  let n := s.servable l injected checkPresent
  if n.run || n.check.isSome || n.cont then s.serve l n injected raws else s

/-! ### Scan requests (R9, R10) -/

/-- 500 ms in units of 10 ms (R17). -/
def readoutLength : Nat := 50

/-- A lane in flight under the request with the next serial number. -/
def State.fly (s : State) (l : Lane) : State :=
  let n := s.effectiveLength l
  s.modSensing l fun x => { x with
    scan := some { serial := s.scanSerial, length := n, checkPresent := x.needs.check.isSome, discard := false
                   timer := some readoutLength } }

def State.nextSerial (s : State) : State := { s with scanSerial := s.scanSerial + 1 }

/-- A request of a lane in SPLIT mode (R9); an empty prefix is served at once by an empty set (R11). -/
def State.requestLane (s : State) (l : Lane) : State :=
  let x := s.sensing.get l
  if s.head.state = .active && s.headNeed l && !x.fault && x.scan.isNone then
    if s.effectiveLength l = 0 then s.deliver l false true [] else (s.fly l).nextSerial
  else s

/-- One request of both lanes in PAIRED mode (R10, R11). -/
def State.requestPair (s : State) : State :=
  let a := s.sensing.left
  let b := s.sensing.right
  if s.head.state = .active && (s.headNeed .left || s.headNeed .right) && !a.fault && !b.fault && a.scan.isNone
      && b.scan.isNone then
    if s.effectiveLength .left = 0 then (s.deliver .left false true []).deliver .right false true []
    else ((s.fly .left).fly .right).nextSerial
  else s

def State.requestScans (s : State) : State :=
  match s.head.mode with
  | .split => (s.requestLane .left).requestLane .right
  | .paired => s.requestPair

/-- A waiting run need of a lane in SERVICE takes the set of the injection buffer (R21). -/
def State.serveInjection (s : State) (l : Lane) : State :=
  let x := s.sensing.get l
  match x.injection with
  | some raws =>
    if s.injects l && x.needs.run then
      (s.modSensing l fun x => { x with injection := none }).deliver l true false raws
    else s
  | none => s

/-- What falls due of the DSU in an event: the head wakes, injected sets are served, requests are issued. -/
def State.dsuPump (s : State) : State :=
  (((s.headWake).serveInjection .left).serveInjection .right).requestScans

/-! ### Readouts and faults (R11, R17) -/

/-- A scan of the lane under a request is in flight. -/
def State.covers (s : State) (request : Nat) (l : Lane) : Bool :=
  match (s.sensing.get l).scan with
  | some f => f.serial = request
  | none => false

/-- The number of readings a request asks of a lane: none of a lane it does not cover. -/
def State.asked (s : State) (request : Nat) (l : Lane) : Nat :=
  match (s.sensing.get l).scan with
  | some f => if f.serial = request then f.length else 0
  | none => 0

def State.endScan (s : State) (l : Lane) : State := s.modSensing l fun x => { x with scan := none }

/-- The sensing fault of a lane is set, with HEAD_FAULT when it was clear (R17). -/
def State.faultLane (s : State) (l : Lane) : State :=
  let t := s.modSensing l fun x => { x with scan := none, fault := true }
  if (s.sensing.get l).fault then t else t.broadcast (.headFault (s.laneNumber l))

/-- A check need of a faulted lane is answered NO_READING (R16). -/
def State.answerFaulted (s : State) (l : Lane) : State :=
  if (s.sensing.get l).needs.check.isSome then (s.withdrawCheck l).checkAnswer l .noReading [] else s

/-- A request fails on the lanes it covers (R17), and a ball that waits there stalls (R30). -/
def State.failRequest (s : State) (request : Nat) : State :=
  let left := s.covers request .left
  let right := s.covers request .right
  let s := if left then s.faultLane .left else s
  let s := if right then s.faultLane .right else s
  let s := if left then (s.answerFaulted .left).stallCheck .left else s
  if right then (s.answerFaulted .right).stallCheck .right else s

/-- The readings of a lane whose scan ends; after a set-slot they are discarded (R6, R11). -/
def State.land (s : State) (l : Lane) (scan : Option Scan) (raws : List Nat) : State :=
  match scan with
  | some f => if f.discard then s else s.deliver l false f.checkPresent raws
  | none => s

/-- The scan of a lane, if it is in flight under the request. -/
def State.scanUnder (s : State) (request : Nat) (l : Lane) : Option Scan :=
  if s.covers request l then (s.sensing.get l).scan else none

/-- A readout arrives (R11). -/
def State.readout (s : State) (request : Nat) (left right : List Nat) : State :=
  let a := s.scanUnder request .left
  let b := s.scanUnder request .right
  if a.isNone && b.isNone then s
  else if left.length = s.asked request .left && right.length = s.asked request .right then
    let s := if a.isSome then s.endScan .left else s
    let s := if b.isSome then s.endScan .right else s
    (s.land .left a left).land .right b right
  else s.failRequest request

/-- The readout timer of a lane's scan expires (R17). -/
def State.readoutExpires (s : State) (l : Lane) : State :=
  match (s.sensing.get l).scan with
  | some f => if f.timer.isSome then s.failRequest f.serial else s
  | none => s

/-- The continuous-scan timer expires: it restarts, and a continuous need is raised (R19). -/
def State.contExpires (s : State) (l : Lane) : State :=
  if (s.sensing.get l).contTimer.isSome then
    s.modSensing l fun x => { x with contTimer := some s.settings.scanInterval, needs := { x.needs with cont := true } }
  else s

/-- The DSU of a lane at pair clear; a scan in flight runs on (R24). -/
def SensingLane.clear (x : SensingLane) : SensingLane :=
  { x with
    slots := x.slots.map fun k => { k with obs := (ScanSlot.reset k.cfg.point).obs }
    runMode := .normal, contTimer := none, injection := none, needs := { run := false, check := none, cont := false } }

/-! ### Requests (R6, R7, R18 to R20) -/

/-- A lane whose session is CLOSED or whose machine is in SERVICE (R6, R7). -/
def State.laneIsFree (s : State) (l : Lane) : Bool := (s.sessions.get l).state = .closed || (s.psc.get l).state = .service

/-- Every lane whose session is not CLOSED covers the ten pins, in a scan mode and with scan lists (R6, R7). -/
def State.coverageOk (s : State) (mode : ScanMode) (sensing : PerLane SensingLane) : Bool :=
  (s.sessions.left.state = .closed || coversTenIn mode sensing .left)
    && (s.sessions.right.state = .closed || coversTenIn mode sensing .right)

/-- The injection buffer of a lane is emptied when its set has not the length of the effective prefix (R7, R21). -/
def State.trimInjection (s : State) (l : Lane) : State :=
  let n := s.effectiveLength l
  s.modSensing l fun x => { x with
    injection := match x.injection with
      | some raws => if raws.length = n then some raws else none
      | none => none }

/-- The scan list of a lane with one slot's configuration replaced and its observation cleared (R6). -/
def SensingLane.setSlot (x : SensingLane) (n : Nat) (c : SlotConfig) : SensingLane :=
  { x with slots := x.slots.set n { cfg := c, obs := (ScanSlot.reset c.point).obs } }

def limitOk (i : Int) : Bool := -1023 ≤ i && i ≤ 1023

/-- set-slot (R6). -/
def handleSetSlot (slot lane point : Nat) (enabled : Bool) (baseline : Nat) (high low : Int) (wobble : Bool) (s : State) :
    State × Answer :=
  match laneOf lane, pointOf point with
  | some l, some p =>
    let c : SlotConfig :=
      { point := p, enabled := enabled, baseline := baseline, high := high, low := low, wobble := wobble }
    let after := s.sensing.set l ((s.sensing.get l).setSlot slot c)
    if !(baseline ≤ 1023 && limitOk high && limitOk low && slot ≤ 11) then refuse .range s
    else if high ≤ low then refuse .range s
    else if !s.laneIsFree l then refuse .state s
    else if !s.coverageOk s.head.mode after then refuse .config s
    else
      let t := { s with sensing := after }
      let t := t.modSensing l fun x => { x with
        injection := none, scan := x.scan.map fun f => { f with discard := true } }
      accept (t.trimInjection (otherLane l))
  | _, _ => refuse .range s

/-- set-scan-mode (R7; log 34 for the order of its checks). -/
def handleSetScanMode (mode : Nat) (s : State) : State × Answer :=
  match scanModeOf mode with
  | none => refuse .range s
  | some m =>
    if !(s.laneIsFree .left && s.laneIsFree .right) then refuse .state s
    else if !s.coverageOk m s.sensing then refuse .config s
    else if s.head.mode = m then accept s
    else accept (((s.modHead fun h => { h with mode := m }).trimInjection .left).trimInjection .right)

/-- set-run-mode (R19). -/
def handleSetRunMode (lane mode : Nat) (s : State) : State × Answer :=
  match laneOf lane, runModeOf mode with
  | some l, some m =>
    if (s.sensing.get l).runMode = m then accept s
    else
      match m with
      | .normal => accept (s.endContinuous l)
      | .continuous =>
        if (s.psc.get l).state = .service && (s.pdu.get l).run = .idle then
          accept ((s.startRun l).modSensing l fun x => { x with
            runMode := .continuous, contTimer := some s.settings.scanInterval, needs := { x.needs with cont := true } })
        else refuse .state s
  | _, _ => refuse .range s

/-- restart-head (R18). -/
def handleRestartHead (s : State) : State × Answer :=
  if s.head.state = .off then refuse .state s
  else
    let clear (x : SensingLane) : SensingLane := { x with scan := none, fault := false }
    accept (((s.modSensing .left clear).modSensing .right clear).warmHead)

/-- inject-readings (R20). -/
def handleInjectReadings (lane : Nat) (readings : List Nat) (s : State) : State × Answer :=
  match laneOf lane with
  | none => refuse .range s
  | some l =>
    if (s.psc.get l).state ≠ .service then refuse .state s
    else if (s.sensing.get l).runMode ≠ .normal then refuse .state s
    else if !readings.all fun r => r ≤ 1023 then refuse .range s
    else if readings.length ≠ s.effectiveLength l then refuse .range s
    else accept (s.modSensing l fun x => { x with injection := some readings })

end Sys2Proof.Machine
end

