-- ==== Sys2Proof/Machine/Moves.lean ====
section
/-! DEFINITION. The Group Transfer Unit (10_group_moves.md): the freeze and its entries, the staging of a load, its checks and
its commit, resume and release. -/
namespace Sys2Proof.Machine

/-! ### Entries (R174) -/

def entryBall (b : BallRecord) : EntryBall :=
  { count := b.count, foul := b.foul, split := b.split, source := b.source.code, pinsUp := b.pinsUp.map (·.toNat)
    standing := b.standing.map (·.toNat) }

/-- The frames entry of a line: its FINAL balls only (R174). DESIGN CHOICE (log 58): a frame record that is not missed and holds no
FINAL ball is left out. -/
def framesEntry (l : Line) : EntryContent :=
  let kept := l.frames.filter fun f => f.missed || f.balls.any isFinal
  .frames (kept.map fun f => { number := f.number, missed := f.missed, balls := (f.balls.filter isFinal).map entryBall })

def modeCode : HandicapMode → Nat × Option Nat
  | .computed => (0, none)
  | .fixed v => (1, some v)
  | .noHandicap => (2, none)

def lineEntry (l : Line) : EntryContent :=
  let m := modeCode l.mode
  .line l.name l.average m.1 m.2 l.status.code l.games

def headerEntry (r : Group) : EntryContent := .header r.name r.playMode.code r.game r.inProgress r.frame r.position

/-- The entry list of a group as it stands (R174). -/
def State.entriesOf (s : State) (g : Slot) : List EntryContent :=
  headerEntry (s.groups.get g) :: (s.linesOf g).flatMap fun l => [lineEntry l, framesEntry l]

/-! ### Saving a group (R175, R176) -/

def State.setOutbound (s : State) (g : Slot) (o : Option Outbound) : State := { s with outbound := s.outbound.set g o }

/-- The lane a group occupies allows a freeze (R175). -/
def State.mayFreeze (s : State) (g : Slot) : Bool :=
  match s.laneOfOccupant g with
  | none => true
  | some l =>
    let run := (s.pdu.get l).run
    let m := (s.psc.get l).state
    (run = .idle || run = .armed) && (m = .ready || m = .standby || m = .service)

/-- save-group (R175). -/
def handleSaveGroup (slot : Nat) (s : State) : State × Answer :=
  match slotOf slot with
  | none => refuse .range s
  | some g =>
    let r := s.groups.get g
    if !(r.state = .idle || r.state = .playing || r.state = .waiting) then refuse .state s
    else if !s.mayFreeze g then refuse .state s
    else
      let entries := s.entriesOf g
      let t := (s.modGroup g fun r => { r with state := .moving, frozenFrom := some r.state }).setOutbound g
        (some { entries := entries, sent := 0 })
      let t := r.order.foldl State.revokeClaim t
      ((t.announce s none).broadcast (.frozen g), .ok (be 1 entries.length))

/-- The entries of a save-part reply, with their positions and the mark of the last (R176, R196, log 8). -/
def partFields (entries : List EntryContent) (first : Nat) (last : Bool) : List Byte :=
  listed (be 1) (List.range' first entries.length) ++ listed EntryContent.encode entries ++ yesNo last

/-- The entries of a list past the `sent` first have gone out: a group in MOVING that has sent its last enters MOVED (R176). -/
def State.sendPart (s : State) (g : Slot) (o : Outbound) (sent : Nat) : State × Answer :=
  let part := (o.entries.drop sent).take 4
  let next := sent + part.length
  let last : Bool := o.entries.length ≤ next
  let t := s.setOutbound g (some { o with sent := next })
  let t :=
    if last && (s.groups.get g).state = .moving then
      ((t.modGroup g fun r => { r with state := .moved }).announce s none).broadcast (.sent g)
    else t
  (t, .ok (partFields part (sent + 1) last))

/-- save-part (R176). -/
def handleSavePart (slot : Nat) (restart : Bool) (s : State) : State × Answer :=
  match slotOf slot with
  | none => refuse .range s
  | some g =>
    match s.outbound.get g with
    | none => refuse .state s
    | some o =>
      if !(s.groups.get g).isFrozen then refuse .state s
      else if !restart && o.entries.length ≤ o.sent then refuse .state s
      else s.sendPart g o (if restart then 0 else o.sent)

/-! ### Staging a load (R177 to R179) -/

/-- 5 s in units of 10 ms (R177). -/
def gapLength : Nat := 500

/-- A staging load is abandoned (R179, R180). -/
def State.abandonLoad (s : State) (reason : AbandonReason) : State :=
  match s.staging with
  | none => s
  | some x => { s with staging := none, gapTimer := none }.broadcast (.abandoned x.slot x.id reason)

/-- The target of a load takes it (R177, R180). -/
def State.targetOk (s : State) (g : Slot) (l : Lane) : Bool :=
  !(s.groups.get g).present && !s.otherHomed g l && (s.sessions.get l).state = .opened

/-- load-begin (R177). -/
def handleLoadBegin (id slot lane count : Nat) (s : State) : State × Answer :=
  match slotOf slot, laneOf lane with
  | some g, some l =>
    if !(1 ≤ id && id ≤ 255 && 3 ≤ count && count ≤ 17) then refuse .range s
    else if s.staging.isSome then refuse .busy s
    else if !s.targetOk g l then refuse .state s
    else
      let x : Staging := { id := id, slot := g, lane := l, expected := count, entries := [] }
      accept ({ s with staging := some x, gapTimer := some gapLength }.broadcast (.staging g id))
  | _, _ => refuse .range s

def partSizeOk (entries : List EntryContent) : Bool := 1 ≤ entries.length && entries.length ≤ 4

/-- load-part (R178). -/
def handleLoadPart (id : Nat) (entries : List EntryContent) (s : State) : State × Answer :=
  if !partSizeOk entries then refuse .range s
  else
    match s.staging with
    | none => refuse .state s
    | some x =>
      if id ≠ x.id then refuse .seq s
      else if x.expected < x.entries.length + entries.length then refuse .range (s.abandonLoad .range)
      else
        let all := x.entries ++ entries
        ({ s with staging := some { x with entries := all }, gapTimer := some gapLength }, .ok (be 1 all.length))

/-- The gap timer expires (R179). -/
def State.gapExpires (s : State) : State := if s.gapTimer.isSome then s.abandonLoad .gap else s

/-! ### Load-end (R180) -/

/-- Entry `n`, counted from 0, has the kind its place asks for. -/
def kindAt (n : Nat) (e : EntryContent) : Bool := e.kind = (if n = 0 then 1 else if n % 2 = 1 then 2 else 3)

/-- ORDER (R180). -/
def orderOk (entries : List EntryContent) : Bool :=
  entries.length % 2 = 1 && (entries.mapIdx kindAt).all id

def gameNumberOk (g : Option Nat) : Bool :=
  match g with
  | some n => 1 ≤ n && n ≤ 255
  | none => true

def gameEntryOk (e : GameEntry) : Bool := 1 ≤ e.game && e.game ≤ 255 && e.scratch ≤ 300 && e.handicap ≤ 255

/-- A standing set: any set of the ten pins, or absent. A pattern with a bit above pin 10 is out of range (log 38). -/
def standingOk (n : Option Nat) : Bool :=
  match n with
  | some n => (pinsOf n).isSome
  | none => true

/-- A pins-up set: 1 to 10 pins (02_pinfall_decisions.md), or absent. -/
def pinsUpOk (n : Option Nat) : Bool := standingOk n && n ≠ some 0

def ballOk (b : EntryBall) : Bool :=
  b.count ≤ 10 && (lineSourceOf b.source).isSome && pinsUpOk b.pinsUp && standingOk b.standing

/-- VALUES, for a frame of a frames entry: its number and its balls. How many balls it holds, and how many frames the entry holds,
is left to LAWS (log 53). -/
def entryFrameOk (f : EntryFrame) : Bool := 1 ≤ f.number && f.number ≤ 10 && f.balls.all ballOk

def positionOk (p : Option Nat) : Bool :=
  match p with
  | some n => 1 ≤ n && n ≤ 8
  | none => true

/-- VALUES, for one entry (R180). An entry whose bytes do not read as its kind fails here (log 53). -/
def valuesOk : EntryContent → Bool
  | .header name mode game _ frame position =>
    nameOk name && (playModeOf mode).isSome && gameNumberOk game && 1 ≤ frame && frame ≤ 10 && positionOk position
  | .line name average mode fixed status games =>
    nameOk name && averageOk average && (handicapOf mode fixed).isSome && (statusOf status).isSome && games.length ≤ 8
      && games.all gameEntryOk
  | .frames records => records.all entryFrameOk
  | .malformed _ _ => false

/-- A ball of a committed transfer: FINAL, with the source carried (R181). The entry carries no lane: its lane is a free
value (log 11). Its game number is the header's; R180 lets a header without a game in progress carry none, and the ball then has
none, though R45 has it absent for a test ball alone (log 59: the model's choice). -/
def committedBall (home : Lane) (i : LineId) (game : Option Nat) (frame ball : Nat) (b : EntryBall) : BallRecord :=
  { lane := Config.committedBallLane home frame ball, line := some i, game := game, frame := some frame, ball := some ball
    pinsUp := b.pinsUp.map (BitVec.ofNat 10), standing := b.standing.map (BitVec.ofNat 10), count := b.count, foul := b.foul
    split := b.split, source := (lineSourceOf b.source).getD .sensed, state := .final }

/-- The frame records of a frames entry (R181). -/
def committedFrames (home : Lane) (i : LineId) (game : Option Nat) (records : List EntryFrame) : List FrameRecord :=
  records.map fun f =>
    { number := f.number, missed := f.missed, balls := f.balls.mapIdx fun n b => committedBall home i game f.number (n + 1) b
      score := none, running := none, state := none, marks := [] }

/-- What a load's header says of its group. -/
structure LoadHeader where
  name       : Name
  playMode   : PlayMode
  game       : Option Nat
  inProgress : Bool
  frame      : Nat
deriving DecidableEq, Repr

def loadHeader : List EntryContent → Option LoadHeader
  | .header name mode game inProgress frame _ :: _ =>
    some { name := name, playMode := (playModeOf mode).getD .openPlay, game := game, inProgress := inProgress, frame := frame }
  | _ => none

/-- The lines of a load, in order position, for a group of slot `g` homed on `home`; each entry pair takes the next of `ids`. -/
def loadLines (g : Slot) (home : Lane) (game : Option Nat) : List LineId → List EntryContent → List (LineId × Line)
  | i :: ids, .line name average mode fixed status games :: .frames records :: rest =>
    (i, { group := g, name := name, average := average, mode := (handicapOf mode fixed).getD .noHandicap
          status := (statusOf status).getD .active, frames := committedFrames home i game records, games := games
          handicap := 0, scratch := none, gameTotal := none, version := 1, copies := ⟨.none, .none, .none⟩
          claimTimer := none }) :: loadLines g home game ids rest
  | _, _ => []

/-- The laws of a game in progress at frame `k` (R180). -/
def progressOk (k : Nat) (ls : List Line) : Bool :=
  ls.all (fun l => l.frames.length ≤ k)
    && ls.all (fun l => l.status = .withdrawn || (List.range (k - 1)).all fun n => l.completed (n + 1))
    && (ls.filter fun l => l.midFrame k).length ≤ 1
    && ls.any (fun l => l.dueFor k)

/-- LAWS (R180). -/
def lawsOk (h : LoadHeader) (ls : List Line) : Bool :=
  ls.all (fun l => framesLegal h.inProgress l.frames)
    && (!h.inProgress || (h.game.isSome && progressOk h.frame ls))

/-- The number of lines a load of `n` entries holds. -/
def linesIn (n : Nat) : Nat := (n - 1) / 2

/-- The first check of R180 that a staging fails, with its reply code. -/
def State.loadFails (s : State) (x : Staging) : Option (AbandonReason × Code) :=
  let es := x.entries
  if es.length ≠ x.expected then some (.count, .range)
  else if !orderOk es then some (.order, .seq)
  else if !es.all valuesOk then some (.values, .range)
  else
    match loadHeader es with
    | none => some (.order, .seq)
    | some h =>
      if !lawsOk h ((loadLines x.slot x.lane h.game lineIds (es.drop 1)).map (·.2)) then some (.laws, .shape)
      else if !s.targetOk x.slot x.lane then some (.target, .state)
      else if s.freeLines.length < linesIn es.length then some (.ids, .full)
      else none

/-! ### The commit (R181) -/

/-- A load is committed: the group and its lines come into being in one event (R181). -/
def State.commit (s : State) (x : Staging) (h : LoadHeader) : State × Answer :=
  let g := x.slot
  let new := loadLines g x.lane h.game s.freeLines (x.entries.drop 1)
  let ids := new.map (·.1)
  let mode : PlayMode := if h.playMode = .cross && s.crossAdmitted then .cross else .openPlay
  let t := { s with staging := none, gapTimer := none }
  let t := t.addLines (new.map fun e => (e.1, computeLine s.handicap e.2))
  let t := (t.modGroup g fun _ => { Group.empty with
    state := .idle, name := h.name, home := x.lane, playMode := mode, order := ids, game := h.game
    inProgress := h.inProgress, frame := h.frame }).refreshTotals g
  let t := if h.inProgress then t.askLane g ((t.groups.get g).laneOfFrame h.frame) else t
  let t := (t.announce s none).broadcast (.committed g x.id)
  (t, .ok (listed lineField ids ++ be 1 mode.code ++ be 1 (t.groups.get g).state.code))

/-- load-end (R180). A refusal by one of the six checks carries its reason byte (R196); a refusal before them (RANGE, STATE or SEQ),
for which R180 names no reason, carries its code alone, with neither a reason nor an absent byte (log 8: the model's choice). -/
def handleLoadEnd (id : Nat) (entries : List EntryContent) (s : State) : State × Answer :=
  if !partSizeOk entries then refuse .range s
  else
    match s.staging with
    | none => refuse .state s
    | some x =>
      if id ≠ x.id then refuse .seq s
      else
        let x := { x with entries := x.entries ++ entries }
        match s.loadFails x, loadHeader x.entries with
        | some (reason, code), _ => (s.abandonLoad reason, { code := code, fields := be 1 reason.endCode })
        | none, some h => s.commit x h
        | none, none => refuse .state s

/-! ### Resume and release (R182, R183) -/

/-- A frozen group is unfrozen into its frozen-from state (R182). -/
def State.unfreeze (s : State) (g : Slot) : State :=
  let t := (s.modGroup g fun r => { r with state := r.frozenFrom.getD .idle, frozenFrom := none }).setOutbound g none
  (t.announce s none).broadcast (.resumed g)

/-- resume-group (R182). -/
def handleResumeGroup (slot : Nat) (s : State) : State × Answer :=
  match slotOf slot with
  | none => refuse .range s
  | some g => if (s.groups.get g).isFrozen then accept (s.unfreeze g) else refuse .state s

/-- release-moved (R183). -/
def handleReleaseMoved (slot : Nat) (s : State) : State × Answer :=
  match slotOf slot with
  | none => refuse .range s
  | some g =>
    let r := s.groups.get g
    if r.state ≠ .moved then refuse .state s
    else
      let t := r.order.foldl (fun t i => t.removeLine r.home i) (s.releaseLanes g)
      let t := ((t.modGroup g fun _ => Group.empty).setOutbound g none).dropHighlights r.home
      accept ((t.announce s none).broadcast (.released g))

/-- A group in MOVING is unfrozen when the desk link is reset (R185). -/
def State.unfreezeMoving (s : State) (g : Slot) : State := if (s.groups.get g).state = .moving then s.unfreeze g else s

/-- What a reset of the desk link does to the GTU (R185). -/
def State.deskReset (s : State) : State := ((s.abandonLoad .reset).unfreezeMoving .g1).unfreezeMoving .g2

end Sys2Proof.Machine
end

