-- ==== Sys2Proof/Machine/Desk.lean ====
section
/-! DEFINITION. The desk's requests that reach several blocks at once: configuration (R192, R193), opening, unlocking and
closing a session (R146, R156 to R158), pair clear (R194); the service stop and the clear of a fault (R64, R68); highlights
(R167) and masks (R190). -/
namespace Sys2Proof.Machine

/-! ### Configuration (R192, R193) -/

/-- A setting with a plain range: the range, and the settings with the value in force (R192; the items are numbered in the
table's order, log 9). -/
structure PlainItem where
  low    : Nat
  high   : Nat
  after  : Settings
deriving DecidableEq, Repr

/-- The items of R192 but for the lane number (0) and the rack capacity (10), with the value given put in force. -/
def plainItem (t : Settings) (item value : Nat) (step : Option StepKind) : Option PlainItem :=
  match item with
  | 1 => some ⟨0, 500, { t with warmUp := value }⟩
  | 2 => some ⟨2, 20, { t with scanInterval := value }⟩
  | 3 => some ⟨0, 400, { t with pinActionDelay := value }⟩
  | 4 => some ⟨1, 8, { t with settleCount := value }⟩
  | 5 => some ⟨50, 600, { t with settleWindow := value }⟩
  | 6 => some ⟨0, 300, { t with foulGrace := value }⟩
  | 7 => some ⟨0, 300, { t with cycleDelay := value }⟩
  | 8 => some ⟨1, 10, { t with startTime := value }⟩
  | 9 =>
    match step with
    | some k => some ⟨1, 20, { t with stepTimeouts := setStepTime t.stepTimeouts k value }⟩
    | none => none
  | 11 => some ⟨2, 20, { t with carryTimeout := value }⟩
  | 12 => some ⟨30, 600, { t with claimExpiry := value }⟩
  | _ => none

/-- The lane number of LEFT (R192). -/
def setLaneNumber (value : Nat) (s : State) : State × Answer :=
  if !(1 ≤ value && value ≤ 97 && value % 2 = 1) then refuse .range s
  else if !(s.sessions.left.state = .closed && s.sessions.right.state = .closed) then refuse .state s
  else ({ s with settings := { s.settings with laneNumber := some value } }, .ok (be 1 value))

/-- The rack capacity (R192, R84). -/
def setRackCapacity (value : Nat) (s : State) : State × Answer :=
  if !(6 ≤ value && value ≤ 16) then refuse .range s
  else if value < s.ret.rack + s.ret.inLift then refuse .state s
  else
    let before := liftCondition s.ret s.settings.rackCapacity
    (({ s with settings := { s.settings with rackCapacity := value } }.rackMoved before), .ok (be 1 value))

/-- set-config (R192). -/
def handleSetConfig (item value : Nat) (step : Option Nat) (s : State) : State × Answer :=
  if item = 0 then setLaneNumber value s
  else if item = 10 then setRackCapacity value s
  else
    match plainItem s.settings item value (step.bind stepOf) with
    | none => refuse .range s
    | some x =>
      if x.low ≤ value && value ≤ x.high then ({ s with settings := x.after }, .ok (be (configWidth item) value))
      else refuse .range s

/-- config-done (R193). -/
def handleConfigDone (s : State) : State × Answer :=
  if s.settings.laneNumber.isNone then refuse .config s
  else if s.configured then accept s
  else
    let t := { s with configured := true }
    let t := if t.head.state = .off then t.setHead .standby else t
    accept (((t.setMachine .left .standby).setMachine .right .standby).bannersEval.headWake)

/-! ### Opening and unlocking (R146, R156) -/

/-- An allowance within the range its mode gives it (R146). PER_GAME has none: the body's two bytes may hold anything (log 8). -/
def allowanceOk (m : BillingMode) (leastGames n : Nat) : Bool :=
  match m with
  | .perGame => true
  | .timed => n ≤ 1440
  | .prepaidGames => leastGames ≤ n && n ≤ 999

/-- For TIMED the time of day is set (R146, R156). -/
def State.timeOk (s : State) (m : BillingMode) : Bool := m ≠ .timed || s.timeOfDay.isSome

/-- For PER_GAME and TIMED the rate table holds a band (R146, R156). -/
def State.ratesOk (s : State) (m : BillingMode) : Bool := m = .prepaidGames || !s.rates.isEmpty

/-- A session record with the allowance of an open (R146); the items the mode does not use keep their values (log 43). -/
def Session.allow (x : Session) (m : BillingMode) (n : Nat) : Session :=
  match m with
  | .perGame => x
  | .timed => { x with prepaidMinutes := n, minuteAllowance := 0 < n }
  | .prepaidGames => { x with prepaidGames := n, gamesGranted := n }

/-- The session record of an open session (R146). -/
def Session.open (x : Session) (m : BillingMode) (league autoNext foulDetect meterDisplay : Bool) (o : OverflowMode) (n : Nat)
    (time : Option Nat) : Session :=
  { x.allow m n with
    mode := m, league := league, autoNext := autoNext, foulDetect := foulDetect, meterDisplay := meterDisplay, overflow := o
    meter := .zero, openTime := time }

/-- open-session (R146). -/
def handleOpenSession (lane mode : Nat) (league autoNext foulDetect meterDisplay : Bool) (overflow allowance : Nat)
    (s : State) : State × Answer :=
  match laneOf lane, billingOf mode, overflowOf overflow with
  | some l, some m, some o =>
    if !allowanceOk m 0 allowance then refuse .range s
    else if !s.configured then refuse .config s
    else if (s.sessions.get l).state ≠ .closed then refuse .state s
    else if !s.coversTen l then refuse .config s
    else if !s.timeOk m then refuse .config s
    else if !s.ratesOk m then refuse .config s
    else
      let t := s.modSession l fun x => x.open m league autoNext foulDetect meterDisplay o allowance s.timeOfDay
      accept ((t.enterSession l .opening none).startMachine l)
  | _, _, _ => refuse .range s

/-- A session record with the allowance of an unlock (R156). -/
def Session.extend (x : Session) (m : BillingMode) (n : Nat) : Session :=
  match m with
  | .perGame => { x with mode := m, minuteAllowance := false }
  | .timed => { x with mode := m, prepaidMinutes := n, minuteAllowance := 0 < n }
  | .prepaidGames => { x with mode := m, prepaidGames := x.prepaidGames + n, gamesGranted := x.gamesGranted + n }

/-- The games added by an unlock fit (R156). -/
def Session.gamesFit (x : Session) (m : BillingMode) (n : Nat) : Bool :=
  m ≠ .prepaidGames || (x.prepaidGames + n ≤ 999 && x.gamesGranted + n ≤ 65535)

/-- unlock (R156). -/
def handleUnlock (lane mode allowance : Nat) (s : State) : State × Answer :=
  match laneOf lane, billingOf mode with
  | some l, some m =>
    let x := s.sessions.get l
    if !allowanceOk m 1 allowance then refuse .range s
    else if x.state ≠ .locked then refuse .state s
    else if m = .prepaidGames && x.mode ≠ .prepaidGames then refuse .state s
    else if !x.gamesFit m allowance then refuse .range s
    else if !s.ratesOk m then refuse .config s
    else if !s.timeOk m then refuse .config s
    else
      let t := (s.modSession l fun x => x.extend m allowance).enterSession l .opened none
      accept ((t.startMachine l).pauseEval l)
  | _, _ => refuse .range s

/-! ### Closing (R157, R158) -/

/-- The group homed on the other lane is in CROSS play with a game in progress (R157). -/
def State.crossBlocks (s : State) (l : Lane) : Bool :=
  match s.homeGroup (otherLane l) with
  | some g => (s.groups.get g).playMode = .cross && (s.groups.get g).inProgress
  | none => false

/-- AFTER_GAME (R157): the reply carries the state entered. -/
def closeAfterGame (l : Lane) (s : State) : State × Answer :=
  if s.crossBlocks l then refuse .state s
  else
    let t :=
      if !s.homeGameOn l then s.closeSession l
      else if (s.sessions.get l).state = .closing then s
      else s.enterSession l .closing none
    (t, .ok (be 1 (t.sessions.get l).state.code))

/-- NOW (R158), in the order of its steps; the reply carries the final meter. An OVERTIME session, or one PAUSED from it, whose
home game ends on the way goes straight to CLOSED and does not pass LOCKED (log 54). -/
def closeNow (l : Lane) (s : State) : State × Answer :=
  let t := (((s.closeRun l).gtCloseNow l).pscCloseNow l).closeSession l
  (t, .ok (finalMeter (t.sessions.get l).meter))

/-- close-session (R157, R158). -/
def handleCloseSession (lane manner : Nat) (s : State) : State × Answer :=
  match laneOf lane, mannerOf manner with
  | some l, some now =>
    if (s.sessions.get l).state = .closed then refuse .state s
    else if now then closeNow l s
    else closeAfterGame l s
  | _, _ => refuse .range s

/-! ### Pair clear (R194) -/

/-- The sessions at pair clear (R163). -/
def State.clearSession (s : State) (l : Lane) : State :=
  if (s.sessions.get l).state = .closed then s else s.closeSession l

/-- The Game Table and the Line Directory at pair clear (R108, R144), with every outbound save (R185). -/
def State.clearTables (s : State) : State :=
  { s with
    groups := ⟨.empty, .empty⟩, lines := Vector.replicate 16 none, lanes := ⟨⟨none, none⟩, ⟨none, none⟩⟩
    corrections := [], nextEntry := 1, outbound := ⟨none, none⟩, dirty := 0#16 }

/-- The feed of a lane at pair clear (R173). -/
def State.clearFeed (s : State) (l : Lane) : State := s.modFeed l fun f => f.clear s.configured (s.laneNumber l)

/-- pair-clear (R194): the reply carries the final meters. -/
def handlePairClear (s : State) : State × Answer :=
  let t := (s.dropRun .left).dropRun .right
  let t := (t.pscClear .left).pscClear .right
  let t := (t.clearTables.abandonLoad .clear)
  let t := (t.modSensing .left SensingLane.clear).modSensing .right SensingLane.clear
  let t := (t.clearSession .left).clearSession .right
  let t := (t.clearFeed .left).clearFeed .right
  (t, .ok (finalMeter t.sessions.left.meter ++ finalMeter t.sessions.right.meter))

/-! ### Service stop and clear-fault (R64, R68) -/

/-- The PDU's part of a service stop: its run is dropped, and its deck becomes UNKNOWN (R41, R64). -/
def State.stopDeck (s : State) (l : Lane) : State :=
  (s.stopRun l).modPdu l fun p => { p with deck := p.deck.forget }

/-- A service stop (R64). -/
def State.serviceStop (s : State) (l : Lane) : State :=
  let t := s.modPsc l fun p => { p.emptied with attempts := 0, closingOwed := false, windingDown := false, startTimer := none }
  (((t.setHold l false).withdrawCheck l).stopDeck l).setMachine l .service

/-- stop-machine (R64). -/
def handleStopMachine (lane : Nat) (s : State) : State × Answer :=
  match laneOf lane with
  | none => refuse .range s
  | some l =>
    match (s.psc.get l).state with
    | .off | .fault => refuse .state s
    | .service => accept s
    | .standby | .starting | .ready | .inPlay | .cycling | .heldPit | .checking => accept (s.serviceStop l)

/-- clear-fault (R68). -/
def handleClearFault (lane : Nat) (s : State) : State × Answer :=
  match laneOf lane with
  | none => refuse .range s
  | some l =>
    if (s.psc.get l).state = .fault then accept ((s.stopDeck l).setMachine l .service) else refuse .state s

/-! ### Highlights and masks -/

/-- The set of the positions given (R167). -/
def positionSet (ps : List Nat) : Positions := ps.foldl (fun acc p => acc ||| (1#8 <<< (p - 1))) 0#8

/-- set-highlight (R167). -/
def handleSetHighlight (lane : Nat) (positions : List Nat) (s : State) : State × Answer :=
  match laneOf lane with
  | none => refuse .range s
  | some l =>
    if !positions.all fun p => 1 ≤ p && p ≤ 8 then refuse .range s
    else
      let t := s.modFeed l fun f => { f with highlights := positionSet positions }
      let shown := s.shownLower l
      accept (t.markFeed l true (shown.isSome && s.shownUpper l = shown))

/-- set-mask (R190). -/
def handleSetMask (k : Link) (mask : BitVec 10) (s : State) : State × Answer :=
  accept (s.modPort k fun p => { p with mask := mask })

end Sys2Proof.Machine
end

