-- ==== Sys2Proof/Machine/Reads.lean ====
section
/-! DEFINITION. The requests that read and change no state (R22, R46, R70, R85, R106, R123, R142, R160, R161, R172, R184,
R195): the fields of their replies, as R196, log 8 and log 60 lay them out. -/
namespace Sys2Proof.Machine

/-- The two lanes, LEFT first. -/
def bothLanes : List Lane := [.left, .right]

def bothSlots : List Slot := [.g1, .g2]

/-! ### Sensing (R22) -/

/-- The configuration of a slot and its observation (R22); a last result of -1 is 00 FF FF, an absent one FF FF FF (R196,
log 60). -/
def slotField (k : ScanSlot) : List Byte :=
  be 1 k.cfg.point.code ++ yesNo k.cfg.enabled ++ be 2 k.cfg.baseline ++ beInt 2 k.cfg.high ++ beInt 2 k.cfg.low
    ++ yesNo k.cfg.wobble ++ beOpt 2 k.obs.raw ++ beIntOpt 2 k.obs.result ++ beOpt 1 (k.obs.cls.map PinClass.code)
    ++ beOpt 1 (k.obs.side.map Side.code) ++ yesNo k.obs.wobbling ++ be 2 k.obs.count

def readSensing (l : Lane) (s : State) : List Byte :=
  let x := s.sensing.get l
  be 1 s.head.state.code ++ be 1 s.head.mode.code ++ be 2 s.settings.warmUp ++ be 1 s.settings.scanInterval
    ++ be 1 x.runMode.code ++ yesNo x.fault ++ be 1 (enabledRun x.slots).length ++ be 1 (s.effectiveLength l)
    ++ yesNo x.scan.isSome ++ yesNo x.injection.isSome ++ (x.slots.map slotField).flatten

/-! ### Pinfall (R46) -/

def bindingField (b : Option Binding) : List Byte :=
  match b with
  | some b =>
    beOpt 1 (b.line.map lineNo) ++ beOpt 2 b.game ++ beOpt 1 b.frame ++ beOpt 1 b.ball ++ yesNo b.fullRack ++ yesNo b.test
  | none => absentBytes 7

def readPinfall (l : Lane) (s : State) : List Byte :=
  let p := s.pdu.get l
  be 1 p.run.code ++ be 1 p.source.code ++ deckField p.deck ++ bindingField p.binding ++ yesNo p.elapsed ++ yesNo p.foulOpen
    ++ yesNo p.foulFlag ++ be 1 p.settleCount ++ yesNo p.stalled ++ ballOptField p.record (p.record.bind s.symbolOf)

/-! ### Machine (R70) -/

def recipeField (r : Option Recipe) : List Byte :=
  match r with
  | some r => be 1 r.kind.code ++ deckField r.target ++ be 1 r.origin.code
  | none => absentBytes 5

def readMachine (l : Lane) (s : State) : List Byte :=
  let p := s.psc.get l
  be 1 p.state.code ++ beOpt 1 (p.cause.map FaultCause.code) ++ recipeField p.recipe
    ++ beOpt 1 (p.step.map StepKind.code) ++ be 1 p.redo ++ listed (fun k => be 1 (StepKind.code k)) p.queue
    ++ beOpt 1 (p.remainder.map StepKind.code) ++ be 1 p.attempts ++ yesNo p.closingOwed ++ yesNo p.windingDown
    ++ yesNo p.pitHold ++ be 2 p.stray ++ deckField (s.pdu.get l).deck

/-! ### Return (R85) -/

def readReturn (s : State) : List Byte :=
  let r := s.ret
  be 1 r.state.code ++ beOpt 1 (r.cause.map ReturnCause.code) ++ be 1 (liftCondition r s.settings.rackCapacity).code
    ++ liftField r.lift ++ listed (be 2) r.pits.left ++ listed (be 2) r.pits.right ++ be 2 r.stampCounter ++ be 1 r.rack
    ++ be 1 s.settings.rackCapacity ++ be 1 s.settings.carryTimeout ++ yesNo r.carryTimer.isSome ++ yesNo r.holds.left
    ++ yesNo r.holds.right ++ be 2 r.rackGlitches ++ be 2 r.liftGlitches

/-! ### Play and scores (R106, R123) -/

def State.orderField (s : State) (i : LineId) : List Byte :=
  match s.line i with
  | some l => lineField i ++ text l.name ++ be 1 l.status.code
  | none => lineField i

def State.groupField (s : State) (g : Slot) : List Byte :=
  let r := s.groups.get g
  be 1 r.state.code ++ text r.name ++ be 1 (Lane.code r.home) ++ be 1 r.playMode.code ++ listed s.orderField r.order
    ++ beOpt 2 r.game ++ yesNo r.inProgress ++ be 1 r.frame ++ beOpt 1 r.position
    ++ beOpt 1 (r.frozenFrom.map GroupState.code)

def State.laneField (s : State) (l : Lane) : List Byte :=
  laneRecordField (s.lanes.get l) ++
    (match s.upBowler l with
     | some (i, frame, ball) => lineField i ++ be 1 frame ++ be 1 ball
     | none => absentBytes 3)

def readPlay (s : State) : List Byte := bothSlots.flatMap s.groupField ++ bothLanes.flatMap s.laneField

def scoreFrameField (f : FrameRecord) : List Byte :=
  yesNo f.missed ++ beOpt 1 f.score ++ beOpt 2 f.running ++ beOpt 1 (f.state.map FigureState.code) ++ listed markField f.marks

def State.scoreLineField (s : State) (i : LineId) : List Byte :=
  match s.line i with
  | some l =>
    lineField i ++ be 1 l.status.code ++ be 1 l.handicap ++ listed scoreFrameField l.frames ++ totalField l.scratch
      ++ totalField l.gameTotal
  | none => lineField i

/-- read-scores (R123): an EMPTY slot is refused STATE. -/
def readScores (slot : Nat) (s : State) : Answer :=
  match slotOf slot with
  | none => .refused .range
  | some g =>
    let r := s.groups.get g
    let p := s.handicap
    if r.present then
      .ok (be 2 p.basis ++ be 1 p.percent ++ be 1 p.cap ++ be 1 p.noAverage ++ beOpt 2 r.game ++ totalField r.runningTotal
        ++ totalField r.groupTotal ++ listed s.scoreLineField r.order)
    else .refused .state

/-! ### Corrections, rates and meters (R142, R160, R161) -/

def readCorrections (s : State) : List Byte :=
  listed entryField s.corrections ++ be 1 s.nextEntry ++ be 2 s.settings.claimExpiry

def readRates (s : State) : List Byte := listed Band.encode s.rates ++ beOpt 2 s.timeOfDay

/-- The allowances of a session as its billing mode uses them; those of minutes for PER_GAME, which uses neither (R160,
log 8). -/
def allowanceField (x : Session) : List Byte :=
  match x.mode with
  | .prepaidGames => be 2 x.prepaidGames ++ be 2 x.gamesGranted
  | .perGame | .timed => yesNo x.minuteAllowance ++ be 2 x.prepaidMinutes

/-- read-meter (R160). The paused-from state has its number among the seven session states, OPEN 2 and OVERTIME 5 (log 9). -/
def readMeter (l : Lane) (s : State) : List Byte :=
  let x := s.sessions.get l
  be 1 x.state.code ++ beOpt 1 (x.pausedFrom.map SessionState.code) ++ be 1 x.mode.code ++ allowanceField x ++ yesNo x.league
    ++ yesNo x.autoNext ++ yesNo x.foulDetect ++ yesNo x.meterDisplay ++ be 1 x.overflow.code ++ meterField x.meter
    ++ beOpt 2 x.openTime ++ beOpt 2 s.timeOfDay ++ bandField s.bandNow

/-! ### Feed, transfer, status and links (R172, R184, R195) -/

/-- read-feed (R172). The persistent highlight set is one byte, bit p - 1 for position p, and set-highlight carries it as a
counted list: the model's choice of layouts (log 8). -/
def readFeed (l : Lane) (s : State) : List Byte :=
  let f := s.feeds.get l
  be 1 f.pointer ++ be 1 f.pendingHalf.code ++ yesNo f.markLower ++ yesNo f.markUpper ++ be 1 f.banner.code
    ++ be 1 f.highlights.toNat ++ beOpt 1 f.oneShot ++ ballOptField f.lastBall (f.lastBall.bind s.symbolOf)
    ++ slotOptField (s.shownLower l) ++ slotOptField (s.shownUpper l)

/-- An outbound save: its entry count and the next entry to send, one past the last when none is left (R184). DESIGN CHOICE (log
8): with no save held both are left out after the presence byte. -/
def outboundField (o : Option Outbound) : List Byte :=
  match o with
  | some o => yesNo true ++ be 1 o.entries.length ++ be 1 (o.sent + 1)
  | none => yesNo false

/-- A staging that may be absent: an id of 1 to 255 that may be absent takes two bytes (R184, R196). -/
def stagingField (x : Option Staging) : List Byte :=
  match x with
  | some x => be 2 x.id ++ be 1 (Slot.code x.slot) ++ be 1 (Lane.code x.lane) ++ be 1 x.expected ++ be 1 x.entries.length
  | none => absentBytes 6

def readTransfer (s : State) : List Byte :=
  outboundField s.outbound.g1 ++ outboundField s.outbound.g2 ++ stagingField s.staging ++ yesNo s.gapTimer.isSome

def State.laneStatus (s : State) (l : Lane) : List Byte :=
  let m := s.psc.get l
  let p := s.pdu.get l
  be 1 m.state.code ++ beOpt 1 (m.cause.map FaultCause.code) ++ be 1 p.run.code ++ be 1 p.source.code
    ++ yesNo (s.sensing.get l).fault ++ be 1 (s.sessions.get l).state.code ++ be 1 (s.feeds.get l).banner.code

def readStatus (s : State) : List Byte :=
  be 1 s.configured.toNat ++ beOpt 1 (s.laneNumber .left) ++ beOpt 1 (s.laneNumber .right) ++ be 1 s.head.state.code
    ++ be 1 s.head.mode.code ++ bothLanes.flatMap s.laneStatus ++ be 1 s.ret.state.code
    ++ beOpt 1 (s.ret.cause.map ReturnCause.code) ++ be 1 (liftCondition s.ret s.settings.rackCapacity).code
    ++ bothSlots.flatMap fun g => be 1 (s.groups.get g).state.code

def portField (p : Port) : List Byte :=
  be 2 p.badFrames ++ be 1 p.queue.length ++ be 1 p.notices.length ++ maskBytes p.mask ++ yesNo p.lost ++ yesNo p.inBreak

def readLinks (s : State) : List Byte := portField s.ports.desk ++ portField s.ports.service ++ portField s.ports.console

/-- A read of one lane: a lane other than LEFT or RIGHT is refused RANGE. -/
def readLane (f : Lane → State → List Byte) (lane : Nat) (s : State) : Answer :=
  match laneOf lane with
  | some l => .ok (f l s)
  | none => .refused .range

end Sys2Proof.Machine
end

