-- ==== Sys2Proof/Machine/Requests.lean ====
section
/-! DEFINITION. The owning block of each request (R188, step 4): what serving it does to the state, and the reply it forms. -/
namespace Sys2Proof.Machine

/-- A request that reads and changes no state. -/
def reading (a : Answer) (s : State) : State × Answer := (s, a)

/-- A request handed to its owning block, from the link it arrived on (R188). A link-reset request is never queued, so this
is not where it acts (R191). -/
def handle (k : Link) (r : Request) (s : State) : State × Answer :=
  match r with
  | .setConfig item value step => handleSetConfig item value step s
  | .configDone => handleConfigDone s
  | .setHandicap basis percent cap noAverage => handleSetHandicap basis percent cap noAverage s
  | .setTime minute => handleSetTime minute s
  | .setRates bands => handleSetRates bands s
  | .pairClear => handlePairClear s
  | .openSession lane mode a b c d o n => handleOpenSession lane mode a b c d o n s
  | .setSessionFlags lane a b c d o => handleSetSessionFlags lane a b c d o s
  | .closeSession lane manner => handleCloseSession lane manner s
  | .unlock lane mode n => handleUnlock lane mode n s
  | .readMeter lane => reading (readLane readMeter lane s) s
  | .approve id => handleApprove id s
  | .deny id => handleDeny id s
  | .moveGroup slot lane => handleMoveGroup slot lane s
  | .dismissGroup slot => handleDismissGroup slot s
  | .saveGroup slot => handleSaveGroup slot s
  | .savePart slot restart => handleSavePart slot restart s
  | .loadBegin id slot lane count => handleLoadBegin id slot lane count s
  | .loadPart id entries => handleLoadPart id entries s
  | .loadEnd id entries => handleLoadEnd id entries s
  | .resumeGroup slot => handleResumeGroup slot s
  | .releaseMoved slot => handleReleaseMoved slot s
  | .createGroup slot name lane bowlers => handleCreateGroup slot name lane bowlers s
  | .addBowler slot bowler => handleAddBowler slot bowler s
  | .setPlayMode slot mode => handleSetPlayMode slot mode s
  | .newGame slot => handleNewGame slot s
  | .readLine line => handleReadLine k line s
  | .claimLine line => handleClaimLine k line s
  | .releaseLine line => handleReleaseLine k line s
  | .editLine line base changes => handleEditLine k line base changes s
  | .correctBall line game frame ball count foul base => handleCorrectBall k line game frame ball count foul base s
  | .manualBall lane count foul => handleManualBall lane count foul s
  | .reRack lane => handleReRack lane s
  | .setScoringSource lane source => handleSetScoringSource lane source s
  | .setHighlight lane positions => handleSetHighlight lane positions s
  | .setSlot slot lane point enabled baseline high low wobble =>
    handleSetSlot slot lane point enabled baseline high low wobble s
  | .setScanMode mode => handleSetScanMode mode s
  | .setRunMode lane mode => handleSetRunMode lane mode s
  | .restartHead => handleRestartHead s
  | .injectReadings lane readings => handleInjectReadings lane readings s
  | .armTest lane pins => handleArmTest lane pins s
  | .stopMachine lane => handleStopMachine lane s
  | .issueStep lane step => handleIssueStep lane step s
  | .clearFault lane => handleClearFault lane s
  | .resumeMachine lane choice => handleResumeMachine lane choice s
  | .clearReturn lift left right rack => handleClearReturn lift left right rack s
  | .readLinks => reading (.ok (readLinks s)) s
  | .readStatus => reading (.ok (readStatus s)) s
  | .readSensing lane => reading (readLane readSensing lane s) s
  | .readPinfall lane => reading (readLane readPinfall lane s) s
  | .readMachine lane => reading (readLane readMachine lane s) s
  | .readReturn => reading (.ok (readReturn s)) s
  | .readPlay => reading (.ok (readPlay s)) s
  | .readScores slot => reading (readScores slot s) s
  | .readCorrections => reading (.ok (readCorrections s)) s
  | .readRates => reading (.ok (readRates s)) s
  | .readFeed lane => reading (readLane readFeed lane s) s
  | .readTransfer => reading (.ok (readTransfer s)) s
  | .setMask mask => handleSetMask k mask s
  | .linkReset => accept s

end Sys2Proof.Machine
end

