-- ==== Sys2Proof/Machine/Ports.lean ====
section
/-! DEFINITION. The end of an event (log 7) and the link ports (11_links_messages_and_configuration.md): the taking and serving
of requests, transmission, and link reset. -/
namespace Sys2Proof.Machine

/-! ### The end of an event (log 7)

What an event makes due in other blocks follows in the same event. Each command ends with the part of this that it can make
due; `State.finish` is the whole of it. -/

/-- Versions advance and feed halves load. -/
def State.finishLines (s : State) : State := (s.flushLines none).feedLoads

/-- Everything that falls due in an event: scans and injected sets, sessions whose game is over, machines in standby, the
return, the arming of the PDUs, the head's standby, banners, versions and loads. The standby condition of a machine (R50) is so
judged at the event's end alone (log 52). -/
def State.finish (s : State) : State :=
  (s.dsuPump.sessionsFollow.machinesStandby.returnPump.pdusSync.headStandby.bannersEval).finishLines

/-- What the return can make due: a take, a released sweep, and the marks they leave. -/
def State.finishReturn (s : State) : State := s.returnPump.feedLoads

/-- What a served request makes due. -/
def finishRequest (r : Request) (s : State) : State :=
  match r with
  | .readMeter _ | .readLinks | .readStatus | .readSensing _ | .readPinfall _ | .readMachine _ | .readReturn | .readPlay
  | .readScores _ | .readCorrections | .readRates | .readFeed _ | .readTransfer | .setMask _ | .linkReset | .readLine _
  | .claimLine _ | .releaseLine _ | .loadBegin .. | .loadPart .. | .issueStep .. | .setSlot .. => s
  | .setConfig item _ _ => if item = 10 then s.finishReturn else s
  | .configDone | .setTime _ | .setRates _ | .setSessionFlags .. | .setHighlight .. | .deny _ | .savePart ..
  | .createGroup .. | .dismissGroup _ | .setPlayMode .. => s.feedLoads
  | .setHandicap .. | .approve _ | .correctBall .. => s.finishLines
  | .pairClear | .openSession .. | .closeSession .. | .unlock .. | .moveGroup .. | .saveGroup _ | .loadEnd ..
  | .resumeGroup _ | .releaseMoved _ | .addBowler .. | .newGame _ | .editLine .. | .manualBall .. | .reRack _
  | .setScoringSource .. | .setScanMode _ | .setRunMode .. | .restartHead | .injectReadings .. | .armTest ..
  | .stopMachine _ | .clearFault _ | .resumeMachine .. | .clearReturn .. => s.finish

/-! ### Transmission (R189) -/

def State.port (s : State) (k : Link) : Port := s.ports.get k

/-- A free transmitter takes the first frame of the reply line, or else the first notice; not in a break (R189, R191). -/
def Port.pump (p : Port) : Port :=
  if p.inBreak || p.tx ≠ .free then p
  else if !p.replies.isEmpty then { p with tx := .reply }
  else if !p.notices.isEmpty then { p with tx := .notice }
  else p

/-- The transmitters of the three links, at the end of every event. -/
def State.pump (s : State) : State :=
  { s with ports := ⟨s.ports.desk.pump, s.ports.service.pump, s.ports.console.pump⟩ }

/-! ### Serving (R188) -/

/-- The answer to a queued request, by the four steps of R188, with the effects of the request and what they make due. -/
def State.answer (s : State) (k : Link) (q : Queued) : State × Answer :=
  if q.kind < 1 || 60 < q.kind then refuse .unknown s
  else if !admits k q.kind then refuse .rights s
  else
    match q.request with
    | none => refuse .range s
    | some r =>
      let out := handle k r s
      (finishRequest r out.1, out.2)

/-- The reply of the request served at the front of the queue joins the reply line (R188). -/
def Port.reply (p : Port) (q : Queued) (a : Answer) : Port :=
  { p with frontServed := true, replies := p.replies ++ [{ role := .served, kind := q.kind, tag := q.tag, answer := a }] }

/-- The front request of a link's queue is served (R188). -/
def State.serveFront (s : State) (k : Link) : State :=
  match (s.port k).queue with
  | [] => s
  | q :: _ =>
    let out := s.answer k q
    out.1.modPort k fun p => p.reply q out.2

/-- A frame is dropped and counted (R187, R188). -/
def Port.countBad (p : Port) : Port := { p with badFrames := satInc p.badFrames }

/-- A request that meets a full queue: a BUSY reply, or, behind four of them, a dropped request (R188). -/
def Port.busy (p : Port) (q : Queued) : Port :=
  if (p.replies.filter fun r => r.role = .busy).length < 4 then
    { p with replies := p.replies ++ [{ role := .busy, kind := q.kind, tag := q.tag, answer := .refused .busy }] }
  else p.countBad

/-- A request at the end of the queue. -/
def Port.enqueue (p : Port) (q : Queued) : Port := { p with queue := p.queue ++ [q] }

/-! ### Link reset (R191) -/

/-- A port as a link reset leaves it; the bad-frame count and the break are kept (R191). -/
def Port.cleared (p : Port) : Port :=
  { p with queue := [], frontServed := false, replies := [], notices := [], mask := 1023#10, lost := false, tx := .free }

/-- The state tied to a link in other blocks at its reset (R143, R19, R185). -/
def State.linkTies (s : State) (k : Link) : State :=
  let t := s.forgetLink k
  match k with
  | .desk => t.deskReset.finish
  | .service => ((t.endContinuous .left).endContinuous .right).headStandby
  | .console => t

/-- A link reset (R191). -/
def State.resetLink (s : State) (k : Link) : State := (s.modPort k Port.cleared).linkTies k

/-- A link-reset request is acted on at once, and its reply OK joins the empty reply line (R191). -/
def State.resetByRequest (s : State) (k : Link) (q : Queued) : State :=
  (s.resetLink k).modPort k fun p =>
    { p with replies := p.replies ++ [{ role := .reset, kind := q.kind, tag := q.tag, answer := .ok [] }] }

/-! ### Taking a request (R188, R191) -/

/-- A request that has passed R187 is taken; nothing is received in a break (R187, R191). A link-reset request is known by its
type, whatever its body: it is never queued (R188, R191). -/
def State.takeRequest (s : State) (k : Link) (q : Queued) : State :=
  let p := s.port k
  if p.inBreak then s
  else if q.kind = Request.linkReset.kind then s.resetByRequest k q
  else if p.queue.length < 4 then
    let t := s.modPort k fun p => p.enqueue q
    if p.queue.isEmpty then t.serveFront k else t
  else s.modPort k fun p => p.busy q

/-- The request a well-formed request command carries, as the queue holds it. -/
def queuedOf (tag : Tag) (r : Request) : Queued := { kind := r.kind, tag := tag, request := some r }

/-- A request command: its frame has passed R187 (log 3). -/
def State.request (s : State) (k : Link) (tag : Tag) (r : Request) : State := (s.takeRequest k (queuedOf tag r)).pump

/-- A whole frame arrives (R187). -/
def State.receive (s : State) (k : Link) (lenHi lenLo kind tag : Byte) (body : List Byte) (check : Byte) : State :=
  if (s.port k).inBreak then s
  else if frameOk lenHi lenLo kind tag body check then
    s.takeRequest k { kind := kind.toNat, tag := tag.setWidth 4, request := decodeRequest kind.toNat body }
  else s.modPort k Port.countBad

/-- A gap of more than 100 ms in an incoming frame (R187). -/
def State.frameGap (s : State) (k : Link) : State :=
  if (s.port k).inBreak then s else s.modPort k Port.countBad

/-- The reply whose transmission completes leaves its line, and a served request leaves the queue with it (R188, R189). -/
def Port.replyGone (p : Port) (r : Reply) (rest : List Reply) : Port :=
  let p := { p with replies := rest, tx := .free, sent := r.frame }
  if r.role = .served then { p with queue := p.queue.drop 1, frontServed := false } else p

/-- A transmission completes (R189): the frame leaves its line or queue, and the next request is served (R188). -/
def State.transmitted (s : State) (k : Link) : State :=
  let p := s.port k
  match p.tx, p.replies, p.notices with
  | .reply, r :: rest, _ =>
    let t := s.modPort k fun p => p.replyGone r rest
    if r.role = .served then t.serveFront k else t
  | .notice, _, n :: rest => s.modPort k fun p => { p with notices := rest, tx := .free, sent := n.frame }
  | _, _, _ => s

/-- A break begins (R191). -/
def State.breakBegins (s : State) (k : Link) : State :=
  if (s.port k).inBreak then s else (s.modPort k fun p => { p with inBreak := true }).resetLink k

/-- A break ends (R191). -/
def State.breakEnds (s : State) (k : Link) : State := s.modPort k fun p => { p with inBreak := false }

/-! ### The events of the machine lines and the timers -/

/-- What an answer of a machine to its step makes due: all of it when the step failed, and nothing for a stray completion or a
REDO within its limit (R54 to R56). `before` is the state before the event. -/
def State.finishStep (s before : State) (l : Lane) : State :=
  if (before.psc.get l).step.isSome && (s.psc.get l).step.isNone then s.finish else s

/-- What DONE makes due: nothing for a stray completion (R56). -/
def State.finishDone (s before : State) (l : Lane) : State := if (before.psc.get l).step.isSome then s.finish else s

/-- What an arrival makes due: nothing for a dead ball (R40). -/
def State.finishArrival (s before : State) (l : Lane) : State := if (before.pdu.get l).run = .armed then s.finish else s

/-- What an event of the return makes due: all of it when the return enters FAULT, which pauses sessions (R75, R78, R148). -/
def State.finishPit (s before : State) : State :=
  if s.ret.state = .fault && before.ret.state ≠ .fault then s.finish else s.finishReturn

/-- The claim timer of a line id expires (R131); a number that is no line id has no timer. -/
def State.claimExpiry (s : State) (line : Nat) : State :=
  match lineOf line with
  | some i => s.claimExpires i
  | none => s

/-- The minute timer expires, if it runs (R152). -/
def State.minuteExpires (s : State) : State := if s.minuteTimer.isSome then s.tick else s

/-- A row pull of a lane's monitor (R168). -/
def State.pullRow (s : State) (l : Lane) : State := s.modFeed l Feed.pull

end Sys2Proof.Machine
end

