-- ==== Sys2Proof/Machine/DeskCommands.lean ====
section
/-! DEFINITION. The meanings of the commands of configuration, time, rates and sessions (R118, R146 to R163, R192 to R194). -/
namespace Sys2Proof.Machine

/-- SET_CONFIG (R192). -/
def execSetConfig (link : Link) (tag : Tag) (item value : Nat) (stepKind : Option Nat)
    (s : State) : Host.Outcome State Fault Refusal :=
  .next (s.request link tag (.setConfig item value stepKind))

/-- CONFIG_DONE (R193). -/
def execConfigDone (link : Link) (tag : Tag) (s : State) : Host.Outcome State Fault Refusal :=
  .next (s.request link tag .configDone)

/-- SET_HANDICAP (R118). -/
def execSetHandicap (link : Link) (tag : Tag) (basis percent cap noAverage : Nat)
    (s : State) : Host.Outcome State Fault Refusal :=
  .next (s.request link tag (.setHandicap basis percent cap noAverage))

/-- SET_TIME (R152). -/
def execSetTime (link : Link) (tag : Tag) (minute : Nat) (s : State) : Host.Outcome State Fault Refusal :=
  .next (s.request link tag (.setTime minute))

/-- SET_RATES (R161). -/
def execSetRates (link : Link) (tag : Tag) (bands : List Band) (s : State) : Host.Outcome State Fault Refusal :=
  .next (s.request link tag (.setRates bands))

/-- READ_RATES (R161). -/
def execReadRates (link : Link) (tag : Tag) (s : State) : Host.Outcome State Fault Refusal :=
  .next (s.request link tag .readRates)

/-- PAIR_CLEAR (R194). -/
def execPairClear (link : Link) (tag : Tag) (s : State) : Host.Outcome State Fault Refusal :=
  .next (s.request link tag .pairClear)

/-- OPEN_SESSION (R146). -/
def execOpenSession (link : Link) (tag : Tag) (lane mode : Nat) (league autoNext foulDetect meterDisplay : Bool)
    (overflow allowance : Nat) (s : State) : Host.Outcome State Fault Refusal :=
  .next (s.request link tag (.openSession lane mode league autoNext foulDetect meterDisplay overflow allowance))

/-- SET_SESSION_FLAGS (R149). -/
def execSetSessionFlags (link : Link) (tag : Tag) (lane : Nat) (league autoNext foulDetect meterDisplay : Bool)
    (overflow : Nat) (s : State) : Host.Outcome State Fault Refusal :=
  .next (s.request link tag (.setSessionFlags lane league autoNext foulDetect meterDisplay overflow))

/-- CLOSE_SESSION (R157). -/
def execCloseSession (link : Link) (tag : Tag) (lane manner : Nat) (s : State) : Host.Outcome State Fault Refusal :=
  .next (s.request link tag (.closeSession lane manner))

/-- UNLOCK (R156). -/
def execUnlock (link : Link) (tag : Tag) (lane mode allowance : Nat) (s : State) : Host.Outcome State Fault Refusal :=
  .next (s.request link tag (.unlock lane mode allowance))

/-- READ_METER (R160). -/
def execReadMeter (link : Link) (tag : Tag) (lane : Nat) (s : State) : Host.Outcome State Fault Refusal :=
  .next (s.request link tag (.readMeter lane))

end Sys2Proof.Machine
end

