-- ==== Sys2Proof/Machine/LineEvents.lean ====
section
/-! DEFINITION. The meanings of the commands of events of the machine lines: the head, the lanes, the pinsetters, the return and the monitors. -/
namespace Sys2Proof.Machine

/-- READOUT (R10, R11, R15). -/
def execReadout (request : Nat) (left right : List Nat) (s : State) : Host.Outcome State Fault Refusal :=
  .next (((s.readout request left right).finish).pump)

/-- ARRIVAL (R28, R40). -/
def execArrival (lane : Lane) (s : State) : Host.Outcome State Fault Refusal :=
  .next (((s.arrive lane).finishArrival s lane).pump)

/-- FOUL_BREAK (R35). -/
def execFoulBreak (lane : Lane) (s : State) : Host.Outcome State Fault Refusal :=
  .next (((s.foulBroken lane).finishLines).pump)

/-- DONE (R53, R56, R60, R66, R72). -/
def execDone (lane : Lane) (s : State) : Host.Outcome State Fault Refusal :=
  .next (((s.completeDone lane).finishDone s lane).pump)

/-- REDO (R54, R56). -/
def execRedo (lane : Lane) (s : State) : Host.Outcome State Fault Refusal :=
  .next (((s.completeRedo lane).finishStep s lane).pump)

/-- FAULT_COMPLETION (R55, R56). -/
def execFaultCompletion (lane : Lane) (cause : CompletionFault) (s : State) : Host.Outcome State Fault Refusal :=
  .next (((s.completeFault lane (causeOf cause)).finishStep s lane).pump)

/-- PIT_DETECTOR (R74, R75). -/
def execPitDetector (lane : Lane) (s : State) : Host.Outcome State Fault Refusal :=
  .next (((s.pitEvent lane).finishPit s).pump)

/-- LIFT_TOP_SENSOR (R77). -/
def execLiftTopSensor (s : State) : Host.Outcome State Fault Refusal :=
  .next ((s.liftTop.finishReturn).pump)

/-- RACK_TAKE (R79). -/
def execRackTake (s : State) : Host.Outcome State Fault Refusal :=
  .next ((s.rackTaken.finishReturn).pump)

/-- ROW_PULL (R168, R170). -/
def execRowPull (lane : Lane) (s : State) : Host.Outcome State Fault Refusal :=
  .next (((s.pullRow lane).feedLoads).pump)

end Sys2Proof.Machine
end

