-- ==== Sys2Proof/Machine/LinkCommands.lean ====
section
/-! DEFINITION. The meanings of the commands of the links: power-on, frames, transmission, breaks, masks, reset and the reads of the whole (R186 to R195). -/
namespace Sys2Proof.Machine

/-- POWER_ON (R186): the whole part at its initial state; the commands that wait outside it stay (log 27). -/
def execPowerOn (s : State) : Host.Outcome State Fault Refusal :=
  .next ({ State.reset with pending := s.pending })

/-- FRAME_RECEIVED (R187, R188). -/
def execFrameReceived (link : Link) (lenHi lenLo kind tag : Byte) (body : List Byte) (check : Byte)
    (s : State) : Host.Outcome State Fault Refusal :=
  .next ((s.receive link lenHi lenLo kind tag body check).pump)

/-- FRAME_GAP_TIMEOUT (R187). -/
def execFrameGapTimeout (link : Link) (s : State) : Host.Outcome State Fault Refusal :=
  .next ((s.frameGap link).pump)

/-- TRANSMIT_COMPLETE (R189, R188). -/
def execTransmitComplete (link : Link) (s : State) : Host.Outcome State Fault Refusal :=
  .next ((s.transmitted link).pump)

/-- BREAK_BEGIN (R191). -/
def execBreakBegin (link : Link) (s : State) : Host.Outcome State Fault Refusal :=
  .next ((s.breakBegins link).pump)

/-- BREAK_END (R191). -/
def execBreakEnd (link : Link) (s : State) : Host.Outcome State Fault Refusal :=
  .next ((s.breakEnds link).pump)

/-- SET_MASK (R190). -/
def execSetMask (link : Link) (tag : Tag) (mask : BitVec 10) (s : State) : Host.Outcome State Fault Refusal :=
  .next (s.request link tag (.setMask mask))

/-- LINK_RESET (R191). -/
def execLinkReset (link : Link) (tag : Tag) (s : State) : Host.Outcome State Fault Refusal :=
  .next (s.request link tag .linkReset)

/-- READ_LINKS (R195). -/
def execReadLinks (link : Link) (tag : Tag) (s : State) : Host.Outcome State Fault Refusal :=
  .next (s.request link tag .readLinks)

/-- READ_STATUS (R195). -/
def execReadStatus (link : Link) (tag : Tag) (s : State) : Host.Outcome State Fault Refusal :=
  .next (s.request link tag .readStatus)

end Sys2Proof.Machine
end

