-- ==== Sys2Proof/Machine/MachineCommands.lean ====
section
/-! DEFINITION. The meanings of the commands of the pinsetters and the ball return by request, and the monitor (R63 to R70, R83, R85, R167, R172). -/
namespace Sys2Proof.Machine

/-- RE_RACK (R63). -/
def execReRack (link : Link) (tag : Tag) (lane : Nat) (s : State) : Host.Outcome State Fault Refusal :=
  .next (s.request link tag (.reRack lane))

/-- STOP_MACHINE (R64). -/
def execStopMachine (link : Link) (tag : Tag) (lane : Nat) (s : State) : Host.Outcome State Fault Refusal :=
  .next (s.request link tag (.stopMachine lane))

/-- ISSUE_STEP (R65). -/
def execIssueStep (link : Link) (tag : Tag) (lane step : Nat) (s : State) : Host.Outcome State Fault Refusal :=
  .next (s.request link tag (.issueStep lane step))

/-- CLEAR_FAULT (R68). -/
def execClearFault (link : Link) (tag : Tag) (lane : Nat) (s : State) : Host.Outcome State Fault Refusal :=
  .next (s.request link tag (.clearFault lane))

/-- RESUME_MACHINE (R69). -/
def execResumeMachine (link : Link) (tag : Tag) (lane choice : Nat) (s : State) : Host.Outcome State Fault Refusal :=
  .next (s.request link tag (.resumeMachine lane choice))

/-- CLEAR_RETURN (R83). -/
def execClearReturn (link : Link) (tag : Tag) (lift left right : Nat) (rack : Option Nat)
    (s : State) : Host.Outcome State Fault Refusal :=
  .next (s.request link tag (.clearReturn lift left right rack))

/-- READ_MACHINE (R70). -/
def execReadMachine (link : Link) (tag : Tag) (lane : Nat) (s : State) : Host.Outcome State Fault Refusal :=
  .next (s.request link tag (.readMachine lane))

/-- READ_RETURN (R85). -/
def execReadReturn (link : Link) (tag : Tag) (s : State) : Host.Outcome State Fault Refusal :=
  .next (s.request link tag .readReturn)

/-- SET_HIGHLIGHT (R167). -/
def execSetHighlight (link : Link) (tag : Tag) (lane : Nat) (positions : List Nat)
    (s : State) : Host.Outcome State Fault Refusal :=
  .next (s.request link tag (.setHighlight lane positions))

/-- READ_FEED (R172). -/
def execReadFeed (link : Link) (tag : Tag) (lane : Nat) (s : State) : Host.Outcome State Fault Refusal :=
  .next (s.request link tag (.readFeed lane))

end Sys2Proof.Machine
end

