-- ==== Sys2Proof/Machine/MoveCommands.lean ====
section
/-! DEFINITION. The meanings of the commands of group moves (R174 to R185). -/
namespace Sys2Proof.Machine

/-- SAVE_GROUP (R175). -/
def execSaveGroup (link : Link) (tag : Tag) (slot : Nat) (s : State) : Host.Outcome State Fault Refusal :=
  .next (s.request link tag (.saveGroup slot))

/-- SAVE_PART (R176). -/
def execSavePart (link : Link) (tag : Tag) (slot : Nat) (restart : Bool)
    (s : State) : Host.Outcome State Fault Refusal :=
  .next (s.request link tag (.savePart slot restart))

/-- LOAD_BEGIN (R177). -/
def execLoadBegin (link : Link) (tag : Tag) (transfer slot lane count : Nat)
    (s : State) : Host.Outcome State Fault Refusal :=
  .next (s.request link tag (.loadBegin transfer slot lane count))

/-- LOAD_PART (R178). -/
def execLoadPart (link : Link) (tag : Tag) (transfer : Nat) (entries : List EntryContent)
    (s : State) : Host.Outcome State Fault Refusal :=
  .next (s.request link tag (.loadPart transfer entries))

/-- LOAD_END (R180). -/
def execLoadEnd (link : Link) (tag : Tag) (transfer : Nat) (entries : List EntryContent)
    (s : State) : Host.Outcome State Fault Refusal :=
  .next (s.request link tag (.loadEnd transfer entries))

/-- RESUME_GROUP (R182). -/
def execResumeGroup (link : Link) (tag : Tag) (slot : Nat) (s : State) : Host.Outcome State Fault Refusal :=
  .next (s.request link tag (.resumeGroup slot))

/-- RELEASE_MOVED (R183). -/
def execReleaseMoved (link : Link) (tag : Tag) (slot : Nat) (s : State) : Host.Outcome State Fault Refusal :=
  .next (s.request link tag (.releaseMoved slot))

/-- READ_TRANSFER (R184). -/
def execReadTransfer (link : Link) (tag : Tag) (s : State) : Host.Outcome State Fault Refusal :=
  .next (s.request link tag .readTransfer)

end Sys2Proof.Machine
end

