-- ==== Sys2Proof/Machine/PlayCommands.lean ====
section
/-! DEFINITION. The meanings of the commands of groups, lines, corrections and scores (R88 to R143). -/
namespace Sys2Proof.Machine

/-- CREATE_GROUP (R89). -/
def execCreateGroup (link : Link) (tag : Tag) (slot : Nat) (name : Name) (lane : Nat) (bowlers : List BowlerSpec)
    (s : State) : Host.Outcome State Fault Refusal :=
  .next (s.request link tag (.createGroup slot name lane bowlers))

/-- ADD_BOWLER (R91). -/
def execAddBowler (link : Link) (tag : Tag) (slot : Nat) (bowler : BowlerSpec)
    (s : State) : Host.Outcome State Fault Refusal :=
  .next (s.request link tag (.addBowler slot bowler))

/-- SET_PLAY_MODE (R100). -/
def execSetPlayMode (link : Link) (tag : Tag) (slot mode : Nat) (s : State) : Host.Outcome State Fault Refusal :=
  .next (s.request link tag (.setPlayMode slot mode))

/-- NEW_GAME (R103). -/
def execNewGame (link : Link) (tag : Tag) (slot : Nat) (s : State) : Host.Outcome State Fault Refusal :=
  .next (s.request link tag (.newGame slot))

/-- MOVE_GROUP (R105). -/
def execMoveGroup (link : Link) (tag : Tag) (slot lane : Nat) (s : State) : Host.Outcome State Fault Refusal :=
  .next (s.request link tag (.moveGroup slot lane))

/-- DISMISS_GROUP (R90). -/
def execDismissGroup (link : Link) (tag : Tag) (slot : Nat) (s : State) : Host.Outcome State Fault Refusal :=
  .next (s.request link tag (.dismissGroup slot))

/-- READ_LINE (R126). -/
def execReadLine (link : Link) (tag : Tag) (line : Nat) (s : State) : Host.Outcome State Fault Refusal :=
  .next (s.request link tag (.readLine line))

/-- CLAIM_LINE (R129). -/
def execClaimLine (link : Link) (tag : Tag) (line : Nat) (s : State) : Host.Outcome State Fault Refusal :=
  .next (s.request link tag (.claimLine line))

/-- RELEASE_LINE (R130). -/
def execReleaseLine (link : Link) (tag : Tag) (line : Nat) (s : State) : Host.Outcome State Fault Refusal :=
  .next (s.request link tag (.releaseLine line))

/-- EDIT_LINE (R133). -/
def execEditLine (link : Link) (tag : Tag) (line base : Nat) (changes : LineChanges)
    (s : State) : Host.Outcome State Fault Refusal :=
  .next (s.request link tag (.editLine line base changes))

/-- CORRECT_BALL (R135). -/
def execCorrectBall (link : Link) (tag : Tag) (line game frame ball count : Nat) (foul : Bool) (base : Nat)
    (s : State) : Host.Outcome State Fault Refusal :=
  .next (s.request link tag (.correctBall line game frame ball count foul base))

/-- APPROVE (R139). -/
def execApprove (link : Link) (tag : Tag) (entry : Nat) (s : State) : Host.Outcome State Fault Refusal :=
  .next (s.request link tag (.approve entry))

/-- DENY (R140). -/
def execDeny (link : Link) (tag : Tag) (entry : Nat) (s : State) : Host.Outcome State Fault Refusal :=
  .next (s.request link tag (.deny entry))

/-- READ_PLAY (R106). -/
def execReadPlay (link : Link) (tag : Tag) (s : State) : Host.Outcome State Fault Refusal :=
  .next (s.request link tag .readPlay)

/-- READ_SCORES (R123). -/
def execReadScores (link : Link) (tag : Tag) (slot : Nat) (s : State) : Host.Outcome State Fault Refusal :=
  .next (s.request link tag (.readScores slot))

/-- READ_CORRECTIONS (R142). -/
def execReadCorrections (link : Link) (tag : Tag) (s : State) : Host.Outcome State Fault Refusal :=
  .next (s.request link tag .readCorrections)

end Sys2Proof.Machine
end

