-- ==== Sys2Proof/Machine/SensingCommands.lean ====
section
/-! DEFINITION. The meanings of the commands of deck sensing and pinfall by request (R6 to R22, R42 to R46). -/
namespace Sys2Proof.Machine

/-- SET_SLOT (R6). -/
def execSetSlot (link : Link) (tag : Tag) (slot lane point : Nat) (enabled : Bool) (baseline : Nat) (high low : Int)
    (wobble : Bool) (s : State) : Host.Outcome State Fault Refusal :=
  .next (s.request link tag (.setSlot slot lane point enabled baseline high low wobble))

/-- SET_SCAN_MODE (R7). -/
def execSetScanMode (link : Link) (tag : Tag) (mode : Nat) (s : State) : Host.Outcome State Fault Refusal :=
  .next (s.request link tag (.setScanMode mode))

/-- SET_RUN_MODE (R19). -/
def execSetRunMode (link : Link) (tag : Tag) (lane mode : Nat) (s : State) : Host.Outcome State Fault Refusal :=
  .next (s.request link tag (.setRunMode lane mode))

/-- RESTART_HEAD (R18). -/
def execRestartHead (link : Link) (tag : Tag) (s : State) : Host.Outcome State Fault Refusal :=
  .next (s.request link tag .restartHead)

/-- INJECT_READINGS (R20). -/
def execInjectReadings (link : Link) (tag : Tag) (lane : Nat) (readings : List Nat)
    (s : State) : Host.Outcome State Fault Refusal :=
  .next (s.request link tag (.injectReadings lane readings))

/-- ARM_TEST (R44). -/
def execArmTest (link : Link) (tag : Tag) (lane pins : Nat) (s : State) : Host.Outcome State Fault Refusal :=
  .next (s.request link tag (.armTest lane pins))

/-- SET_SCORING_SOURCE (R42). -/
def execSetScoringSource (link : Link) (tag : Tag) (lane source : Nat) (s : State) : Host.Outcome State Fault Refusal :=
  .next (s.request link tag (.setScoringSource lane source))

/-- MANUAL_BALL (R43). -/
def execManualBall (link : Link) (tag : Tag) (lane count : Nat) (foul : Bool)
    (s : State) : Host.Outcome State Fault Refusal :=
  .next (s.request link tag (.manualBall lane count foul))

/-- READ_SENSING (R22). -/
def execReadSensing (link : Link) (tag : Tag) (lane : Nat) (s : State) : Host.Outcome State Fault Refusal :=
  .next (s.request link tag (.readSensing lane))

/-- READ_PINFALL (R46). -/
def execReadPinfall (link : Link) (tag : Tag) (lane : Nat) (s : State) : Host.Outcome State Fault Refusal :=
  .next (s.request link tag (.readPinfall lane))

end Sys2Proof.Machine
end

