-- ==== Sys2Proof/Machine/TimerEvents.lean ====
section
/-! DEFINITION. The meanings of the commands of expiries of the timers of the part. -/
namespace Sys2Proof.Machine

/-- READOUT_TIMEOUT (R17). -/
def execReadoutTimeout (lane : Lane) (s : State) : Host.Outcome State Fault Refusal :=
  .next (((s.readoutExpires lane).finish).pump)

/-- WARM_UP_EXPIRY (R1). -/
def execWarmUpExpiry (s : State) : Host.Outcome State Fault Refusal :=
  .next ((s.warmExpires.finish).pump)

/-- CONTINUOUS_SCAN_EXPIRY (R19). -/
def execContinuousScanExpiry (lane : Lane) (s : State) : Host.Outcome State Fault Refusal :=
  .next (((s.contExpires lane).finish).pump)

/-- PIN_ACTION_DELAY_EXPIRY (R29). -/
def execPinActionDelayExpiry (lane : Lane) (s : State) : Host.Outcome State Fault Refusal :=
  .next (((s.delayExpires lane).finish).pump)

/-- SCAN_TIMER_EXPIRY (R29). -/
def execScanTimerExpiry (lane : Lane) (s : State) : Host.Outcome State Fault Refusal :=
  .next (((s.scanExpires lane).finish).pump)

/-- SETTLE_WINDOW_EXPIRY (R32). -/
def execSettleWindowExpiry (lane : Lane) (s : State) : Host.Outcome State Fault Refusal :=
  .next (((s.windowExpires lane).finish).pump)

/-- FOUL_GRACE_EXPIRY (R35). -/
def execFoulGraceExpiry (lane : Lane) (s : State) : Host.Outcome State Fault Refusal :=
  .next ((s.graceExpires lane).pump)

/-- CYCLE_DELAY_EXPIRY (R38). -/
def execCycleDelayExpiry (lane : Lane) (s : State) : Host.Outcome State Fault Refusal :=
  .next (((s.cycleExpires lane).finish).pump)

/-- START_TIMER_EXPIRY (R49). -/
def execStartTimerExpiry (lane : Lane) (s : State) : Host.Outcome State Fault Refusal :=
  .next (((s.startExpires lane).feedLoads).pump)

/-- STEP_TIMER_EXPIRY (R55). -/
def execStepTimerExpiry (lane : Lane) (s : State) : Host.Outcome State Fault Refusal :=
  .next (((s.stepExpires lane).finishStep s lane).pump)

/-- CARRY_TIMER_EXPIRY (R78). -/
def execCarryTimerExpiry (s : State) : Host.Outcome State Fault Refusal :=
  .next ((s.carryExpires.finishPit s).pump)

/-- CLAIM_TIMER_EXPIRY (R131). -/
def execClaimTimerExpiry (line : Nat) (s : State) : Host.Outcome State Fault Refusal :=
  .next ((s.claimExpiry line).pump)

/-- MINUTE_TIMER_EXPIRY (R152, R153). -/
def execMinuteTimerExpiry (s : State) : Host.Outcome State Fault Refusal :=
  .next ((s.minuteExpires.finish).pump)

/-- GAP_TIMER_EXPIRY (R179). -/
def execGapTimerExpiry (s : State) : Host.Outcome State Fault Refusal :=
  .next s.gapExpires.pump

end Sys2Proof.Machine
end

