-- ==== Sys2Proof/Machine/Dispatch.lean ====
section
/-! DEFINITION. The dispatch: one arm for each command, each one call of its meaning. -/
namespace Sys2Proof.Machine

/-- What a command does, with the outcome it gives. -/
def exec (i : Instr) (s : State) : Host.Outcome State Fault Refusal :=
  match i with
  | .powerOn => Sys2Proof.Machine.execPowerOn s
  | .frameReceived link lenHi lenLo kind tag body check => Sys2Proof.Machine.execFrameReceived link lenHi lenLo kind tag body check s
  | .frameGapTimeout link => Sys2Proof.Machine.execFrameGapTimeout link s
  | .transmitComplete link => Sys2Proof.Machine.execTransmitComplete link s
  | .breakBegin link => Sys2Proof.Machine.execBreakBegin link s
  | .breakEnd link => Sys2Proof.Machine.execBreakEnd link s
  | .setConfig link tag item value stepKind => Sys2Proof.Machine.execSetConfig link tag item value stepKind s
  | .configDone link tag => Sys2Proof.Machine.execConfigDone link tag s
  | .setHandicap link tag basis percent cap noAverage => Sys2Proof.Machine.execSetHandicap link tag basis percent cap noAverage s
  | .setTime link tag minute => Sys2Proof.Machine.execSetTime link tag minute s
  | .setRates link tag bands => Sys2Proof.Machine.execSetRates link tag bands s
  | .readRates link tag => Sys2Proof.Machine.execReadRates link tag s
  | .pairClear link tag => Sys2Proof.Machine.execPairClear link tag s
  | .openSession link tag lane mode league autoNext foulDetect meterDisplay overflow allowance => Sys2Proof.Machine.execOpenSession link tag lane mode league autoNext foulDetect meterDisplay overflow allowance s
  | .setSessionFlags link tag lane league autoNext foulDetect meterDisplay overflow => Sys2Proof.Machine.execSetSessionFlags link tag lane league autoNext foulDetect meterDisplay overflow s
  | .closeSession link tag lane manner => Sys2Proof.Machine.execCloseSession link tag lane manner s
  | .unlock link tag lane mode allowance => Sys2Proof.Machine.execUnlock link tag lane mode allowance s
  | .readMeter link tag lane => Sys2Proof.Machine.execReadMeter link tag lane s
  | .approve link tag entry => Sys2Proof.Machine.execApprove link tag entry s
  | .deny link tag entry => Sys2Proof.Machine.execDeny link tag entry s
  | .moveGroup link tag slot lane => Sys2Proof.Machine.execMoveGroup link tag slot lane s
  | .dismissGroup link tag slot => Sys2Proof.Machine.execDismissGroup link tag slot s
  | .saveGroup link tag slot => Sys2Proof.Machine.execSaveGroup link tag slot s
  | .savePart link tag slot restart => Sys2Proof.Machine.execSavePart link tag slot restart s
  | .loadBegin link tag transfer slot lane count => Sys2Proof.Machine.execLoadBegin link tag transfer slot lane count s
  | .loadPart link tag transfer entries => Sys2Proof.Machine.execLoadPart link tag transfer entries s
  | .loadEnd link tag transfer entries => Sys2Proof.Machine.execLoadEnd link tag transfer entries s
  | .resumeGroup link tag slot => Sys2Proof.Machine.execResumeGroup link tag slot s
  | .releaseMoved link tag slot => Sys2Proof.Machine.execReleaseMoved link tag slot s
  | .createGroup link tag slot name lane bowlers => Sys2Proof.Machine.execCreateGroup link tag slot name lane bowlers s
  | .addBowler link tag slot bowler => Sys2Proof.Machine.execAddBowler link tag slot bowler s
  | .setPlayMode link tag slot mode => Sys2Proof.Machine.execSetPlayMode link tag slot mode s
  | .newGame link tag slot => Sys2Proof.Machine.execNewGame link tag slot s
  | .readLine link tag line => Sys2Proof.Machine.execReadLine link tag line s
  | .claimLine link tag line => Sys2Proof.Machine.execClaimLine link tag line s
  | .releaseLine link tag line => Sys2Proof.Machine.execReleaseLine link tag line s
  | .editLine link tag line base changes => Sys2Proof.Machine.execEditLine link tag line base changes s
  | .correctBall link tag line game frame ball count foul base => Sys2Proof.Machine.execCorrectBall link tag line game frame ball count foul base s
  | .manualBall link tag lane count foul => Sys2Proof.Machine.execManualBall link tag lane count foul s
  | .reRack link tag lane => Sys2Proof.Machine.execReRack link tag lane s
  | .setScoringSource link tag lane source => Sys2Proof.Machine.execSetScoringSource link tag lane source s
  | .setHighlight link tag lane positions => Sys2Proof.Machine.execSetHighlight link tag lane positions s
  | .setSlot link tag slot lane point enabled baseline high low wobble => Sys2Proof.Machine.execSetSlot link tag slot lane point enabled baseline high low wobble s
  | .setScanMode link tag mode => Sys2Proof.Machine.execSetScanMode link tag mode s
  | .setRunMode link tag lane mode => Sys2Proof.Machine.execSetRunMode link tag lane mode s
  | .restartHead link tag => Sys2Proof.Machine.execRestartHead link tag s
  | .injectReadings link tag lane readings => Sys2Proof.Machine.execInjectReadings link tag lane readings s
  | .armTest link tag lane pins => Sys2Proof.Machine.execArmTest link tag lane pins s
  | .stopMachine link tag lane => Sys2Proof.Machine.execStopMachine link tag lane s
  | .issueStep link tag lane step => Sys2Proof.Machine.execIssueStep link tag lane step s
  | .clearFault link tag lane => Sys2Proof.Machine.execClearFault link tag lane s
  | .resumeMachine link tag lane choice => Sys2Proof.Machine.execResumeMachine link tag lane choice s
  | .clearReturn link tag lift left right rack => Sys2Proof.Machine.execClearReturn link tag lift left right rack s
  | .readLinks link tag => Sys2Proof.Machine.execReadLinks link tag s
  | .readStatus link tag => Sys2Proof.Machine.execReadStatus link tag s
  | .readSensing link tag lane => Sys2Proof.Machine.execReadSensing link tag lane s
  | .readPinfall link tag lane => Sys2Proof.Machine.execReadPinfall link tag lane s
  | .readMachine link tag lane => Sys2Proof.Machine.execReadMachine link tag lane s
  | .readReturn link tag => Sys2Proof.Machine.execReadReturn link tag s
  | .readPlay link tag => Sys2Proof.Machine.execReadPlay link tag s
  | .readScores link tag slot => Sys2Proof.Machine.execReadScores link tag slot s
  | .readCorrections link tag => Sys2Proof.Machine.execReadCorrections link tag s
  | .readFeed link tag lane => Sys2Proof.Machine.execReadFeed link tag lane s
  | .readTransfer link tag => Sys2Proof.Machine.execReadTransfer link tag s
  | .setMask link tag mask => Sys2Proof.Machine.execSetMask link tag mask s
  | .linkReset link tag => Sys2Proof.Machine.execLinkReset link tag s
  | .readout request left right => Sys2Proof.Machine.execReadout request left right s
  | .readoutTimeout lane => Sys2Proof.Machine.execReadoutTimeout lane s
  | .warmUpExpiry => Sys2Proof.Machine.execWarmUpExpiry s
  | .continuousScanExpiry lane => Sys2Proof.Machine.execContinuousScanExpiry lane s
  | .arrival lane => Sys2Proof.Machine.execArrival lane s
  | .foulBreak lane => Sys2Proof.Machine.execFoulBreak lane s
  | .pinActionDelayExpiry lane => Sys2Proof.Machine.execPinActionDelayExpiry lane s
  | .scanTimerExpiry lane => Sys2Proof.Machine.execScanTimerExpiry lane s
  | .settleWindowExpiry lane => Sys2Proof.Machine.execSettleWindowExpiry lane s
  | .foulGraceExpiry lane => Sys2Proof.Machine.execFoulGraceExpiry lane s
  | .cycleDelayExpiry lane => Sys2Proof.Machine.execCycleDelayExpiry lane s
  | .startTimerExpiry lane => Sys2Proof.Machine.execStartTimerExpiry lane s
  | .done lane => Sys2Proof.Machine.execDone lane s
  | .redo lane => Sys2Proof.Machine.execRedo lane s
  | .faultCompletion lane cause => Sys2Proof.Machine.execFaultCompletion lane cause s
  | .stepTimerExpiry lane => Sys2Proof.Machine.execStepTimerExpiry lane s
  | .pitDetector lane => Sys2Proof.Machine.execPitDetector lane s
  | .liftTopSensor => Sys2Proof.Machine.execLiftTopSensor s
  | .rackTake => Sys2Proof.Machine.execRackTake s
  | .carryTimerExpiry => Sys2Proof.Machine.execCarryTimerExpiry s
  | .claimTimerExpiry line => Sys2Proof.Machine.execClaimTimerExpiry line s
  | .minuteTimerExpiry => Sys2Proof.Machine.execMinuteTimerExpiry s
  | .gapTimerExpiry => Sys2Proof.Machine.execGapTimerExpiry s
  | .rowPull lane => Sys2Proof.Machine.execRowPull lane s

end Sys2Proof.Machine
end

