-- ==== Sys2Proof/Safety.lean ====
section
/-! DEFINITION. What the statements speak of: a link that is idle, a request with its reply, and the bounds that every run
keeps. -/
namespace Sys2Proof

/-- An entry whose content reads as what it is: content kept as malformed does not read as its kind (R178). -/
def EntryContent.carried (e : EntryContent) : Bool :=
  fits 2 e.content.length && (match e with
    | .malformed kind bytes => entryContent kind bytes = .malformed kind bytes
    | .header .. | .line .. | .frames _ => true)

/-- A request whose transfer entries, if it has any, read as what they are. -/
def Request.carried : Request → Bool
  | .loadPart _ entries | .loadEnd _ entries => entries.all EntryContent.carried
  | _ => true

/-- The configuration value of an item, numbered as set-config numbers it (R192, log 9); item 9 has one value for each step
kind. -/
def Settings.item (t : Settings) (item : Nat) (k : StepKind) : Option Nat :=
  match item with
  | 0 => t.laneNumber
  | 1 => some t.warmUp
  | 2 => some t.scanInterval
  | 3 => some t.pinActionDelay
  | 4 => some t.settleCount
  | 5 => some t.settleWindow
  | 6 => some t.foulGrace
  | 7 => some t.cycleDelay
  | 8 => some t.startTime
  | 9 => some (Machine.stepTime t.stepTimeouts k)
  | 10 => some t.rackCapacity
  | 11 => some t.carryTimeout
  | 12 => some t.claimExpiry
  | _ => none

end Sys2Proof

namespace Sys2Proof.Machine

/-! ### A request and its reply -/

/-- A link on which nothing is under way: no break, no request queued, no reply waiting, the transmitter free. -/
abbrev LinkIdle (s : State) (k : Link) : Prop :=
  (s.port k).inBreak = false ∧ (s.port k).queue = [] ∧ (s.port k).replies = [] ∧ (s.port k).tx = .free

/-- The state in which a request that meets an idle link is served: it stands at the front of the link's queue (R188). -/
def State.queuedUp (s : State) (k : Link) (tag : Tag) (r : Request) : State :=
  s.modPort k fun p => p.enqueue (queuedOf tag r)

/-- The end of the event in which a request was served: what `u`, the state with the request's own effect, makes due in
other blocks follows, the reply joins the reply line, and each free transmitter takes a frame (R188, R189, log 7). -/
def State.answered (u : State) (k : Link) (tag : Tag) (r : Request) (a : Answer) : State :=
  ((finishRequest r u).modPort k fun p => p.reply (queuedOf tag r) a).pump

/-- The port of an idle link after a request whose effect sent the link no notice: the request stands served at the front of
the queue, and its reply is alone in the reply line and in transmission. -/
abbrev Answered (s t : State) (k : Link) (tag : Tag) (r : Request) (a : Answer) : Prop :=
  t.port k = { s.port k with
    queue := [queuedOf tag r], frontServed := true
    replies := [{ role := .served, kind := r.kind, tag := tag, answer := a }], tx := .reply }

/-- The reply `a` to a request that met an idle link: the request stands served at the front of the queue, and its reply is
alone in the reply line and in transmission; notices may wait behind it (R188, R189). -/
abbrev Replied (t : State) (k : Link) (tag : Tag) (r : Request) (a : Answer) : Prop :=
  (t.port k).queue = [queuedOf tag r] ∧ (t.port k).frontServed = true
    ∧ (t.port k).replies = [{ role := .served, kind := r.kind, tag := tag, answer := a }] ∧ (t.port k).tx = .reply

/-- `t` is `u` in everything but the link ports and the monitor feeds. -/
abbrev SameInside (t u : State) : Prop := { t with ports := u.ports, feeds := u.feeds } = u

/-- `s` with the lines and the totals of `v`, and the line changes that `v` has yet to announce: all that the placing or the
removal of a ball may change (R96). -/
abbrev State.withLines (s v : State) : State := { s with lines := v.lines, groups := v.groups, dirty := v.dirty }

/-- Every other link's port is as it was, but for a free transmitter that takes a frame that waits. -/
abbrev OthersIdle (s t : State) (k : Link) : Prop := ∀ j, j ≠ k → t.port j = (s.port j).pump

/-- The answer of a request that only reads, from the state it is served in. -/
def readAnswer (r : Request) (s : State) : Option Answer :=
  match r with
  | .readMeter lane => some (readLane readMeter lane s)
  | .readSensing lane => some (readLane readSensing lane s)
  | .readPinfall lane => some (readLane readPinfall lane s)
  | .readMachine lane => some (readLane readMachine lane s)
  | .readFeed lane => some (readLane readFeed lane s)
  | .readScores slot => some (readScores slot s)
  | .readLinks => some (.ok (readLinks s))
  | .readStatus => some (.ok (readStatus s))
  | .readReturn => some (.ok (readReturn s))
  | .readPlay => some (.ok (readPlay s))
  | .readCorrections => some (.ok (readCorrections s))
  | .readRates => some (.ok (readRates s))
  | .readTransfer => some (.ok (readTransfer s))
  | _ => none

/-! ### Ranges, the settled meter and the band in force -/

/-- The ranges of R192, by item number (log 9); times given in milliseconds are held in units of 10 ms. -/
def configRange (item : Nat) : Nat × Nat :=
  [(1, 97), (0, 500), (2, 20), (0, 400), (1, 8), (50, 600), (0, 300), (0, 300), (1, 10), (1, 20), (6, 16), (2, 20),
    (30, 600)].getD item (1, 0)

/-- The figures of a meter settled at a close (R159): 1 cent for a fraction of 30 or more, kept below the limit of R151. -/
def settledMeter (m : Meter) : Meter :=
  { m with
    cents := if 30 ≤ m.fraction then min 9999999 (m.cents + 1) else m.cents
    saturated := m.saturated || (decide (30 ≤ m.fraction) && decide (9999999 ≤ m.cents)), fraction := 0 }

/-- The band in force at a minute (R153): the greatest start not after it, else the greatest start of all. -/
abbrev BandInForce (rates : List Band) (m : Nat) (b : Band) : Prop :=
  b ∈ rates ∧ ((b.start ≤ m ∧ ∀ c ∈ rates, c.start ≤ m → c.start ≤ b.start)
    ∨ ((∀ c ∈ rates, m < c.start) ∧ ∀ c ∈ rates, c.start ≤ b.start))

/-- A pinsetter that has just taken a recipe: its first step issued, the next ones queued, a fifth kept as the remainder (R51);
`guard` is the step timeout of GUARD_DOWN. -/
def Pinsetter.takes (p : Pinsetter) (r : Recipe) (state : MachineState) (guard : Nat) : Pinsetter :=
  { p with
    state := state, cause := none, recipe := some r, step := some .guardDown
    queue := if r.kind = .full then [.sweep, .setFull, .guardUp] else [.pick, .sweep, .respot]
    remainder := if r.kind = .full then none else some .guardUp
    redo := 0, attempts := 0, startTimer := none, stepTimer := some (100 * guard) }

/-! ### What the control of a lane keeps -/

/-- The state that a session was PAUSED from: OPEN or OVERTIME in PAUSED, and absent in every other state (R145, R148). -/
abbrev PauseOk (x : Session) : Prop :=
  (x.state = .paused → x.pausedFrom = some .opened ∨ x.pausedFrom = some .overtime) ∧ (x.state ≠ .paused → x.pausedFrom = none)

abbrev PausesOk (s : State) : Prop := ∀ l, PauseOk (s.sessions.get l)

/-- The order that a pinsetter keeps among its state, its step, its pit hold and its check need; `configured` is the pair's,
`hold` the hold as the BRC records it, and `check` the check need that waits in the DSU. -/
structure ControlOk (configured : Bool) (p : Pinsetter) (hold : Bool) (check : Option Pins) : Prop where
  /-- an unconfigured pair's machine is OFF (R48) -/
  off    : configured = false → p.state = .off
  /-- the BRC has the hold that the PSC last told it (R59, R80) -/
  told   : hold = p.pitHold
  /-- a hold is on only while SWEEP waits at the head of the queue and no step executes: in HELD(PIT), or in SERVICE with a test
  recipe in hand (R57, R59, R67) -/
  held   : p.pitHold = true → p.step = none ∧ p.queue.head? = some .sweep
    ∧ (p.state = .heldPit ∨ p.state = .service ∧ p.recipe ≠ none)
  /-- a step executes only in CYCLING and SERVICE (R48) -/
  steps  : p.step ≠ none → p.state = .cycling ∨ p.state = .service
  /-- a check need waits only for a machine in CHECKING (R16, R60) -/
  checks : check ≠ none → p.state = .checking

/-- Both lanes keep that order. -/
abbrev ControlsOk (s : State) : Prop :=
  ∀ l, ControlOk s.configured (s.psc.get l) (s.ret.holds.get l) (s.sensing.get l).needs.check

/-- A PDU is ARMED only while its lane's machine is READY (R26, R27). -/
abbrev ArmedOk (s : State) : Prop := ∀ l, (s.pdu.get l).run = .armed → (s.psc.get l).state = .ready

/-! ### The bounds of a run -/

/-- The bounds of a meter (R150, R151, R153). -/
abbrev MeterOk (m : Meter) : Prop := m.games ≤ 65535 ∧ m.minutes ≤ 65535 ∧ m.cents ≤ 9999999 ∧ m.fraction < 60

abbrev MetersOk (s : State) : Prop := ∀ l, MeterOk (s.sessions.get l).meter

/-- The bounds and the order of a port: 4 requests, 16 notices and 4 BUSY replies at most (R188, R190); the front request is
served, and the reply line holds its reply once (R188); a transmitter that is not free has its frame at the front, and is
free in a break (R189, R191). -/
abbrev PortOk (p : Port) : Prop :=
  p.queue.length ≤ 4 ∧ p.notices.length ≤ 16 ∧ p.badFrames ≤ 65535
    ∧ (p.replies.filter fun r => r.role = .busy).length ≤ 4
    ∧ p.frontServed = !p.queue.isEmpty
    ∧ (p.replies.filter fun r => r.role = .served).length = (if p.frontServed then 1 else 0)
    ∧ (p.tx = .reply → p.replies ≠ []) ∧ (p.tx = .notice → p.notices ≠ []) ∧ (p.inBreak → p.tx = .free)

abbrev PortsOk (s : State) : Prop := ∀ k, PortOk (s.port k)

/-- The bounds of the return: at most 2 balls in each pit, and no more balls in the rack and the lift than the capacity
(R74, R76, R83, R84). -/
abbrev ReturnOk (s : State) : Prop :=
  (∀ l, (s.ret.pits.get l).length ≤ 2) ∧ s.ret.rack + s.ret.inLift ≤ s.settings.rackCapacity
    ∧ 6 ≤ s.settings.rackCapacity ∧ s.settings.rackCapacity ≤ 16
    ∧ s.ret.stampCounter ≤ 65535 ∧ s.ret.rackGlitches ≤ 65535 ∧ s.ret.liftGlitches ≤ 65535

/-- The shape of a feed: 64 rows in two halves, and a pointer to one of them (R164, R168). -/
abbrev FeedOk (f : Feed) : Prop := f.lower.length = 32 ∧ f.upper.length = 32 ∧ f.pointer ≤ 63

abbrev FeedsOk (s : State) : Prop := ∀ l, FeedOk (s.feeds.get l)

/-- The pending correction queue: at most 8 entries, their ids 1 to 255 and all different (R138). -/
abbrev CorrectionsOk (s : State) : Prop :=
  s.corrections.length ≤ 8 ∧ (s.corrections.map (·.id)).Nodup ∧ (∀ e ∈ s.corrections, 1 ≤ e.id ∧ e.id ≤ 255)
    ∧ 1 ≤ s.nextEntry ∧ s.nextEntry ≤ 255

/-- The claims of a line: at most one link holds EDIT, and the claim timer runs exactly while one does (R129 to R131). -/
abbrev ClaimOk (l : Line) : Prop :=
  (∀ j k, l.copies.get j = .edit → l.copies.get k = .edit → j = k) ∧ (l.claimTimer.isSome ↔ ∃ k, l.copies.get k = .edit)

abbrev ClaimsOk (s : State) : Prop := ∀ i l, s.line i = some l → ClaimOk l

end Sys2Proof.Machine
end

