-- ==== Sys2Proof/Certificates/Slice0/Obligations.lean ====
section
/-! DEFINITION. The statements for the provers, in the order of OBLIGATIONS.json. -/
open Sys2Proof Sys2Proof.Machine

/-! ### The queue of commands, power-on, frames, requests and transmission (chapter 11) -/

/-- A step takes the command at the front of the queue and runs it with the queue's rest; with an empty queue the part idles (log
1: the model's choice). Every command, in every state, is answered with a next state, and leaves the commands that wait as
they are. -/
def Obligations.StepTakesFront : Prop :=
  (∀ (c : Instr) (s : State), step { s with pending := c :: s.pending } = exec c s ∧ (s.pending = [] → step s = .next s))
  ∧ (∀ (c : Instr) (s : State), ∃ t, exec c s = .next t ∧ t.pending = s.pending)

/-- R186: what power-on leaves of the links, the pair state and the configuration. Times are in units of 10 ms where R192 gives
milliseconds (warm-up 2000 ms is 200). -/
def Obligations.PowerOnLinksAndConfiguration : Prop :=
  ∀ s : State, ∃ t, exec .powerOn s = .next t
    ∧ (∀ k, (t.port k).queue = [] ∧ (t.port k).notices = [] ∧ (t.port k).replies = [] ∧ (t.port k).mask = BitVec.allOnes 10
        ∧ (t.port k).lost = false ∧ (t.port k).badFrames = 0 ∧ (t.port k).inBreak = false)
    ∧ (accessClass .desk = 0 ∧ accessClass .service = 1 ∧ accessClass .console = 2)
    ∧ t.configured = false ∧ t.laneNumber .left = none ∧ t.laneNumber .right = none
    ∧ (∀ k, [1, 2, 3, 4, 5, 6, 7, 8, 9, 10, 11, 12].map (fun n => t.settings.item n k)
        = [200, 5, 150, 3, 300, 100, 80, 4, 8, 12, 8, 120].map some)

/-- What power-on leaves of the other blocks: every register that R23, R47, R71, R86, R107, R124, R144, R162, R173 and R185 give a
power-on value holds it, with the parameters at their defaults and no notice queued. The fields `upAtArming`, `settleTarget`
and `lastSet` of a PDU and `oneShotCarried`, `composeOwed` and `rowOut` of a feed are the model's own (log 7, log 22, log 25,
log 26), and the clauses say nothing of them; an EMPTY slot has no contents to state (log 28). The state at reset meets every
bound that runs keep. -/
def Obligations.PowerOnBlocks : Prop :=
  (∀ s : State, ∃ t, exec .powerOn s = .next t
    ∧ t.settings = { laneNumber := none, warmUp := 200, scanInterval := 5, pinActionDelay := 150, settleCount := 3
                     settleWindow := 300, foulGrace := 100, cycleDelay := 80, startTime := 4
                     stepTimeouts := { guardDown := 8, pick := 8, sweep := 8, respot := 8, setFull := 8, guardUp := 8 }
                     rackCapacity := 12, carryTimeout := 8, claimExpiry := 120 }
    ∧ (∀ k, (t.port k).notices = [])
    ∧ t.head = { state := .off, mode := .paired, warmTimer := none }
    ∧ (∀ l, t.sensing.get l = {
        slots := ((List.finRange 10).map Point.pin ++ [Point.dl, Point.dr]).map fun p : Point => {
          cfg := { point := p, enabled := true, baseline := 0, high := 400, low := -400, wobble := true }
          obs := { raw := none, result := none, cls := none, side := none, wobbling := false, count := 0 } }
        runMode := .normal, fault := false, needs := { run := false, check := none, cont := false }
        scan := none, injection := none, contTimer := none })
    ∧ (∀ l, { t.pdu.get l with upAtArming := none, settleTarget := 3, lastSet := none } = ({
        run := .idle, source := .auto, deck := .unknown 10, upAtArming := none, binding := none, foulOpen := false
        foulFlag := false, elapsed := false, settleCount := 0, settleTarget := 3, stalled := false, record := none
        lastSet := none, pinTimer := none, scanTimer := none, windowTimer := none, graceTimer := none
        cycleTimer := none } : Pdu))
    ∧ (∀ l, t.psc.get l = { state := .off, cause := none, recipe := none, step := none, queue := [], remainder := none
                            redo := 0, attempts := 0, closingOwed := false, windingDown := false, pitHold := false
                            stray := 0, startTimer := none, stepTimer := none })
    ∧ t.ret = { state := .idle, cause := none, pits := ⟨[], []⟩, stampCounter := 0, lift := none, rack := 0
                carryTimer := none, holds := ⟨false, false⟩, rackGlitches := 0, liftGlitches := 0 }
    ∧ (∀ g, (t.groups.get g).state = .empty ∧ (t.groups.get g).runningTotal = none ∧ (t.groups.get g).groupTotal = none)
    ∧ (∀ i, t.line i = none) ∧ (∀ l, t.lanes.get l = ⟨none, none⟩ ∧ t.upBowler l = none)
    ∧ t.corrections = [] ∧ t.nextEntry = 1
    ∧ t.handicap = { basis := 0, percent := 0, cap := 0, noAverage := 0 }
    ∧ (∀ l, t.sessions.get l = { state := .closed, pausedFrom := none, mode := .perGame, prepaidGames := 0, gamesGranted := 0
                                 minuteAllowance := false, prepaidMinutes := 0, league := false, autoNext := false
                                 foulDetect := false, meterDisplay := false, overflow := .hold
                                 meter := { games := 0, minutes := 0, cents := 0, fraction := 0, saturated := false }
                                 openTime := none })
    ∧ t.rates = [] ∧ t.timeOfDay = none ∧ t.minuteTimer = none
    ∧ (∀ l, { t.feeds.get l with oneShotCarried := false, composeOwed := false, rowOut := none } = ({
        lower := List.replicate 32 ⟨.normal, .blank⟩, upper := List.replicate 32 ⟨.normal, .blank⟩, pointer := 0
        markLower := false, markUpper := false, pendingHalf := .none, banner := .none, highlights := 0#8, oneShot := none
        oneShotCarried := false, lastBall := none, composeOwed := false, rowOut := none } : Feed))
    ∧ (∀ g, t.outbound.get g = none) ∧ t.staging = none ∧ t.gapTimer = none)
  ∧ (PortsOk State.reset ∧ MetersOk State.reset ∧ ReturnOk State.reset ∧ FeedsOk State.reset ∧ CorrectionsOk State.reset
    ∧ ClaimsOk State.reset ∧ PausesOk State.reset ∧ ControlsOk State.reset ∧ ArmedOk State.reset)

/-- The frame of every well-formed request spells that request and no other: decoding the encoded body gives it back. The layout
details that R196 leaves open are the model's (log 8, log 9). -/
def Obligations.RequestRoundTrip : Prop :=
  ∀ r : Request, r.wf = true → r.carried = true → decodeRequest r.kind r.encode = some r

/-- A frame that carries a well-formed request within 1024 bytes, with its right check byte, does exactly what the request's own
command does on that link (R187, R188). A request command is a frame that passed the check (log 3: the model's choice). -/
def Obligations.FrameRunsItsRequest : Prop :=
  ∀ (i : Instr) (k : Link) (tag : Tag) (r : Request) (s : State), i.request = some (k, tag, r) → r.wf = true →
    r.carried = true → r.encode.length ≤ 1024 →
    let hi := byte (r.encode.length / 256)
    let lo := byte r.encode.length
    let kind := byte r.kind
    let t := tag.setWidth 8
    exec (.frameReceived k hi lo kind t r.encode (~~~ (hi + lo + kind + t + r.encode.foldl (· + ·) 0#8))) s
        = .next (s.request k tag r)
      ∧ exec i s = .next (s.request k tag r)

/-- R187: a frame that fails the check, or a gap of more than 100 ms, counts one bad frame and nothing else happens; in a break
nothing is received. The transmitters take what waits, as at the end of every event. -/
def Obligations.BadFramesAreDropped : Prop :=
  ∀ (k : Link) (hi lo kind tag check : Byte) (body : List Byte) (s : State), body.length = 256 * hi.toNat + lo.toNat →
    1024 < body.length ∨ 15 < tag.toNat ∨ check ≠ ~~~ (hi + lo + kind + tag + body.foldl (· + ·) 0#8) →
    let counted := (s.modPort k fun p => { p with badFrames := min 65535 (p.badFrames + 1) }).pump
    ((s.port k).inBreak = false →
        exec (.frameReceived k hi lo kind tag body check) s = .next counted ∧ exec (.frameGapTimeout k) s = .next counted)
      ∧ ((s.port k).inBreak = true →
        exec (.frameReceived k hi lo kind tag body check) s = .next s.pump ∧ exec (.frameGapTimeout k) s = .next s.pump)

/-- The rights table of chapter 11, by type number; and a request that its link may not send is answered RIGHTS and changes
nothing but the links (R188, step 2). -/
def Obligations.RightsAreEnforced : Prop :=
  ((∀ n, n ∈ List.range' 1 22 → ∀ k, admits k n = true ↔ k = .desk)
    ∧ (∀ n, n ∈ List.range' 23 11 → ∀ k, admits k n = true ↔ k = .desk ∨ k = .console)
    ∧ (∀ k, admits k 34 = true ↔ k = .desk ∨ k = .service) ∧ (∀ k, admits k 35 = true ↔ k = .console)
    ∧ (∀ n, n ∈ List.range' 36 12 → ∀ k, admits k n = true ↔ k = .service)
    ∧ (∀ n, n ∈ List.range' 48 13 → ∀ k, admits k n = true))
  ∧ (∀ (i : Instr) (k : Link) (tag : Tag) (r : Request) (s : State), i.request = some (k, tag, r) → LinkIdle s k →
    admits k r.kind = false →
    ∃ t, exec i s = .next t ∧ Replied t k tag r (.refused .rights) ∧ OthersIdle s t k ∧ { t with ports := s.ports } = s)

/-- R188: every request that its link may send and that meets an idle link is served in the event it is taken, and its one reply,
with its type and tag, is in transmission; the bad-frame count and the class mask stay, but for SET_MASK. -/
def Obligations.RequestIsAnswered : Prop :=
  ∀ (i : Instr) (k : Link) (tag : Tag) (r : Request) (s : State), i.request = some (k, tag, r) → r ≠ .linkReset →
    LinkIdle s k → admits k r.kind = true →
    ∃ t a, exec i s = .next t ∧ Replied t k tag r a ∧ (t.port k).badFrames = (s.port k).badFrames
      ∧ (∀ m, r = .setMask m → (t.port k).mask = m) ∧ ((∀ m, r ≠ .setMask m) → (t.port k).mask = (s.port k).mask)

/-- R188: a request behind others joins the end of the queue and is not served; behind four requests it is answered BUSY; behind
four BUSY replies it is dropped and counted. -/
def Obligations.QueueBounds : Prop :=
  ∀ (i : Instr) (k : Link) (tag : Tag) (r : Request) (s : State), i.request = some (k, tag, r) → r ≠ .linkReset →
    (s.port k).inBreak = false → (s.port k).queue ≠ [] →
    let busy := ((s.port k).replies.filter fun x => x.role = .busy).length
    ∃ t, exec i s = .next t ∧ OthersIdle s t k ∧ { t with ports := s.ports } = s
      ∧ ((s.port k).queue.length < 4 →
          t.port k = ({ s.port k with queue := (s.port k).queue ++ [⟨r.kind, tag, some r⟩] } : Port).pump)
      ∧ (4 ≤ (s.port k).queue.length → busy < 4 →
          t.port k = ({ s.port k with
            replies := (s.port k).replies ++ [⟨.busy, r.kind, tag, ⟨.busy, []⟩⟩] } : Port).pump)
      ∧ (4 ≤ (s.port k).queue.length → 4 ≤ busy →
          t.port k = ({ s.port k with badFrames := min 65535 ((s.port k).badFrames + 1) } : Port).pump)

/-- R188, R189: the transmission of a served reply ends: the reply leaves the reply line, the request leaves the queue, the
reply's frame has gone out (log 26), and the transmitter takes what waits. A notice leaves its queue in the same way; a BUSY
reply and the reply of a link reset leave the reply line alone, with the queue and its served front as they were. With nothing
in transmission, nothing changes (log 2: the model's choice). R188, R189: when the reply of a served request has gone out and
another request waits, that request is served in the same event by the four steps of R188, and its reply joins the end of the
reply line; the replies that waited beside it stay in their order. -/
def Obligations.TransmissionEnds : Prop :=
  (∀ (k : Link) (s : State),
    (∀ q r rest, (s.port k).tx = .reply → (s.port k).replies = r :: rest → r.role = .served → (s.port k).queue = [q] →
      ∃ t, exec (.transmitComplete k) s = .next t ∧ OthersIdle s t k ∧ { t with ports := s.ports } = s
        ∧ t.port k = ({ s.port k with
            queue := [], frontServed := false, replies := rest, tx := .free, sent := r.frame } : Port).pump)
    ∧ (∀ n rest, (s.port k).tx = .notice → (s.port k).notices = n :: rest →
      ∃ t, exec (.transmitComplete k) s = .next t ∧ OthersIdle s t k ∧ { t with ports := s.ports } = s
        ∧ t.port k = ({ s.port k with notices := rest, tx := .free, sent := n.frame } : Port).pump)
    ∧ (∀ r rest, (s.port k).tx = .reply → (s.port k).replies = r :: rest → r.role = .busy ∨ r.role = .reset →
      ∃ t, exec (.transmitComplete k) s = .next t ∧ OthersIdle s t k ∧ { t with ports := s.ports } = s
        ∧ t.port k = ({ s.port k with replies := rest, tx := .free, sent := r.frame } : Port).pump)
    ∧ ((s.port k).tx = .free → exec (.transmitComplete k) s = .next s.pump))
  ∧ (∀ (k : Link) (q w : Queued) (x : Reply) (rest : List Reply) (more : List Queued) (s : State), (s.port k).tx = .reply →
    (s.port k).replies = x :: rest → x.role = .served → (s.port k).queue = q :: w :: more → (s.port k).inBreak = false →
    let v : State := s.modPort k fun p => { p with
      queue := w :: more, frontServed := false, replies := rest, tx := .free, sent := x.frame }
    ∃ (t : State) (a : Answer), exec (.transmitComplete k) s = .next t
      ∧ (t.port k).queue = w :: more ∧ (t.port k).frontServed = true ∧ (t.port k).sent = x.frame ∧ (t.port k).tx = .reply
      ∧ (t.port k).replies = rest ++ [{ role := .served, kind := w.kind, tag := w.tag, answer := a }]
      ∧ (w.kind < 1 ∨ 60 < w.kind → a = .refused .unknown ∧ SameInside t s)
      ∧ (1 ≤ w.kind → w.kind ≤ 60 → admits k w.kind = false → a = .refused .rights ∧ SameInside t s)
      ∧ (1 ≤ w.kind → w.kind ≤ 60 → admits k w.kind = true → w.request = none → a = .refused .range ∧ SameInside t s)
      ∧ (∀ r, 1 ≤ w.kind → w.kind ≤ 60 → admits k w.kind = true → w.request = some r →
          a = (handle k r v).2 ∧ SameInside t (finishRequest r (handle k r v).1)))

/-- R191, R143: a link reset, by a break or by a link-reset request, empties the link's queues and its reply line and turns every
class on; the bad-frame count stays. The request's reply OK is the first frame sent; in a break nothing is sent. On a reset of
the console link nothing is tied to the link but its copies and claims, and everything else of the part is as it was. A break
that ends lets the link transmit again; with no break its end changes nothing (log 2: the model's choice). The reset clears
the notice queue and the lost flag with the rest, and a frame of type 60 that passes the frame check resets whatever its body
holds. Tied to the service link is continuous scanning (R19); to the desk link a staging load and MOVING groups (R185); to
every link its copies and claims. -/
def Obligations.LinkResets : Prop :=
  (∀ (k : Link) (tag : Tag) (s : State), (s.port k).inBreak = false →
    (∃ t, exec (.linkReset k tag) s = .next t ∧ (t.port k).queue = [] ∧ (t.port k).frontServed = false
      ∧ (t.port k).replies = [⟨.reset, 60, tag, ⟨.ok, []⟩⟩] ∧ (t.port k).tx = .reply
      ∧ (t.port k).mask = BitVec.allOnes 10 ∧ (t.port k).badFrames = (s.port k).badFrames ∧ (t.port k).inBreak = false)
    ∧ (∃ t, exec (.breakBegin k) s = .next t ∧ (t.port k).queue = [] ∧ (t.port k).frontServed = false
      ∧ (t.port k).replies = [] ∧ (t.port k).tx = .free ∧ (t.port k).mask = BitVec.allOnes 10
      ∧ (t.port k).badFrames = (s.port k).badFrames ∧ (t.port k).inBreak = true))
  ∧ (∀ (tag : Tag) (s : State), (s.port .console).inBreak = false →
    ∃ t, exec (.linkReset .console tag) s = .next t
      ∧ t.port .console = { s.port .console with
          queue := [], frontServed := false, replies := [⟨.reset, 60, tag, ⟨.ok, []⟩⟩], notices := []
          mask := BitVec.allOnes 10, lost := false, tx := .reply }
      ∧ (∀ i, t.line i = (s.line i).map fun l => { l with
          copies := { l.copies with console := .none }
          claimTimer := if l.copies.console = .edit then none else l.claimTimer })
      ∧ { t with ports := s.ports, lines := s.lines } = s)
  ∧ (∀ (k : Link) (s : State), ∃ t, exec (.breakEnd k) s = .next t ∧ t.port k = ({ s.port k with inBreak := false } : Port).pump
    ∧ OthersIdle s t k ∧ { t with ports := s.ports } = s)
  ∧ (∀ s : State,
    let forget (k : Link) (l : Line) : Line := { l with
      copies := l.copies.set k .none, claimTimer := if l.copies.get k = .edit then none else l.claimTimer }
    let emptied (w : State) (k : Link) (inBreak : Bool) : Prop :=
      w.port k = { s.port k with
          queue := [], frontServed := false, replies := [], notices := [], mask := BitVec.allOnes 10, lost := false, tx := .free
          inBreak := inBreak }
        ∧ (∀ j, j ≠ k → w.port j = s.port j) ∧ { w with ports := s.ports } = s
    (∀ k : Link, (s.port k).inBreak = false →
      (∀ tag : Tag, ∃ w : State, emptied w k false ∧ exec (.linkReset k tag) s
        = .next (((w.linkTies k).modPort k fun p => { p with
            replies := p.replies ++ [⟨.reset, 60, tag, ⟨.ok, []⟩⟩] }).pump))
      ∧ (∀ (hi lo tag : Byte) (body : List Byte), body.length = 256 * hi.toNat + lo.toNat → body.length ≤ 1024 → tag.toNat ≤ 15 →
        exec (.frameReceived k hi lo 60#8 tag body (~~~ (hi + lo + 60#8 + tag + body.foldl (· + ·) 0#8))) s
          = exec (.linkReset k (tag.setWidth 4)) s)
      ∧ (∃ w : State, emptied w k true ∧ exec (.breakBegin k) s = .next (w.linkTies k).pump))
    ∧ (let t := s.linkTies .service
      let off (x : SensingLane) : SensingLane :=
        { x with runMode := .normal, contTimer := none, needs := { x.needs with cont := false } }
      let u := { s with sensing := ⟨off s.sensing.left, off s.sensing.right⟩, lines := s.lines.map (Option.map (forget .service)) }
      (s.head.state ≠ .active ∨ u.headIdles = false → t = u)
      ∧ (s.head.state = .active → u.headIdles = true →
          t = { u with head := { s.head with state := .standby, warmTimer := none } }.broadcast (.headState .standby)))
    ∧ (∃ u : State, s.linkTies .desk = u.finish
        ∧ u.lines = s.lines.map (Option.map (forget .desk))
        ∧ u.staging = none ∧ u.gapTimer = (if s.staging = none then s.gapTimer else none)
        ∧ (∀ g, let r := s.groups.get g
            { u.groups.get g with position := r.position }
              = (if r.state = .moving then { r with state := r.frozenFrom.getD .idle, frozenFrom := none } else r)
            ∧ u.outbound.get g = (if r.state = .moving then none else s.outbound.get g))
        ∧ ((∀ g, (s.groups.get g).state ≠ .moving) →
            (s.staging = none → u = { s with lines := u.lines })
            ∧ ∀ x, s.staging = some x →
              u = { s with lines := u.lines, staging := none, gapTimer := none }.broadcast (.abandoned x.slot x.id .reset))
        ∧ SameInside u { s with
            lines := u.lines, staging := u.staging, gapTimer := u.gapTimer, groups := u.groups, outbound := u.outbound })
    ∧ s.linkTies .console = { s with lines := s.lines.map (Option.map (forget .console)) })

/-- R190: set-mask replaces the mask of the link it arrives on and is answered OK; the notices queued stay queued. A notice that
goes by the masks reaches exactly the links whose mask has its class on; it joins a queue of fewer than 16 with the lost mark
if the flag is set, and a full queue discards it and sets the flag. A notice addressed to a link reaches it whatever the mask. -/
def Obligations.MasksGovernNotices : Prop :=
  (∀ (k : Link) (tag : Tag) (m : BitVec 10) (s : State), LinkIdle s k →
    ∃ t, exec (.setMask k tag m) s = .next t ∧ Replied t k tag (.setMask m) (.ok []) ∧ OthersIdle s t k
      ∧ (t.port k).mask = m ∧ (t.port k).notices = (s.port k).notices ∧ (t.port k).lost = (s.port k).lost
      ∧ { t with ports := s.ports } = s)
  ∧ (∀ (n : Notice) (k : Link) (s : State),
    let p := s.port k
    let offered : Port :=
      if p.notices.length < 16 then { p with notices := p.notices ++ [⟨p.lost, n⟩], lost := false } else { p with lost := true }
    (s.tell k n).port k = offered ∧ (∀ j, j ≠ k → (s.tell k n).port j = s.port j)
      ∧ (s.broadcast n).port k = (if p.mask.getLsbD n.cls.index then offered else p)
      ∧ { s.broadcast n with ports := s.ports } = s ∧ { s.tell k n with ports := s.ports } = s)

/-- R195 and the read rules of each chapter: a read is answered from the state it is served in and changes nothing but its link. -/
def Obligations.ReadsChangeNothing : Prop :=
  ∀ (i : Instr) (k : Link) (tag : Tag) (r : Request) (a : Answer) (s : State), i.request = some (k, tag, r) →
    LinkIdle s k → admits k r.kind = true → readAnswer r (s.queuedUp k tag r) = some a →
    ∃ t, exec i s = .next t ∧ Replied t k tag r a ∧ OthersIdle s t k ∧ { t with ports := s.ports } = s

/-- Every run keeps the bounds and the order of the link ports (R188 to R191). -/
def Obligations.PortsStayInBounds : Prop :=
  ∀ (c : Instr) (s t : State), PortsOk s → exec c s = .next t → PortsOk t

/-! ### Configuration, handicap, time, rates and sessions (chapters 6, 8 and 11) -/

/-- R192, R84: an accepted value replaces the one of its item and no other, leaves every running timer, and the reply carries the
value in force. R193: config-done in UNCONFIGURED with the lane numbers set makes the pair CONFIGURED: the head leaves OFF for
STANDBY, both machines enter STANDBY, and both feeds fill with LANE CLOSED; it is refused CONFIG while the lane numbers are
unset, and in CONFIGURED changes nothing. Items are numbered as log 9 chooses. -/
def Obligations.ConfigurationIsSet : Prop :=
  (∀ (tag : Tag) (item value : Nat) (step : Option Nat) (s : State), LinkIdle s .desk → item ≤ 12 →
    (configRange item).1 ≤ value → value ≤ (configRange item).2 →
    (item = 0 → value % 2 = 1 ∧ s.sessions.left.state = .closed ∧ s.sessions.right.state = .closed) →
    (item = 9 → ∃ k, step.bind stepOf = some k) → (item = 10 → s.ret.rack + s.ret.inLift ≤ value) →
    ∃ u : State, exec (.setConfig .desk tag item value step) s
          = .next (u.answered .desk tag (.setConfig item value step) (.ok (be (configWidth item) value)))
      ∧ (∀ k, (item = 9 → step.bind stepOf = some k) → u.settings.item item k = some value)
      ∧ (∀ j k, j ≠ item ∨ (item = 9 ∧ step.bind stepOf ≠ some k) → u.settings.item j k = s.settings.item j k)
      ∧ { u with settings := s.settings, ports := s.ports, feeds := s.feeds } = s)
  ∧ (∀ (tag : Tag) (s : State), LinkIdle s .desk → s.settings.laneNumber ≠ none → s.configured = false → s.head.state = .off →
    (∀ l, (s.psc.get l).state = .off ∧ (s.sessions.get l).state = .closed ∧ (s.feeds.get l).banner = .none
      ∧ (s.sensing.get l).needs = ⟨false, none, false⟩) →
    ∃ t, exec (.configDone .desk tag) s = .next t ∧ Replied t .desk tag .configDone (.ok [])
      ∧ (∀ l, (t.feeds.get l).banner = .laneClosed ∧ (t.feeds.get l).pointer = 0
          ∧ (t.feeds.get l).lower = List.replicate 32 ⟨.normal, .banner .laneClosed (s.laneNumber l)⟩
          ∧ (t.feeds.get l).upper = List.replicate 32 ⟨.normal, .banner .laneClosed (s.laneNumber l)⟩)
      ∧ SameInside t { s with
          configured := true, head := { s.head with state := .standby, warmTimer := none }
          psc := ⟨s.psc.left.enter .standby none, s.psc.right.enter .standby none⟩ })
  ∧ (∀ (tag : Tag) (s : State), LinkIdle s .desk →
    (s.settings.laneNumber = none → ∃ t, exec (.configDone .desk tag) s = .next t
      ∧ Replied t .desk tag .configDone (.refused .config) ∧ SameInside t s)
    ∧ (s.settings.laneNumber ≠ none → s.configured = true → ∃ t, exec (.configDone .desk tag) s = .next t
      ∧ Replied t .desk tag .configDone (.ok []) ∧ SameInside t s))

/-- R117, the whole rule: the handicap by mode and average, its bound, and that every computation of a line forms it. -/
def Obligations.HandicapByMode : Prop :=
  ∀ p : HandicapParams,
    (∀ a, p.basis ≤ a → handicapFigure p .computed (some a) = 0)
    ∧ (∀ a, a < p.basis → handicapFigure p .computed (some a) = min ((p.basis - a) * p.percent / 100) p.cap)
    ∧ handicapFigure p .computed none = p.noAverage
    ∧ (∀ v a, handicapFigure p (.fixed v) a = v) ∧ (∀ a, handicapFigure p .noHandicap a = 0)
    ∧ (p.cap ≤ 255 → p.noAverage ≤ 255 → ∀ m a, (∀ v, m = .fixed v → v ≤ 255) → handicapFigure p m a ≤ 255)
    ∧ ∀ l : Line, (computeLine p l).handicap = handicapFigure p l.mode l.average

/-- R118: new handicap parameters replace all four, and every line in use is computed again and advances its version once, with
its COPY holders dropped (R127); nothing else changes but totals. -/
def Obligations.SetHandicapRecomputesLines : Prop :=
  ∀ (tag : Tag) (basis percent cap noAverage : Nat) (s : State), LinkIdle s .desk → basis ≤ 300 → percent ≤ 100 → cap ≤ 255 →
    noAverage ≤ 255 → s.dirty = 0#16 → s.handicap ≠ ⟨basis, percent, cap, noAverage⟩ →
    ∃ t, exec (.setHandicap .desk tag basis percent cap noAverage) s = .next t
      ∧ Replied t .desk tag (.setHandicap basis percent cap noAverage) (.ok [])
      ∧ t.handicap = ⟨basis, percent, cap, noAverage⟩
      ∧ (∀ i, t.line i = (s.line i).map fun l => { computeLine t.handicap l with
          version := wrapInc l.version
          copies := ⟨copyAfter false l.copies.desk, copyAfter false l.copies.service, copyAfter false l.copies.console⟩ })
      ∧ (∀ g, { t.groups.get g with
          runningTotal := (s.groups.get g).runningTotal, groupTotal := (s.groups.get g).groupTotal } = s.groups.get g)
      ∧ { t with handicap := s.handicap, lines := s.lines, groups := s.groups, ports := s.ports, feeds := s.feeds } = s

/-- R152, R161: set-time sets the time of day and restarts the minute timer with a full minute, 6000 units of 10 ms; set-rates
replaces the whole table with the bands given, in order of start minute. R149: set-session-flags on a session that is not
CLOSED replaces the five items; on a CLOSED one it is refused STATE. Nothing else changes. -/
def Obligations.TimeRatesAndFlags : Prop :=
  (∀ (tag : Tag) (s : State), LinkIdle s .desk →
    (∀ minute, minute ≤ 1439 → ∃ t, exec (.setTime .desk tag minute) s = .next t ∧ Replied t .desk tag (.setTime minute) (.ok [])
      ∧ OthersIdle s t .desk ∧ SameInside t { s with timeOfDay := some minute, minuteTimer := some 6000 })
    ∧ (∀ minute, 1439 < minute → ∃ t, exec (.setTime .desk tag minute) s = .next t
      ∧ Replied t .desk tag (.setTime minute) (.refused .range) ∧ OthersIdle s t .desk ∧ SameInside t s)
    ∧ (∀ bands : List Band, 1 ≤ bands.length → bands.length ≤ 8 →
      (∀ b ∈ bands, b.start ≤ 1439 ∧ b.price ≤ 65535 ∧ b.hourly ≤ 65535) → (bands.map (·.start)).Nodup →
      ∃ t, exec (.setRates .desk tag bands) s = .next t ∧ Replied t .desk tag (.setRates bands) (.ok [])
        ∧ OthersIdle s t .desk ∧ t.rates.Perm bands ∧ t.rates.Pairwise (fun b c => b.start < c.start)
        ∧ SameInside t { s with rates := t.rates })
    ∧ (∀ bands : List Band, ¬ (1 ≤ bands.length ∧ bands.length ≤ 8
        ∧ (∀ b ∈ bands, b.start ≤ 1439 ∧ b.price ≤ 65535 ∧ b.hourly ≤ 65535) ∧ (bands.map (·.start)).Nodup) →
      ∃ t, exec (.setRates .desk tag bands) s = .next t ∧ Replied t .desk tag (.setRates bands) (.refused .range)
        ∧ OthersIdle s t .desk ∧ SameInside t s))
  ∧ (∀ (tag : Tag) (lane : Nat) (league autoNext foulDetect meterDisplay : Bool) (overflow : Nat) (l : Lane) (o : OverflowMode)
    (s : State), LinkIdle s .desk → laneOf lane = some l → overflowOf overflow = some o →
    let r := Request.setSessionFlags lane league autoNext foulDetect meterDisplay overflow
    ((s.sessions.get l).state ≠ .closed →
      ∃ t, exec (.setSessionFlags .desk tag lane league autoNext foulDetect meterDisplay overflow) s = .next t
        ∧ Replied t .desk tag r (.ok [])
        ∧ SameInside t { s with sessions := s.sessions.set l { s.sessions.get l with
            league := league, autoNext := autoNext, foulDetect := foulDetect, meterDisplay := meterDisplay, overflow := o } })
    ∧ ((s.sessions.get l).state = .closed →
      ∃ t, exec (.setSessionFlags .desk tag lane league autoNext foulDetect meterDisplay overflow) s = .next t
        ∧ Replied t .desk tag r (.refused .state) ∧ SameInside t s))

/-- R146: an accepted open-session sets the whole session record and leaves CLOSED for OPENING; the lane's machine leaves STANDBY
for STARTING with its start timer (R49). R147: an OPENING session becomes OPEN when its machine enters READY, and PAUSED at
once while the return is in FAULT (R148). The allowance items that the opened mode does not use keep their values (log 43: the
model's choice). -/
def Obligations.OpenSessionOpens : Prop :=
  (∀ (tag : Tag) (lane mode : Nat) (league autoNext foulDetect meterDisplay : Bool) (overflow allowance : Nat) (l : Lane)
    (m : BillingMode) (o : OverflowMode) (s : State), LinkIdle s .desk → laneOf lane = some l → billingOf mode = some m →
    overflowOf overflow = some o → (m = .timed → allowance ≤ 1440) → (m = .prepaidGames → allowance ≤ 999) →
    s.configured = true → (s.sessions.get l).state = .closed → s.coversTen l = true →
    (m = .timed → s.timeOfDay ≠ none) → (m ≠ .prepaidGames → s.rates ≠ []) →
    let x := s.sessions.get l
    let opened : Session :=
      { state := .opening, pausedFrom := none, mode := m
        prepaidGames := if m = .prepaidGames then allowance else x.prepaidGames
        gamesGranted := if m = .prepaidGames then allowance else x.gamesGranted
        minuteAllowance := if m = .timed then decide (0 < allowance) else x.minuteAllowance
        prepaidMinutes := if m = .timed then allowance else x.prepaidMinutes
        league := league, autoNext := autoNext, foulDetect := foulDetect, meterDisplay := meterDisplay, overflow := o
        meter := { games := 0, minutes := 0, cents := 0, fraction := 0, saturated := false }, openTime := s.timeOfDay }
    let p := s.psc.get l
    ∃ u : State, exec (.openSession .desk tag lane mode league autoNext foulDetect meterDisplay overflow allowance) s
          = .next (u.answered .desk tag
              (.openSession lane mode league autoNext foulDetect meterDisplay overflow allowance) (.ok []))
      ∧ SameInside u { s with
          sessions := s.sessions.set l opened
          psc := if p.state = .standby then
              s.psc.set l { p with
                state := .starting, cause := none, startTimer := some (100 * s.settings.startTime), stepTimer := none }
            else s.psc })
  ∧ (∀ (s : State) (l : Lane), (s.psc.get l).state ≠ .ready →
    let x := s.sessions.get l
    let t := s.setMachine l .ready
    let stops : Bool := s.ret.state = .fault
    (t.psc.get l).state = .ready ∧ t.sessions.get (otherLane l) = s.sessions.get (otherLane l)
    ∧ (x.state = .opening → t.sessions.get l = { x with
        state := if stops then .paused else .opened, pausedFrom := if stops then some .opened else none })
    ∧ (x.state = .closed ∨ x.state = .locked ∨ x.state = .closing → t.sessions.get l = x))

/-- R156: an accepted unlock changes the billing mode and the allowances, keeps the meter, and the session enters OPEN, or PAUSED
from OPEN where the pause condition holds (R148); a machine in STANDBY starts (R49). An OPEN or OVERTIME session is PAUSED
while the machine is in FAULT or SERVICE or the return in FAULT, and then returns to the state it left. -/
def Obligations.UnlockReopens : Prop :=
  (∀ (tag : Tag) (lane mode allowance : Nat) (l : Lane) (m : BillingMode) (s : State), LinkIdle s .desk → laneOf lane = some l →
    billingOf mode = some m → (s.sessions.get l).state = .locked → (m = .timed → allowance ≤ 1440 ∧ s.timeOfDay ≠ none) →
    (m = .prepaidGames → 1 ≤ allowance ∧ allowance ≤ 999 ∧ (s.sessions.get l).mode = .prepaidGames
      ∧ (s.sessions.get l).prepaidGames + allowance ≤ 999 ∧ (s.sessions.get l).gamesGranted + allowance ≤ 65535) →
    (m ≠ .prepaidGames → s.rates ≠ []) →
    let x := s.sessions.get l
    let p := s.psc.get l
    ∃ u : State, exec (.unlock .desk tag lane mode allowance) s
          = .next (u.answered .desk tag (.unlock lane mode allowance) (.ok []))
      ∧ SameInside u { s with
          sessions := s.sessions.set l { x with
            state := if s.pauseHolds l then .paused else .opened
            pausedFrom := if s.pauseHolds l then some .opened else none
            mode := m
            prepaidGames := if m = .prepaidGames then x.prepaidGames + allowance else x.prepaidGames
            gamesGranted := if m = .prepaidGames then x.gamesGranted + allowance else x.gamesGranted
            minuteAllowance := if m = .timed then decide (0 < allowance) else if m = .perGame then false else x.minuteAllowance
            prepaidMinutes := if m = .timed then allowance else x.prepaidMinutes }
          psc := if p.state = .standby then
              s.psc.set l { p with
                state := .starting, cause := none, startTimer := some (100 * s.settings.startTime), stepTimer := none }
            else s.psc })
  ∧ ((∀ (s : State) (l : Lane),
    let x := s.sessions.get l
    let t := s.pauseEval l
    let holds : Prop := (s.psc.get l).state = .fault ∨ (s.psc.get l).state = .service ∨ s.ret.state = .fault
    let becomes (y : Session) : Prop := SameInside t { s with sessions := s.sessions.set l y }
    (holds → x.state = .opened ∨ x.state = .overtime → becomes { x with state := .paused, pausedFrom := some x.state })
    ∧ (¬ holds → x.state = .paused → ∀ f, x.pausedFrom = some f → becomes { x with state := f, pausedFrom := none })
    ∧ (holds ∧ x.state = .paused ∨ ¬ holds ∧ (x.state = .opened ∨ x.state = .overtime) ∨ x.state = .closed
        ∨ x.state = .opening ∨ x.state = .locked ∨ x.state = .closing → t = s))
  ∧ (∀ (s : State) (l : Lane) (m : MachineState) (cause : Option FaultCause), m = .fault ∨ m = .service →
    (s.psc.get l).state ≠ m → (s.sessions.get l).state = .opened ∨ (s.sessions.get l).state = .overtime →
    (s.setMachine l m cause).sessions
      = s.sessions.set l { s.sessions.get l with state := .paused, pausedFrom := some (s.sessions.get l).state })
  ∧ (∀ (s : State) (cause : ReturnCause) (l : Lane), (s.sessions.get l).state = .opened ∨ (s.sessions.get l).state = .overtime →
    (s.setReturn .fault (some cause)).sessions.get l
      = { s.sessions.get l with state := .paused, pausedFrom := some (s.sessions.get l).state })
  ∧ (∀ (s : State) (l : Lane) (f : SessionState), (s.psc.get l).state ≠ .fault → (s.psc.get l).state ≠ .service →
    (s.sessions.get l).state = .paused → (s.sessions.get l).pausedFrom = some f →
    (s.setReturn .running none).sessions.get l = { s.sessions.get l with state := f, pausedFrom := none }))

/-- R157, R159: a close AFTER_GAME closes at once a session whose home group has no game in progress, with its meter settled, and
makes one with a game CLOSING; the reply carries the state entered (as one byte: log 8, the model's choice). R154, R157: once
no game of the home group is in progress, a session in OVERTIME is LOCKED and one in CLOSING is CLOSED with its meter settled. -/
def Obligations.CloseAfterGame : Prop :=
  (∀ (tag : Tag) (lane : Nat) (l : Lane) (s : State), LinkIdle s .desk → laneOf lane = some l →
    (s.sessions.get l).state ≠ .closed → (s.sessions.get l).meter.cents ≤ 9999999 →
    (∀ g, s.homeGroup (otherLane l) = some g → ¬ ((s.groups.get g).playMode = .cross ∧ (s.groups.get g).inProgress = true)) →
    let x := s.sessions.get l
    ((∀ g, s.homeGroup l = some g → (s.groups.get g).inProgress = false) →
      ∃ u : State, exec (.closeSession .desk tag lane 0) s = .next (u.answered .desk tag (.closeSession lane 0) (.ok (be 1 0)))
        ∧ SameInside u { s with sessions := s.sessions.set l { x with
            state := .closed, pausedFrom := none, meter := settledMeter x.meter } })
    ∧ (∀ g, s.homeGroup l = some g → (s.groups.get g).inProgress = true → x.state ≠ .closing →
      ∃ u : State, exec (.closeSession .desk tag lane 0) s = .next (u.answered .desk tag (.closeSession lane 0) (.ok (be 1 6)))
        ∧ SameInside u { s with sessions := s.sessions.set l { x with state := .closing, pausedFrom := none } }))
  ∧ (∀ (s : State) (l : Lane), (s.sessions.get l).meter.cents ≤ 9999999 →
    let x := s.sessions.get l
    let t := s.sessionFollows l
    let ended : Prop := ∀ g, s.homeGroup l = some g → (s.groups.get g).inProgress = false
    let becomes (y : Session) : Prop := SameInside t { s with sessions := s.sessions.set l y }
    (ended → x.state = .overtime ∨ (x.state = .paused ∧ x.pausedFrom = some .overtime) →
        becomes { x with state := .locked, pausedFrom := none })
    ∧ (ended → x.state = .closing → becomes { x with state := .closed, pausedFrom := none, meter := settledMeter x.meter })
    ∧ (¬ ended ∨ (x.state ≠ .overtime ∧ x.state ≠ .closing ∧ (x.state = .paused → x.pausedFrom ≠ some .overtime)) → t = s))

/-- R158: a close NOW of a lane with no ball in SETTLED and no group concerned (none homed there, and none in CROSS play with a
game in progress homed on the other lane): the PDU drops its run, the machine acts under R62, and the session closes with its
meter settled, which the reply carries. A closing rack is owed when a recipe is in hand (log 30: the model's choice). R41,
R101: the close ends the run of the lane, then the game of the group homed there, which keeps its position (log 13: the
model's choice), and turns a CROSS group homed on the other lane to OPEN play; then the machine and the session follow. The
other lane's machine starts only for a new occupant with a game, a group that takes a released lane as its waiter is PLAYING,
and nothing else changes. -/
def Obligations.CloseNowSettlesTheMeter : Prop :=
  (∀ (tag : Tag) (lane : Nat) (l : Lane) (s : State), LinkIdle s .desk → laneOf lane = some l →
    (s.sessions.get l).state ≠ .closed → (s.sessions.get l).meter.cents ≤ 9999999 → (s.pdu.get l).run = .idle →
    s.homeGroup l = none →
    (∀ g, s.homeGroup (otherLane l) = some g → ¬ ((s.groups.get g).playMode = .cross ∧ (s.groups.get g).inProgress = true)) →
    (∀ g, (s.groups.get g).state ≠ .playing) →
    let x := s.sessions.get l
    let m := settledMeter x.meter
    let p := s.psc.get l
    ∃ u : State, exec (.closeSession .desk tag lane 1) s = .next (u.answered .desk tag (.closeSession lane 1)
            (.ok (be 2 m.games ++ be 2 m.minutes ++ be 3 m.cents ++ yesNo m.saturated)))
      ∧ u.sessions.get l = { x with state := .closed, pausedFrom := none, meter := m }
      ∧ (p.state = .ready ∨ p.state = .inPlay → (u.psc.get l).state = .cycling
          ∧ (u.psc.get l).recipe = some ⟨.full, .known allPins, .close⟩ ∧ (u.psc.get l).step = some .guardDown)
      ∧ (p.state = .cycling ∨ p.state = .heldPit ∨ p.state = .checking → p.recipe ≠ none →
          u.psc.get l = { p with closingOwed := true })
      ∧ (p.state = .starting → (u.psc.get l).state = .standby)
      ∧ (p.state = .off ∨ p.state = .standby ∨ p.state = .fault ∨ p.state = .service → u.psc.get l = p)
      ∧ SameInside u { s with sessions := s.sessions.set l (u.sessions.get l), psc := s.psc.set l (u.psc.get l) })
  ∧ (∀ (tag : Tag) (lane : Nat) (l : Lane) (s : State), LinkIdle s .desk → laneOf lane = some l →
    (s.sessions.get l).state ≠ .closed →
    let p := s.pdu.get l
    let other := otherLane l
    let dropped (record : Option BallRecord) : State := { s with
      pdu := s.pdu.set l { p with
        run := .idle, binding := none, foulOpen := false, foulFlag := false, lastSet := none, record := record
        pinTimer := none, scanTimer := none, windowTimer := none, graceTimer := none, cycleTimer := none }
      sensing := s.sensing.set l { s.sensing.get l with needs := { (s.sensing.get l).needs with run := false } } }
    let closes (v : State) : Prop :=
      let x := v.sessions.get l
      let m := settledMeter x.meter
      let q := v.psc.get l
      let ends (g : Slot) : Bool := (v.groups.get g).inProgress || (v.groups.get g).isFrozen
      let release (g : Slot) (a : LaneRecord) : LaneRecord :=
        if a.occupant = some g then ⟨a.waiter, none⟩ else if a.waiter = some g then { a with waiter := none } else a
      let after (j : Lane) : LaneRecord := match v.homeGroup l with
        | some g => if ends g then release g (v.lanes.get j) else v.lanes.get j
        | none => v.lanes.get j
      let turns (h : Slot) : Prop := v.homeGroup other = some h ∧ (v.groups.get h).playMode = .cross
        ∧ (v.groups.get h).inProgress = true
      let crosses (h : Slot) : Prop := (v.groups.get h).home = other ∧ (v.groups.get h).playMode = .cross
        ∧ (v.groups.get h).inProgress = true
      ∃ u : State, exec (.closeSession .desk tag lane 1) s = .next (u.answered .desk tag (.closeSession lane 1)
              (.ok (be 2 m.games ++ be 2 m.minutes ++ be 3 m.cents ++ yesNo m.saturated)))
        ∧ u.sessions.get l = { x with state := .closed, pausedFrom := none, meter := m }
        ∧ (q.state = .ready ∨ q.state = .inPlay →
            u.psc.get l = q.takes ⟨.full, .known allPins, .close⟩ .cycling v.settings.stepTimeouts.guardDown)
        ∧ (q.state = .cycling ∨ q.state = .heldPit ∨ q.state = .checking →
            u.psc.get l = { q with closingOwed := q.recipe.isSome })
        ∧ (q.state = .starting ∨ q.state = .standby → (u.psc.get l).state = .standby)
        ∧ (q.state = .off ∨ q.state = .fault ∨ q.state = .service → u.psc.get l = q)
        ∧ (∀ g, v.homeGroup l = some g →
            (ends g = true → u.groups.get g = { v.groups.get g with state := .idle, inProgress := false, frozenFrom := none }
              ∧ u.outbound = v.outbound.set g none)
            ∧ (ends g = false → (v.groups.get g).state ≠ .playing → (∀ j, (v.lanes.get j).waiter ≠ some g) →
                u.groups.get g = v.groups.get g))
        ∧ ((∀ g, v.homeGroup l = some g → ends g = false) → u.outbound = v.outbound)
        ∧ (∀ h, turns h →
            let o := v.groups.get h
            let away : LaneRecord := release h (after other)
            { u.groups.get h with state := o.state, frozenFrom := o.frozenFrom, position := o.position }
                = { o with playMode := .openPlay }
            ∧ ((after other).occupant = some h → ∀ j, u.lanes.get j = after j)
            ∧ ((after other).occupant ≠ some h →
                u.lanes.get other = (if away.occupant = none then { away with occupant := some h }
                  else { away with waiter := some h })
                ∧ u.lanes.get l = release h (after l)
                ∧ (o.isFrozen = false → (u.groups.get h).state = (if away.occupant = none then .playing else .waiting))))
        ∧ ((∀ h, ¬ crosses h) → ∀ j, u.lanes.get j = after j)
        ∧ (∀ h, turns h → (after other).occupant ≠ some h → (v.groups.get h).isFrozen = true →
            (u.groups.get h).state = (v.groups.get h).state
            ∧ (u.groups.get h).frozenFrom = some (if (release h (after other)).occupant = none then .playing else .waiting))
        ∧ (∀ j : Slot,
            let o := v.groups.get j
            let w := u.groups.get j
            let took : Prop := ∃ m, (v.lanes.get m).waiter = some j ∧ (v.lanes.get m).occupant ≠ some j
              ∧ (u.lanes.get m).occupant = some j
            let ended : Prop := v.homeGroup l = some j ∧ ends j = true
            w.position = (if w.state = .playing then (u.upLine w).bind (positionIn w.order) else o.position)
            ∧ (¬ crosses j → w.playMode = o.playMode)
            ∧ (¬ ended → { w with playMode := o.playMode, state := o.state, frozenFrom := o.frozenFrom, position := o.position } = o)
            ∧ (¬ ended → ¬ (crosses j ∧ (after other).occupant ≠ some j) →
                (¬ took → w.state = o.state ∧ w.frozenFrom = o.frozenFrom)
                ∧ (took → o.isFrozen = false → w.state = .playing ∧ w.frozenFrom = o.frozenFrom)
                ∧ (took → o.isFrozen = true → w.state = o.state ∧ w.frozenFrom = some .playing)))
        ∧ (let a := v.psc.get other
            let y := v.sessions.get other
            let starts : Prop := a.state = .standby ∧ y.state ≠ .closed
              ∧ (v.lanes.get other).occupant ≠ (u.lanes.get other).occupant
              ∧ ∃ g, (u.lanes.get other).occupant = some g ∧ (u.groups.get g).inProgress = true
            (¬ starts → u.psc.get other = a ∧ u.sessions.get other = y)
            ∧ (starts → u.psc.get other = { a with
                state := .starting, cause := none, startTimer := some (100 * v.settings.startTime), stepTimer := none })
            ∧ (starts → y.state = .locked ∨ y.state = .closing ∨ y.state = .opening
                ∨ (y.state = .paused ∧ v.ret.state = .fault)
                ∨ ((y.state = .opened ∨ y.state = .overtime) ∧ v.ret.state ≠ .fault) → u.sessions.get other = y))
        ∧ SameInside u { v with
            sessions := u.sessions, psc := u.psc, groups := u.groups, lanes := u.lanes, outbound := u.outbound }
    (p.run = .idle → closes s)
    ∧ (p.run = .armed ∨ p.run = .delay ∨ p.run = .settling ∨ p.run = .awaitingEntry ∨ p.run = .final →
        closes (dropped (match p.record with
          | some b => if b.state = .provisional then none else some b
          | none => none)))
    ∧ (p.run = .settled → ∀ old, p.record = some old →
        let r : BallRecord := { old with state := .final }
        ∃ v w : State, v = w.advanceFor r ∧ SameInside w ((dropped (some r)).withLines (s.placeBall r)) ∧ closes v))

/-- R152, R153, R154, R151: a tick advances the time of day, restarts the minute timer, and meters each lane that is TIMED in OPEN
or OVERTIME, and no other: against its prepaid minutes while it has them, and else at the hourly rate of the band in force at
the minute just ended. Cents reach their limit when the sum would pass 9,999,999 (log 23: the model's choice). -/
def Obligations.MinuteTickMeters : Prop :=
  ∀ (s : State) (minute : Nat) (b : Band), s.minuteTimer ≠ none → s.timeOfDay = some minute → minute ≤ 1439 →
    s.rates.Pairwise (fun b c => b.start < c.start) → BandInForce s.rates minute b →
    (∀ l, (s.sessions.get l).meter.minutes ≤ 65535 ∧ (s.sessions.get l).meter.cents ≤ 9999999) →
    ∃ u : State, exec .minuteTimerExpiry s = .next u.finish.pump
      ∧ SameInside u { s with
          timeOfDay := some (if minute = 1439 then 0 else minute + 1), minuteTimer := some 6000, sessions := u.sessions }
      ∧ ∀ l, let x := s.sessions.get l
          let m := x.meter
          let metered := x.mode = .timed ∧ (x.state = .opened ∨ x.state = .overtime)
          let sum := m.fraction + b.hourly
          let past := 9999999 < m.cents + sum / 60
          (¬ metered → u.sessions.get l = x)
          ∧ (metered → x.minuteAllowance = true → 1 < x.prepaidMinutes →
              u.sessions.get l = { x with
                prepaidMinutes := x.prepaidMinutes - 1, meter := { m with minutes := min 65535 (m.minutes + 1) } })
          ∧ (metered → x.minuteAllowance = true → x.prepaidMinutes = 1 → s.pauseHolds l = false →
              u.sessions.get l = { x with
                state := if s.homeGameOn l then .overtime else .locked, pausedFrom := none, minuteAllowance := false
                prepaidMinutes := 0, meter := { m with minutes := min 65535 (m.minutes + 1) } })
          ∧ (metered → x.minuteAllowance = false →
              u.sessions.get l = { x with
                state := if past ∧ x.overflow = .holdAndLock then .locked else x.state
                pausedFrom := if past ∧ x.overflow = .holdAndLock then none else x.pausedFrom
                meter := { games := m.games, minutes := min 65535 (m.minutes + 1)
                           cents := min 9999999 (m.cents + sum / 60), fraction := sum % 60
                           saturated := m.saturated || decide past } })

/-! ### Groups and lanes (chapter 5) -/

/-- R89: an accepted create-group makes an IDLE group in OPEN play whose bowlers take the lowest free line ids in the order given,
each line ACTIVE, with version 1 and no copy; the reply carries the ids. R90, R128: a dismissed group leaves an EMPTY slot;
its lines are removed and forgotten, and their pending entries are voided. The other group is left as it is, but for its
current position, which follows its up line again. The reply lists the ids after their count (log 8: the model's choice). -/
def Obligations.GroupsAreMadeAndDismissed : Prop :=
  (∀ (k : Link) (tag : Tag) (slot : Nat) (name : Name) (lane : Nat) (bowlers : List BowlerSpec) (g : Slot) (l : Lane) (s : State),
    LinkIdle s k → k = .desk ∨ k = .console → slotOf slot = some g → laneOf lane = some l → 1 ≤ name.length →
    name.length ≤ 12 → 1 ≤ bowlers.length → bowlers.length ≤ 8 →
    (∀ b ∈ bowlers, 1 ≤ b.name.length ∧ b.name.length ≤ 12 ∧ (∀ a, b.average = some a → a ≤ 300)
      ∧ ∃ m, handicapOf b.mode b.fixed = some m) →
    (s.groups.get g).state = .empty →
    ((s.groups.get (otherSlot g)).state = .empty ∨ (s.groups.get (otherSlot g)).home ≠ l) →
    (s.sessions.get l).state ≠ .closed → (s.sessions.get l).state ≠ .closing →
    let free := lineIds.filter fun i => (s.line i).isNone
    let ids := free.take bowlers.length
    bowlers.length ≤ free.length →
    ∃ t, exec (.createGroup k tag slot name lane bowlers) s = .next t
      ∧ Replied t k tag (.createGroup slot name lane bowlers) (.ok (listed lineField ids))
      ∧ t.groups.get g = { state := .idle, name := name, home := l, playMode := .openPlay, order := ids, game := none
                           inProgress := false, frame := 1, position := none, frozenFrom := none, runningTotal := none
                           groupTotal := none }
      ∧ { t.groups.get (otherSlot g) with position := (s.groups.get (otherSlot g)).position } = s.groups.get (otherSlot g)
      ∧ ids.map t.line = bowlers.map (fun b =>
          let m := (handicapOf b.mode b.fixed).getD .noHandicap
          some { group := g, name := b.name, average := b.average, mode := m, status := .active, frames := [], games := []
                 handicap := handicapFigure s.handicap m b.average, scratch := none, gameTotal := none, version := 1
                 copies := ⟨.none, .none, .none⟩, claimTimer := none })
      ∧ (∀ i, i ∉ ids → t.line i = s.line i)
      ∧ SameInside t { s with groups := t.groups, lines := t.lines })
  ∧ (∀ (tag : Tag) (slot : Nat) (g : Slot) (s : State), LinkIdle s .desk → slotOf slot = some g →
    let r := s.groups.get g
    (r.state = .idle → ∃ t, exec (.dismissGroup .desk tag slot) s = .next t ∧ Replied t .desk tag (.dismissGroup slot) (.ok [])
      ∧ (t.groups.get g).state = .empty ∧ (t.groups.get g).order = []
      ∧ { t.groups.get (otherSlot g) with position := (s.groups.get (otherSlot g)).position } = s.groups.get (otherSlot g)
      ∧ (∀ i, t.line i = if i ∈ r.order then none else s.line i)
      ∧ t.corrections = s.corrections.filter (fun e => !(r.order.contains e.line && (s.line e.line).isSome))
      ∧ SameInside t { s with groups := t.groups, lines := t.lines, corrections := t.corrections })
    ∧ (r.state ≠ .idle → ∃ t, exec (.dismissGroup .desk tag slot) s = .next t
        ∧ Replied t .desk tag (.dismissGroup slot) (.refused .state) ∧ SameInside t s))

/-- R91: add-bowler appends a line at the end of the order; in PLAYING at frame k the line holds frames 1 to k - 1, each missed
and empty, and in IDLE no frame. R100: the play mode of an IDLE group changes, to CROSS only while both sessions are OPEN or
OVERTIME in a league; a mode already in force is answered OK. A group that is not IDLE is refused STATE even for the mode
already in force (log 34: the model's choice). Of the other slot's group only the current position may change. -/
def Obligations.GroupsChange : Prop :=
  (∀ (k : Link) (tag : Tag) (slot : Nat) (b : BowlerSpec) (g : Slot) (i : LineId) (m : HandicapMode) (s : State),
    LinkIdle s k → k = .desk ∨ k = .console → slotOf slot = some g → 1 ≤ b.name.length → b.name.length ≤ 12 →
    (∀ a, b.average = some a → a ≤ 300) → handicapOf b.mode b.fixed = some m →
    (s.groups.get g).state = .idle ∨ (s.groups.get g).state = .playing → (s.groups.get g).order.length < 8 →
    (lineIds.find? fun i => (s.line i).isNone) = some i →
    let r := s.groups.get g
    ∃ u : State, exec (.addBowler k tag slot b) s = .next (u.answered k tag (.addBowler slot b) (.ok (lineField i)))
      ∧ (u.groups.get g).order = r.order ++ [i]
      ∧ { u.groups.get g with
          order := r.order, position := r.position, runningTotal := r.runningTotal, groupTotal := r.groupTotal } = r
      ∧ (∃ l, u.line i = some l ∧ l.group = g ∧ l.name = b.name ∧ l.average = b.average ∧ l.mode = m ∧ l.status = .active
          ∧ l.version = 1 ∧ l.games = [] ∧ l.copies = ⟨.none, .none, .none⟩
          ∧ l.frames.map (fun f => (f.number, f.missed, f.balls))
            = if r.state = .playing then (List.range (r.frame - 1)).map (fun n => (n + 1, true, [])) else [])
      ∧ (∀ j, j ≠ i → u.line j = s.line j)
      ∧ { u.groups.get (otherSlot g) with position := (s.groups.get (otherSlot g)).position } = s.groups.get (otherSlot g)
      ∧ SameInside u { s with groups := u.groups, lines := u.lines })
  ∧ (∀ (k : Link) (tag : Tag) (slot mode : Nat) (g : Slot) (m : PlayMode) (s : State), LinkIdle s k → k = .desk ∨ k = .console →
    slotOf slot = some g → playModeOf mode = some m →
    let r := s.groups.get g
    let open2 := ∀ l, ((s.sessions.get l).state = .opened ∨ (s.sessions.get l).state = .overtime)
      ∧ (s.sessions.get l).league = true
    (r.state = .idle → r.playMode = m ∨ m = .openPlay ∨ open2 →
      ∃ t, exec (.setPlayMode k tag slot mode) s = .next t ∧ Replied t k tag (.setPlayMode slot mode) (.ok [])
        ∧ t.groups.get g = { r with playMode := m }
        ∧ { t.groups.get (otherSlot g) with position := (s.groups.get (otherSlot g)).position } = s.groups.get (otherSlot g)
        ∧ SameInside t { s with groups := t.groups })
    ∧ (r.state ≠ .idle ∨ (r.playMode ≠ m ∧ m = .cross ∧ ¬ open2) →
      ∃ t, exec (.setPlayMode k tag slot mode) s = .next t ∧ Replied t k tag (.setPlayMode slot mode) (.refused .state)
        ∧ SameInside t s))

/-- R150, R151: what the BMU of a lane decides for a game of n bowlers, with the price of the band in force, and what it changes:
the lane's session record and nothing else. Cents reach their limit when the sum would pass 9,999,999 (log 23: the model's
choice). The standby condition of a machine whose session locks here is judged at the end of the event (log 52: the model's
choice). -/
def Obligations.GamePermission : Prop :=
  ∀ (s : State) (l : Lane) (n : Nat) (b : Band),
    let x := s.sessions.get l
    let m := x.meter
    let past := 9999999 < m.cents + n * b.price
    let lock := past ∧ x.overflow = .holdAndLock
    let changed (t : State) (y : Session) : Prop := SameInside t { s with sessions := s.sessions.set l y }
    m.games ≤ 65535 → m.cents ≤ 9999999 → s.bandNow = some b →
    (x.state ≠ .opened → s.permitGame l n = (s, some .state))
    ∧ (x.state = .opened → x.mode = .prepaidGames → x.prepaidGames < n →
        (s.permitGame l n).2 = some .full ∧ changed (s.permitGame l n).1 { x with state := .locked, pausedFrom := none })
    ∧ (x.state = .opened → x.mode = .prepaidGames → n ≤ x.prepaidGames →
        (s.permitGame l n).2 = none ∧ changed (s.permitGame l n).1 { x with
          prepaidGames := x.prepaidGames - n, meter := { m with games := min 65535 (m.games + n) } })
    ∧ (x.state = .opened → x.mode = .timed →
        (s.permitGame l n).2 = none ∧ changed (s.permitGame l n).1 { x with meter := { m with games := min 65535 (m.games + n) } })
    ∧ (x.state = .opened → x.mode = .perGame →
        (s.permitGame l n).2 = none ∧ changed (s.permitGame l n).1 { x with
          state := if lock then .locked else .opened, pausedFrom := if lock then none else x.pausedFrom
          meter := { m with
            games := min 65535 (m.games + n), cents := min 9999999 (m.cents + n * b.price)
            saturated := m.saturated || decide past } })

/-- R103: a permitted new game of an IDLE group: the game number advances, wrapping from 255 to 1, every line of the group has its
frames emptied, pending entries on them are voided, and the group takes its home lane or waits for it; the reply carries the
number and the state entered. -/
def Obligations.NewGameStarts : Prop :=
  ∀ (k : Link) (tag : Tag) (slot : Nat) (g : Slot) (s v : State), LinkIdle s k → k = .desk ∨ k = .console →
    slotOf slot = some g → (s.groups.get g).state = .idle →
    (∃ i ∈ (s.groups.get g).order, ∃ l, s.line i = some l ∧ l.status = .active) →
    ((s.groups.get g).playMode = .cross → ∀ l, ((s.sessions.get l).state = .opened ∨ (s.sessions.get l).state = .overtime)
      ∧ (s.sessions.get l).league = true) →
    (s.queuedUp k tag (.newGame slot)).permitGame (s.groups.get g).home (s.activeLines g) = (v, none) →
    let r := s.groups.get g
    let game := match r.game with
      | none => 1
      | some n => if n < 255 then n + 1 else 1
    let free := (s.lanes.get r.home).occupant = none
    ∃ u : State, exec (.newGame k tag slot) s
          = .next (u.answered k tag (.newGame slot) (.ok (be 1 game ++ be 1 (if free then 2 else 3))))
      ∧ (u.groups.get g).state = (if free then .playing else .waiting) ∧ (u.groups.get g).game = some game
      ∧ (u.groups.get g).inProgress = true ∧ (u.groups.get g).frame = 1 ∧ (u.groups.get g).order = r.order
      ∧ u.lanes.get r.home = (if free then { s.lanes.get r.home with occupant := some g }
          else { s.lanes.get r.home with waiter := some g })
      ∧ u.lanes.get (otherLane r.home) = s.lanes.get (otherLane r.home)
      ∧ (∀ i ∈ r.order, ∀ l, s.line i = some l → u.line i = some (computeLine s.handicap { l with frames := [] }))
      ∧ (∀ i, i ∉ r.order → u.line i = s.line i)
      ∧ u.corrections = s.corrections.filter (fun e => !r.order.contains e.line)
      ∧ (u.sessions.get r.home).meter = (v.sessions.get r.home).meter
      ∧ (u.sessions.get r.home).prepaidGames = (v.sessions.get r.home).prepaidGames

/-- R99: a hand-off. The group releases the lane it occupies, and the lane's waiter takes it; then it asks for the lane it needs,
and is PLAYING there when the lane is free, and its waiter otherwise. A frozen group keeps its state and takes the new one as
its frozen-from. R105: move-group changes the group's home lane; a group with a game in progress leaves the lane it held and
bowls on the target lane. R94, R95, R97, R98, R102: the turn, the frame in progress and the game end. The current position
follows the up line in PLAYING and is kept in another state (log 13: the model's choice). R104: the auto-next start after a
game end, or its refusal. -/
def Obligations.LanesAreHandedOff : Prop :=
  (∀ (s : State) (g : Slot) (a b : Lane), a ≠ b → (s.lanes.get a).occupant = some g →
    (s.lanes.get a).waiter ≠ some g → (s.lanes.get b).occupant ≠ some g → (s.lanes.get b).waiter ≠ some g →
    let t := s.handOff g b
    let after (r : Group) (state : GroupState) : Group :=
      if r.state = .moving ∨ r.state = .moved then { r with frozenFrom := some state } else { r with state := state }
    t.lanes.get a = ⟨(s.lanes.get a).waiter, none⟩
    ∧ ((s.lanes.get b).occupant = none → t.lanes.get b = ⟨some g, (s.lanes.get b).waiter⟩
        ∧ t.groups.get g = after (s.groups.get g) .playing)
    ∧ ((s.lanes.get b).occupant ≠ none → t.lanes.get b = ⟨(s.lanes.get b).occupant, some g⟩
        ∧ t.groups.get g = after (s.groups.get g) .waiting)
    ∧ (∀ w, (s.lanes.get a).waiter = some w → t.groups.get w = after (s.groups.get w) .playing)
    ∧ { t with lanes := s.lanes, groups := s.groups } = s)
  ∧ (∀ (tag : Tag) (slot lane : Nat) (g : Slot) (l : Lane) (s : State), LinkIdle s .desk → slotOf slot = some g →
    laneOf lane = some l → (s.groups.get g).state = .idle ∨ (s.groups.get g).state = .playing ∨ (s.groups.get g).state = .waiting →
    (s.groups.get g).playMode = .openPlay → (s.groups.get g).home ≠ l → (s.lanes.get l).occupant = none →
    ((s.groups.get (otherSlot g)).state = .empty ∨ (s.groups.get (otherSlot g)).home ≠ l) → (s.sessions.get l).state = .opened →
    s.ballInPlay (s.groups.get g).home = false →
    let r := s.groups.get g
    ∃ u : State, exec (.moveGroup .desk tag slot lane) s = .next (u.answered .desk tag (.moveGroup slot lane) (.ok []))
      ∧ (u.groups.get g).home = l ∧ (u.groups.get g).order = r.order ∧ (u.groups.get g).frame = r.frame ∧ u.lines = s.lines
      ∧ (r.inProgress = true → (u.lanes.get l).occupant = some g ∧ (u.groups.get g).state = .playing
          ∧ ((s.lanes.get r.home).waiter ≠ some g → (u.lanes.get r.home).occupant ≠ some g))
      ∧ (r.inProgress = false → u.lanes = s.lanes ∧ (u.groups.get g).state = r.state)
      ∧ u.pdu = s.pdu ∧ u.sensing = s.sensing ∧ u.ret = s.ret ∧ u.corrections = s.corrections)
  ∧ ((∀ f : FrameRecord,
    let final := f.balls.filter fun b => b.state = .final
    let strike (b : BallRecord) : Prop := b.count = 10 ∧ b.foul = false
    (f.missed = true → frameComplete f = true)
    ∧ (f.missed = false → f.number < 10 → (frameComplete f = true ↔
        ∃ b1 rest, final = b1 :: rest ∧ (strike b1 ∨ rest ≠ [])))
    ∧ (f.missed = false → f.number = 10 → (frameComplete f = true ↔
        ∃ b1 b2 rest, final = b1 :: b2 :: rest ∧ (¬ (strike b1 ∨ b1.count + b2.count = 10) ∨ rest ≠ []))))
  ∧ (∀ (s : State) (l : Lane),
    let up (r : Group) (i : LineId) : Prop :=
      let mid (j : LineId) : Prop := ∃ x, s.line j = some x ∧ x.ballsOf r.frame ≠ [] ∧ x.completed r.frame = false
      let due (j : LineId) : Prop := ∃ x, s.line j = some x ∧ x.status = .active ∧ x.completed r.frame = false
      ∃ before after, r.order = before ++ i :: after
        ∧ (mid i ∧ (∀ j ∈ before, ¬ mid j) ∨ due i ∧ (∀ j ∈ r.order, ¬ mid j) ∧ ∀ j ∈ before, ¬ due j)
    (∀ g, (s.lanes.get l).occupant = some g → (s.groups.get g).state = .playing → ∀ i x, s.line i = some x →
      up (s.groups.get g) i → s.upBowler l = some (i, (s.groups.get g).frame, (x.ballsOf (s.groups.get g).frame).length + 1))
    ∧ (∀ i f b, s.upBowler l = some (i, f, b) → ∃ g, (s.lanes.get l).occupant = some g ∧ (s.groups.get g).state = .playing
        ∧ up (s.groups.get g) i))
  ∧ (∀ (s : State) (g : Slot),
    let r := s.groups.get g
    let t := s.advance s g
    let due : Prop := ∃ i ∈ r.order, ∃ x, s.line i = some x ∧ x.status = .active ∧ x.completed r.frame = false
    let active : Prop := ∃ i ∈ r.order, ∃ x, s.line i = some x ∧ x.status = .active
    let placed (x : Group) : Group :=
      if x.state = .playing then { x with position := (s.upLine x).bind (positionIn x.order) } else x
    let lane (k : Nat) : Lane := if r.playMode = .openPlay ∨ k % 2 = 1 then r.home else otherLane r.home
    let on := s.modGroup g fun r => { r with frame := r.frame + 1 }
    (due → (∀ h, t.groups.get h = placed (s.groups.get h)) ∧ SameInside t { s with groups := t.groups })
    ∧ (¬ due → r.frame < 10 → active → lane r.frame = lane (r.frame + 1) →
        (∀ h, t.groups.get h = placed (on.groups.get h)) ∧ SameInside t { s with groups := t.groups })
    ∧ (¬ due → r.frame < 10 → active → lane r.frame ≠ lane (r.frame + 1) →
        let moved := on.handOff g (lane (r.frame + 1))
        t.lanes = moved.lanes ∧ (∀ h, t.groups.get h = placed (moved.groups.get h))
          ∧ SameInside t { s with groups := t.groups, lanes := t.lanes, psc := t.psc, sessions := t.sessions })
    ∧ (¬ due → ¬ (r.frame < 10 ∧ active) → r.order.Nodup →
        let frozen : Prop := r.state = .moving ∨ r.state = .moved
        let x := s.sessions.get r.home
        let n := ((r.order.filterMap s.line).filter fun y => y.status = .active).length
        let checked : Prop := ¬ frozen ∧ active ∧ x.state = .opened ∧ (r.playMode = .cross →
          ∀ l, ((s.sessions.get l).state = .opened ∨ (s.sessions.get l).state = .overtime) ∧ (s.sessions.get l).league = true)
        let short : Prop := x.mode = .prepaidGames ∧ x.prepaidGames < n
        let starts : Prop := x.autoNext = true ∧ checked ∧ ¬ short
        let released (l : Lane) : LaneRecord :=
          let a := s.lanes.get l
          if a.occupant = some g then ⟨a.waiter, none⟩ else if a.waiter = some g then { a with waiter := none } else a
        let ended (y : Line) : Line := if y.frames = [] then y else
          let games := y.games ++ [⟨r.game.getD 0, (y.scratch.map (·.value)).getD 0, y.handicap⟩]
          computeLine s.handicap { y with games := games.drop (games.length - 8) }
        let told (c : Code) : Prop := ∀ k, (s.port k).mask.getLsbD 1 = true → (s.port k).notices.length ≤ 4 →
          ∃ q ∈ (t.port k).notices, q.notice = .groupState g (t.groups.get g) t.lanes.left t.lanes.right (some c)
        (∀ i, i ∉ r.order → t.line i = s.line i)
        ∧ t.pdu = s.pdu ∧ t.sensing = s.sensing ∧ t.ret = s.ret
        ∧ (¬ starts →
            (∀ i ∈ r.order, ∀ y, s.line i = some y → t.line i = some (ended y))
            ∧ { t.groups.get g with runningTotal := r.runningTotal, groupTotal := r.groupTotal } = { r with
                state := if frozen then r.state else .idle, frozenFrom := if frozen then some .idle else r.frozenFrom
                inProgress := false, position := none }
            ∧ (∀ l, t.lanes.get l = released l) ∧ t.corrections = s.corrections
            ∧ (x.autoNext = true → checked → (t.sessions.get r.home).state = .locked ∧ told .full)
            ∧ (x.autoNext = true → ¬ checked → told .state))
        ∧ (starts →
            let game := match r.game with
              | none => 1
              | some n => if n < 255 then n + 1 else 1
            let home := released r.home
            let free : Prop := home.occupant = none
            (∀ i ∈ r.order, ∀ y, s.line i = some y → t.line i = some (computeLine s.handicap { ended y with frames := [] }))
            ∧ { t.groups.get g with runningTotal := r.runningTotal, groupTotal := r.groupTotal, position := none } = { r with
                state := if free then .playing else .waiting, game := some game, inProgress := true, frame := 1, position := none }
            ∧ t.lanes.get r.home = (if free then { home with occupant := some g } else { home with waiter := some g })
            ∧ t.lanes.get (otherLane r.home) = released (otherLane r.home)
            ∧ t.corrections = s.corrections.filter (fun e => !r.order.contains e.line)
            ∧ (t.sessions.get r.home).meter.games = min 65535 (x.meter.games + n)
            ∧ (t.sessions.get r.home).prepaidGames = (if x.mode = .prepaidGames then x.prepaidGames - n else x.prepaidGames)))))

/-! ### Scores (chapter 6) -/

/-- R113: the frame score of frames 1 to 9: an open frame is the sum of its two counts; a spare adds the ball that follows, a
strike the next two; without the balls it needs a frame has no score. R114, R115: a missed frame has score 0, and is resolved
as FINAL. R109, R115, R116, R119 to R121: the figures that the Score Engine works out of a line and of its group. The score
state of a resolved frame; the split flag, the marks, the frame score and the running total of each frame of a line; its
scratch and game totals; the totals of a group; and what a change of a line's contents computes. The 0 of a withdrawn line
without a running total is FINAL (log 41), and a standing set without a pins-up set agrees with no count (log 42): the model's
choices. -/
def Obligations.FrameScoresOneToNine : Prop :=
  (∀ (f : FrameRecord) (after : List BallRecord), f.number < 10 →
    (f.missed = true → frameScore f after = some (0, .final))
    ∧ (f.missed = false → ∀ b1 b2, f.balls = [b1, b2] → ¬ (b1.count = 10 ∧ b1.foul = false) → b1.count + b2.count < 10 →
        (frameScore f after).map (·.1) = some (b1.count + b2.count))
    ∧ (f.missed = false → ∀ b1 b2 n rest, f.balls = [b1, b2] → ¬ (b1.count = 10 ∧ b1.foul = false) →
        b1.count + b2.count = 10 → after = n :: rest → (frameScore f after).map (·.1) = some (10 + n.count))
    ∧ (f.missed = false → ∀ b1 n1 n2 rest, f.balls = [b1] → b1.count = 10 → b1.foul = false → after = n1 :: n2 :: rest →
        (frameScore f after).map (·.1) = some (10 + n1.count + n2.count))
    ∧ (f.missed = false → ∀ b1, f.balls = [b1] → ¬ (b1.count = 10 ∧ b1.foul = false) → frameScore f after = none)
    ∧ (f.missed = false → ∀ b1, f.balls = [b1] → b1.count = 10 → b1.foul = false → after.length < 2 → frameScore f after = none)
    ∧ (f.missed = false → ∀ b1 b2, f.balls = [b1, b2] → ¬ (b1.count = 10 ∧ b1.foul = false) →
        b1.count + b2.count = 10 → after = [] → frameScore f after = none))
  ∧ ((∀ (f : FrameRecord) (after : List BallRecord) (v : Nat) (st : FigureState), frameScore f after = some (v, st) →
    let strike (b : BallRecord) : Prop := b.count = 10 ∧ b.foul = false
    let needs (balls : List BallRecord) : Prop := st = .final ↔ ∀ b ∈ balls, b.state = .final
    (f.missed = true → st = .final)
    ∧ (f.missed = false → ∀ b1 rest, f.balls = b1 :: rest →
        (f.number < 10 → strike b1 → needs ((f.balls ++ after).take 3))
        ∧ ∀ b2 later, rest = b2 :: later →
          (f.number < 10 → ¬ strike b1 → b1.count + b2.count = 10 → needs (b1 :: b2 :: after.take 1))
          ∧ (f.number < 10 → ¬ strike b1 → b1.count + b2.count ≠ 10 → needs [b1, b2])
          ∧ (f.number = 10 → strike b1 ∨ b1.count + b2.count = 10 → needs (b1 :: b2 :: later.take 1))
          ∧ (f.number = 10 → ¬ (strike b1 ∨ b1.count + b2.count = 10) → needs [b1, b2])))
  ∧ (∀ (p : HandicapParams) (l : Line),
    let c := computeLine p l
    c.frames.length = l.frames.length
    ∧ (∀ k f, l.frames[k]? = some f → ∃ g, c.frames[k]? = some g
        ∧ g.number = f.number ∧ g.missed = f.missed ∧ g.balls.length = f.balls.length ∧ g.marks.length = f.balls.length
        ∧ (∀ n b, f.balls[n]? = some b →
            let split : BallRecord := { b with split := derivedSplit f.number (n + 1) b }
            g.balls[n]? = some split ∧ g.marks[n]? = some (markOf f.number (n + 1) g.balls split))
        ∧ (g.score.isSome ↔ g.state.isSome)
        ∧ g.score = (frameScore f ((l.frames.drop (k + 1)).flatMap (·.balls))).map (·.1)
        ∧ g.state = (frameScore f ((l.frames.drop (k + 1)).flatMap (·.balls))).map (·.2)
        ∧ ((∀ h ∈ c.frames.take (k + 1), h.score ≠ none) →
            g.running = some ((c.frames.take (k + 1)).map fun h => h.score.getD 0).sum)
        ∧ ((∃ h ∈ c.frames.take (k + 1), h.score = none) → g.running = none))
    ∧ { c with frames := l.frames, handicap := l.handicap, scratch := l.scratch, gameTotal := l.gameTotal } = l
    ∧ c.handicap = handicapFigure p l.mode l.average
    ∧ c.gameTotal = c.scratch.map (fun t => { t with value := t.value + c.handicap })
    ∧ (l.status = .active → l.frames.length ≤ 10 →
        (∀ g v, c.frames[9]? = some g → g.running = some v → ∃ st, c.scratch = some ⟨v, st⟩
          ∧ (st = .final ↔ ∀ h ∈ c.frames, h.state = some .final))
        ∧ ((∀ g, c.frames[9]? = some g → g.running = none) → c.scratch = none))
    ∧ (l.status = .withdrawn →
        (∀ k g v, c.frames[k]? = some g → g.running = some v → (∀ h ∈ c.frames.drop (k + 1), h.running = none) →
          ∃ st, c.scratch = some ⟨v, st⟩ ∧ (st = .final ↔ ∀ h ∈ c.frames.take (k + 1), h.state = some .final))
        ∧ ((∀ h ∈ c.frames, h.running = none) → c.scratch = some ⟨0, .final⟩)))
  ∧ (∀ (number pos : Nat) (b : BallRecord), derivedSplit number pos b = true ↔
    (if number < 10 then pos = 1 else b.pinsUp = some allPins) ∧ b.foul = false
      ∧ ∃ up standing, b.pinsUp = some up ∧ b.standing = some standing ∧ b.count + pinCount standing = pinCount up
        ∧ hasPin standing 0 = false ∧ 2 ≤ pinCount standing ∧ connected standing = false)
  ∧ (∀ (number n : Nat) (balls : List BallRecord) (b1 b : BallRecord), number ≤ 10 → balls[0]? = some b1 → balls[n]? = some b →
    (2 ≤ n → number = 10) →
    let m := markOf number (n + 1) balls b
    let second : Nat := (balls[1]?.map fun b2 => b2.count).getD 0
    let strike : Prop := b1.count = 10 ∧ b1.foul = false
    let x : Prop := (n = 0 ∧ b.count = 10) ∨ (n = 1 ∧ number = 10 ∧ strike ∧ b.count = 10)
      ∨ (n = 2 ∧ b.count = 10 ∧ (second = 10 ∨ (¬ strike ∧ b1.count + second = 10)))
    let spare : Prop := (n = 1 ∧ (number < 10 ∨ ¬ strike) ∧ b1.count + b.count = 10)
      ∨ (n = 2 ∧ strike ∧ second < 10 ∧ second + b.count = 10)
    m.split = b.split
    ∧ (b.foul = true → m.symbol = .foul)
    ∧ (b.foul = false → x → m.symbol = .strike)
    ∧ (b.foul = false → spare → m.symbol = .spare)
    ∧ (b.foul = false → ¬ x → ¬ spare → m.symbol = (if b.count = 0 then .miss else .pins b.count)))
  ∧ (∀ frames : List FrameRecord,
    ((∀ h ∈ frames, h.running = none) → lastRunning frames = none)
    ∧ ∀ k g v, frames[k]? = some g → g.running = some v → (∀ h ∈ frames.take k, h.running ≠ none) →
        (∀ h ∈ frames.drop (k + 1), h.running = none) →
        ∃ st, lastRunning frames = some ⟨v, st⟩ ∧ (st = .final ↔ ∀ h ∈ frames.take (k + 1), h.state ≠ some .provisional))
  ∧ (∀ (s : State) (g : Slot),
    let part := (s.linesOf g).filter fun y => !y.frames.isEmpty
    let t := s.refreshTotals g
    let r := t.groups.get g
    (part = [] → r.runningTotal = none ∧ r.groupTotal = none)
    ∧ (part ≠ [] → ∃ st, r.runningTotal
          = some ⟨(part.map fun y => ((lastRunning y.frames).map (·.value)).getD 0 + y.handicap).sum, st⟩
        ∧ (st = .final ↔ ∀ y ∈ part, ∀ q, lastRunning y.frames = some q → q.state = .final))
    ∧ (part ≠ [] → (∀ y ∈ part, y.gameTotal ≠ none) → ∃ st, r.groupTotal
          = some ⟨(part.map fun y => (y.gameTotal.map (·.value)).getD 0).sum, st⟩
        ∧ (st = .final ↔ ∀ y ∈ part, ∀ q, y.gameTotal = some q → q.state = .final))
    ∧ ((∃ y ∈ part, y.gameTotal = none) → r.groupTotal = none)
    ∧ t = { s with groups := s.groups.set g { s.groups.get g with runningTotal := r.runningTotal, groupTotal := r.groupTotal } })
  ∧ (∀ (s : State) (i : LineId) (l : Line) (change : Line → Line), s.line i = some l →
    let t := s.changeLine i change
    t.line i = some (computeLine s.handicap (change l)) ∧ (∀ j, j ≠ i → t.line j = s.line j)
      ∧ t.groups = ({ s with lines := t.lines }.refreshTotals l.group).groups
      ∧ (∀ j : LineId, t.dirty.getLsbD j.val = true ↔ s.dirty.getLsbD j.val = true ∨ j = i)
      ∧ { t with lines := s.lines, groups := s.groups, dirty := s.dirty } = s))

/-- R114: the score of frame 10 is the sum of the counts of the balls it is due, needs them all, is at most 30 for balls within
the ranges of R111, and takes no ball after the frame; a missed frame scores 0. R113, R114: its balls are bonus balls for
frames 8 and 9, from the balls that follow a frame and on a line that holds the three frames. -/
def Obligations.FrameTenScore : Prop :=
  ((∀ (f : FrameRecord) (after : List BallRecord), f.number = 10 →
    (f.missed = true → frameScore f after = some (0, .final))
    ∧ (f.missed = false → ballsComplete 10 f.balls = true → f.balls.length ≤ 3 →
        (f.balls.length = 3 → ∀ b1 b2 b3, f.balls = [b1, b2, b3] → earnsThird b1 b2 = true) →
        (frameScore f after).map (·.1) = some ((f.balls.map (·.count)).sum))
    ∧ (f.missed = false → ballsComplete 10 f.balls = false → frameScore f after = none)
    ∧ (f.missed = false → rangesOk 10 f.balls = true → ∀ v st, frameScore f after = some (v, st) → v ≤ 30)
    ∧ frameScore f after = frameScore f [])
  ∧ (∀ (b8 b9 t1 t2 : BallRecord) (rest : List BallRecord) (f8 f9 : FrameRecord), f8.number = 8 → f9.number = 9 →
      f8.missed = false → f9.missed = false → f8.balls = [b8] → f9.balls = [b9] → isStrike b8 = true → isStrike b9 = true →
      (frameScore f8 (b9 :: t1 :: t2 :: rest)).map (·.1) = some (10 + b9.count + t1.count)
        ∧ (frameScore f9 (t1 :: t2 :: rest)).map (·.1) = some (10 + t1.count + t2.count))
  ∧ ∀ (b1 b2 t1 : BallRecord) (rest : List BallRecord) (f9 : FrameRecord), f9.number = 9 → f9.missed = false →
      f9.balls = [b1, b2] → isStrike b1 = false → b1.count + b2.count = 10 →
      (frameScore f9 (t1 :: rest)).map (·.1) = some (10 + t1.count))
  ∧ (∀ (p : HandicapParams) (l : Line) (earlier : List FrameRecord) (f8 f9 f10 : FrameRecord),
    l.frames = earlier ++ [f8, f9, f10] → earlier.length = 7 → f8.number = 8 → f9.number = 9 → f10.number = 10 →
    f8.missed = false → f9.missed = false → f10.missed = false →
    let score (k : Nat) : Option Nat := (computeLine p l).frames[k - 1]?.bind (·.score)
    let strike (b : BallRecord) : Prop := b.count = 10 ∧ b.foul = false
    (∀ b8 b9 t1 rest, f8.balls = [b8] → f9.balls = [b9] → f10.balls = t1 :: rest → strike b8 → strike b9 →
        score 8 = some (10 + b9.count + t1.count))
    ∧ (∀ b8 b1 b2, f8.balls = [b8] → f9.balls = [b1, b2] → strike b8 → score 8 = some (10 + b1.count + b2.count))
    ∧ (∀ b9 t1 t2 rest, f9.balls = [b9] → f10.balls = t1 :: t2 :: rest → strike b9 → score 9 = some (10 + t1.count + t2.count))
    ∧ (∀ b9 t1, f9.balls = [b9] → f10.balls = [t1] → strike b9 → score 9 = none)
    ∧ (∀ b1 b2 t1 rest, f9.balls = [b1, b2] → f10.balls = t1 :: rest → ¬ strike b1 → b1.count + b2.count = 10 →
        score 9 = some (10 + t1.count))
    ∧ score 10 = (frameScore f10 []).map (·.1))

/-- R36, the adjacency table and the meaning of connected: each pin of the set is reached from every other by a chain of adjacent
pins that belong to the set. -/
def Obligations.ConnectedPinSets : Prop :=
  (∀ p q : Fin 10, hasPin (adjacent p) q = true ↔
    (q.val + 1) ∈ ([[2, 3], [1, 3, 4, 5, 8], [1, 2, 5, 6, 9], [2, 5, 7, 8], [2, 3, 4, 6, 8, 9], [3, 5, 9, 10], [4, 8],
      [2, 4, 5, 7, 9], [3, 5, 6, 8, 10], [6, 9]] : List (List Nat)).getD p.val [])
  ∧ ∀ s : Pins, connected s = true ↔ ∀ p q : Fin 10, hasPin s p = true → hasPin s q = true →
      Relation.ReflTransGen (fun a b => hasPin s a = true ∧ hasPin s b = true ∧ hasPin (adjacent a) b = true) p q

/-! ### Line copies, claims and corrections (chapter 7) -/

/-- R126: read-line returns the line with the link's copy state, which moves from NONE to COPY and otherwise stays. R129: a claim
is granted when no other link holds EDIT; the desk takes it from the console, which drops to COPY; the console is refused HELD
while the desk holds it; on a frozen group it is refused STATE. R131: the expiry of a running claim timer drops the holder to
COPY, with CLAIM_EXPIRED to it; a stopped timer changes nothing (log 2: the model's choice). -/
def Obligations.CopiesAndClaims : Prop :=
  (∀ (k : Link) (tag : Tag) (line : Nat) (i : LineId) (l : Line) (s : State), LinkIdle s k → k = .desk ∨ k = .console →
    lineOf line = some i → s.line i = some l →
    let held : CopyState := if l.copies.get k = .none then .copy else l.copies.get k
    ∃ t, exec (.readLine k tag line) s = .next t ∧ Replied t k tag (.readLine line) (.ok (lineBody i l held)) ∧ OthersIdle s t k
      ∧ { t with ports := s.ports } = { s with lines := s.lines.set i.val (some { l with copies := l.copies.set k held }) })
  ∧ (∀ (k : Link) (tag : Tag) (line : Nat) (i : LineId) (l : Line) (s : State), LinkIdle s k → k = .desk ∨ k = .console →
    lineOf line = some i → s.line i = some l → l.copies.service ≠ .edit →
    let frozen := (s.groups.get l.group).state = .moving ∨ (s.groups.get l.group).state = .moved
    let other : Link := if k = .desk then .console else .desk
    let timer := some (100 * s.settings.claimExpiry)
    (frozen → ∃ t, exec (.claimLine k tag line) s = .next t ∧ Replied t k tag (.claimLine line) (.refused .state)
      ∧ { t with ports := s.ports } = s)
    ∧ (¬ frozen → l.copies.get other ≠ .edit →
      ∃ t, exec (.claimLine k tag line) s = .next t ∧ Replied t k tag (.claimLine line) (.ok (be 2 l.version))
        ∧ { t with ports := s.ports } = { s with lines := s.lines.set i.val (some { l with
              copies := l.copies.set k .edit, claimTimer := timer }) })
    ∧ (¬ frozen → k = .desk → l.copies.desk ≠ .edit → l.copies.console = .edit →
      ∃ t, exec (.claimLine k tag line) s = .next t ∧ Replied t k tag (.claimLine line) (.ok (be 2 l.version))
        ∧ ((s.port .console).notices.length < 16 →
            (t.port .console).notices = (s.port .console).notices ++ [⟨(s.port .console).lost, .claimLost i .preempted⟩])
        ∧ { t with ports := s.ports } = { s with lines := s.lines.set i.val (some { l with
              copies := ⟨.edit, l.copies.service, .copy⟩, claimTimer := timer }) })
    ∧ (¬ frozen → k = .console → l.copies.console ≠ .edit → l.copies.desk = .edit →
      ∃ t, exec (.claimLine k tag line) s = .next t ∧ Replied t k tag (.claimLine line) (.refused .held)
        ∧ { t with ports := s.ports } = s))
  ∧ (∀ (line : Nat) (i : LineId) (l : Line) (k : Link) (s : State), lineOf line = some i → s.line i = some l →
    (l.claimTimer ≠ none → l.copies.get k = .edit → (∀ j, l.copies.get j = .edit → j = k) →
      ∃ t, exec (.claimTimerExpiry line) s = .next t
        ∧ ((s.port k).notices.length < 16 →
            (t.port k).notices = (s.port k).notices ++ [⟨(s.port k).lost, .claimExpired i⟩])
        ∧ { t with ports := s.ports } = { s with lines := s.lines.set i.val (some { l with
              copies := l.copies.set k .copy, claimTimer := none }) })
    ∧ (l.claimTimer = none → exec (.claimTimerExpiry line) s = .next s.pump))

/-- R130, the whole rule: release-line, from the desk and the console; from the service link RIGHTS; a line id out of range or not
in use RANGE; without EDIT on the line NOT_HELD; with it the link drops to COPY, the claim timer stops, and no notice is sent. -/
def Obligations.ReleaseLineReleases : Prop :=
  ∀ (tag : Tag) (line : Nat) (s : State),
    (LinkIdle s .service → ∃ t, exec (.releaseLine .service tag line) s = .next t
      ∧ Replied t .service tag (.releaseLine line) (.refused .rights) ∧ { t with ports := s.ports } = s)
    ∧ ∀ k : Link, k = .desk ∨ k = .console → LinkIdle s k →
      ((line < 1 ∨ 16 < line ∨ (∀ i, lineOf line = some i → s.line i = none)) →
        ∃ t, exec (.releaseLine k tag line) s = .next t ∧ Replied t k tag (.releaseLine line) (.refused .range)
          ∧ OthersIdle s t k ∧ { t with ports := s.ports } = s)
      ∧ ∀ i l, lineOf line = some i → s.line i = some l →
        (l.copies.get k ≠ .edit → ∃ t, exec (.releaseLine k tag line) s = .next t
          ∧ Replied t k tag (.releaseLine line) (.refused .notHeld) ∧ OthersIdle s t k ∧ { t with ports := s.ports } = s)
        ∧ (l.copies.get k = .edit → (∀ j, l.copies.get j = .edit → j = k) →
          ∃ t, exec (.releaseLine k tag line) s = .next t ∧ Replied t k tag (.releaseLine line) (.ok []) ∧ OthersIdle s t k
            ∧ (t.port k).notices = (s.port k).notices
            ∧ { t with ports := s.ports } = { s with lines := s.lines.set i.val (some { l with
                  copies := l.copies.set k .copy, claimTimer := none }) })

/-- R133, R134: an accepted edit-line of attributes (no withdrawal, no order change) that changes an item sets what it carries,
advances the version once, restarts the claim timer and computes the line again; the editing link keeps its claim, a COPY of
another link drops. R93: an order change; R92: a withdrawal, with the frame that advances or the game that ends by it; the
check on the frame in progress is made for a group without a game too (log 29: the model's choice). The ball-in-play check is
made for the position in force too (log 34), and the current position follows the up line in PLAYING alone (log 13): the
model's choices. -/
def Obligations.EditLineEdits : Prop :=
  (∀ (k : Link) (tag : Tag) (line base : Nat) (c : LineChanges) (i : LineId) (l : Line) (s : State), LinkIdle s k →
    k = .desk ∨ k = .console → lineOf line = some i → s.line i = some l → c.position = none → c.withdraw = false →
    (∃ n, c.name = some n) ∨ (∃ a, c.average = some a) ∨ (∃ h, c.handicap = some h) →
    (∀ n, c.name = some n → 1 ≤ n.length ∧ n.length ≤ 12) → (∀ a, c.average = some (some a) → a ≤ 300) →
    (∀ h, c.handicap = some h → handicapOf h.1 h.2 ≠ none) →
    (s.groups.get l.group).state ≠ .moving → (s.groups.get l.group).state ≠ .moved → l.copies.get k = .edit →
    base = l.version → s.dirty = 0#16 →
    let mode := match c.handicap with
      | some h => (handicapOf h.1 h.2).getD l.mode
      | none => l.mode
    let edited : Line := { l with name := c.name.getD l.name, average := c.average.getD l.average, mode := mode }
    let timer := some (100 * s.settings.claimExpiry)
    let keep (j : Link) : CopyState := if l.copies.get j = .copy ∧ j ≠ k then .none else l.copies.get j
    (edited ≠ l →
      ∃ u : State, exec (.editLine k tag line base c) s
            = .next (u.answered k tag (.editLine line base c) (.ok (be 2 ((l.version + 1) % 65536))))
        ∧ u.line i = some { computeLine s.handicap edited with
            version := (l.version + 1) % 65536, copies := ⟨keep .desk, keep .service, keep .console⟩, claimTimer := timer }
        ∧ (∀ j, j ≠ i → u.line j = s.line j)
        ∧ SameInside u { s with lines := u.lines, groups := u.groups })
    ∧ (edited = l →
      ∃ u : State, exec (.editLine k tag line base c) s
            = .next (u.answered k tag (.editLine line base c) (.ok (be 2 l.version)))
        ∧ SameInside u { s with lines := s.lines.set i.val (some { l with claimTimer := timer }) }))
  ∧ (∀ (k : Link) (tag : Tag) (line base : Nat) (i : LineId) (l : Line) (s : State), LinkIdle s k → k = .desk ∨ k = .console →
    lineOf line = some i → s.line i = some l → (s.groups.get l.group).state ≠ .moving →
    (s.groups.get l.group).state ≠ .moved → l.copies.get k = .edit → base = l.version → s.dirty = 0#16 →
    let r := s.groups.get l.group
    let rest := r.order.filter fun j => j ≠ i
    let timer := some (100 * s.settings.claimExpiry)
    let keep (j : Link) : CopyState := if l.copies.get j = .copy ∧ j ≠ k then .none else l.copies.get j
    let after (x : Line) : Line := { computeLine s.handicap x with
      version := (l.version + 1) % 65536, copies := ⟨keep .desk, keep .service, keep .console⟩, claimTimer := timer }
    let bound (test : LineId → Prop) : Prop := ∃ m b j, ((s.pdu.get m).run = .delay ∨ (s.pdu.get m).run = .settling
      ∨ (s.pdu.get m).run = .settled ∨ (s.pdu.get m).run = .awaitingEntry)
        ∧ (s.pdu.get m).binding = some b ∧ b.line = some j ∧ test j
    let refused (c : LineChanges) : Prop := exec (.editLine k tag line base c) s = .next
      ((s.queuedUp k tag (.editLine line base c)).answered k tag (.editLine line base c) (.refused .state))
    let nothing (c : LineChanges) : Prop := ∃ u : State, exec (.editLine k tag line base c) s
        = .next (u.answered k tag (.editLine line base c) (.ok (be 2 l.version)))
      ∧ SameInside u { s with lines := s.lines.set i.val (some { l with claimTimer := timer }) }
    let edited (c : LineChanges) (x : Line) (P : State → Prop) : Prop := ∃ u : State, exec (.editLine k tag line base c) s
        = .next (u.answered k tag (.editLine line base c) (.ok (be 2 ((l.version + 1) % 65536))))
      ∧ u.line i = some (after x) ∧ (∀ j, j ≠ i → u.line j = s.line j)
      ∧ SameInside u { s with lines := u.lines, groups := u.groups } ∧ P u
    (∀ p, 1 ≤ p → p ≤ r.order.length →
      let c : LineChanges := { name := none, average := none, handicap := none, position := some p, withdraw := false }
      let inPlay := bound fun j => ∃ o, s.line j = some o ∧ o.group = l.group
      (inPlay → refused c)
      ∧ (¬ inPlay → positionIn r.order i = some p → nothing c)
      ∧ (¬ inPlay → positionIn r.order i ≠ some p → edited c l fun u =>
          let q := u.groups.get l.group
          q.order = rest.take (p - 1) ++ i :: rest.drop (p - 1)
          ∧ q.position = (if r.state = .playing then (u.upLine q).bind (positionIn q.order) else r.position)
          ∧ { q with order := r.order, position := r.position, runningTotal := r.runningTotal, groupTotal := r.groupTotal } = r))
    ∧ (let c : LineChanges := { name := none, average := none, handicap := none, position := none, withdraw := true }
      let blocked : Prop := bound (fun j => j = i) ∨ (l.ballsOf r.frame ≠ [] ∧ l.completed r.frame = false)
      let other (due : Bool) : Prop := ∃ j ∈ r.order, j ≠ i ∧ ∃ o, s.line j = some o ∧ o.status = .active
        ∧ (due = true → o.completed r.frame = false)
      (l.status = .withdrawn → nothing c)
      ∧ (l.status = .active → blocked → refused c)
      ∧ (l.status = .active → ¬ blocked → r.inProgress = false ∨ other true →
          edited c { l with status := .withdrawn } fun u =>
            let q := u.groups.get l.group
            { q with position := r.position, runningTotal := r.runningTotal, groupTotal := r.groupTotal } = r
            ∧ q.position = (if r.state = .playing then (u.upLine q).bind (positionIn q.order) else r.position))
      ∧ (l.status = .active → ¬ blocked → r.inProgress = true → ¬ other true →
          ∃ u : State, exec (.editLine k tag line base c) s
              = .next (u.answered k tag (.editLine line base c) (.ok (be 2 ((l.version + 1) % 65536))))
            ∧ (∃ x, u.line i = some x ∧ x.status = .withdrawn ∧ x.version = (l.version + 1) % 65536)
            ∧ (r.frame < 10 → other false → (u.groups.get l.group).frame = r.frame + 1
                ∧ (u.groups.get l.group).inProgress = true)
            ∧ (¬ other false → (u.groups.get l.group).inProgress = false)
            ∧ (10 ≤ r.frame → (s.sessions.get r.home).autoNext = false → (u.groups.get l.group).inProgress = false
                ∧ (u.groups.get l.group).state = .idle))))

/-- R137: a correction that passes R135 and comes from the desk, or from the console while the home session is neither CLOSED nor
in a league, is applied at once under the line's version: the ball takes the count (0 for a foul) and the foul flag, its
source becomes CORRECTED, the line is computed again and its version advances once. With another base version it is refused
STALE. R138: a console correction in a league or for a CLOSED lane joins the queue's end with the next entry id, or overwrites
the entry of its ball in place, keeping the entry's id; a full queue without one refuses FULL; the line is unchanged. The
reply's result byte is log 8's. R135, R136: the checks of correct-ball, in order, and the refusal of each. -/
def Obligations.CorrectionsApplyOrQueue : Prop :=
  (∀ (k : Link) (tag : Tag) (line game frame ball count : Nat) (foul : Bool) (base : Nat) (i : LineId) (l : Line) (s : State),
    LinkIdle s k → lineOf line = some i → s.line i = some l → 1 ≤ game → game ≤ 255 → 1 ≤ frame → frame ≤ 10 → 1 ≤ ball →
    ball ≤ 3 → count ≤ 10 → s.dirty = 0#16 →
    s.correctionRefused l ⟨0, i, game, frame, ball, count, foul, base⟩ = none →
    (let x := s.sessions.get (s.groups.get l.group).home; k = .desk ∨ (k = .console ∧ x.state ≠ .closed ∧ x.league = false)) →
    let r := Request.correctBall line game frame ball count foul base
    let keep (j : Link) : CopyState := if l.copies.get j = .copy ∧ j ≠ k then .none else l.copies.get j
    (base = l.version →
      ∃ u : State, exec (.correctBall k tag line game frame ball count foul base) s
            = .next (u.answered k tag r (.ok (be 1 0 ++ be 2 ((l.version + 1) % 65536))))
        ∧ u.line i = some { computeLine s.handicap { l with frames := l.frames.map fun f =>
                if f.number = frame then { f with balls := f.balls.mapIdx fun n b =>
                  if n + 1 = ball then { b with count := if foul then 0 else count, foul := foul, source := .corrected } else b }
                else f } with
            version := (l.version + 1) % 65536, copies := ⟨keep .desk, keep .service, keep .console⟩ }
        ∧ (∀ j, j ≠ i → u.line j = s.line j)
        ∧ u.groups = ({ s with lines := u.lines }.refreshTotals l.group).groups
        ∧ (∀ j, { u.feeds.get j with markLower := (s.feeds.get j).markLower, markUpper := (s.feeds.get j).markUpper } = s.feeds.get j
          ∧ (s.configured = true → (s.feeds.get j).banner = .none →
              ((u.feeds.get j).markLower = true ↔ (s.feeds.get j).markLower = true ∨ s.shownLower j = some l.group)
              ∧ ((u.feeds.get j).markUpper = true ↔ (s.feeds.get j).markUpper = true ∨ s.shownUpper j = some l.group)))
        ∧ u.corrections = s.corrections
        ∧ SameInside u { s with lines := u.lines, groups := u.groups })
    ∧ (base ≠ l.version → exec (.correctBall k tag line game frame ball count foul base) s
        = .next ((s.queuedUp k tag r).answered k tag r (.refused .stale))))
  ∧ (∀ (tag : Tag) (line game frame ball count : Nat) (foul : Bool) (base : Nat) (i : LineId) (l : Line) (s : State),
    LinkIdle s .console → lineOf line = some i → s.line i = some l → 1 ≤ game → game ≤ 255 → 1 ≤ frame → frame ≤ 10 →
    1 ≤ ball → ball ≤ 3 → count ≤ 10 → s.correctionRefused l ⟨0, i, game, frame, ball, count, foul, base⟩ = none →
    (let x := s.sessions.get (s.groups.get l.group).home; x.state = .closed ∨ x.league = true) →
    let r := Request.correctBall line game frame ball count foul base
    let same (e : Correction) : Prop := e.line = i ∧ e.game = game ∧ e.frame = frame ∧ e.ball = ball
    let id := freeEntry s.corrections 8 s.nextEntry
    ((∀ e ∈ s.corrections, ¬ same e) → s.corrections.length < 8 →
      ∃ u : State, exec (.correctBall .console tag line game frame ball count foul base) s
            = .next (u.answered .console tag r (.ok (be 1 1 ++ be 1 id)))
        ∧ SameInside u { s with
            corrections := s.corrections ++ [⟨id, i, game, frame, ball, count, foul, base⟩]
            nextEntry := if id < 255 then id + 1 else 1 })
    ∧ ((∀ e ∈ s.corrections, ¬ same e) → 8 ≤ s.corrections.length →
      exec (.correctBall .console tag line game frame ball count foul base) s
        = .next ((s.queuedUp .console tag r).answered .console tag r (.refused .full)))
    ∧ ∀ before old later, s.corrections = before ++ old :: later → same old → (∀ e ∈ before ++ later, ¬ same e) →
      ∃ u : State, exec (.correctBall .console tag line game frame ball count foul base) s
            = .next (u.answered .console tag r (.ok (be 1 1 ++ be 1 old.id)))
        ∧ SameInside u { s with
            corrections := before ++ { old with count := count, foul := foul, base := base } :: later })
  ∧ ((∀ (s : State) (l : Line) (e : Correction), 1 ≤ e.ball →
    let g := s.groups.get l.group
    let refusal := s.correctionRefused l e
    let frozen : Prop := g.state = .moving ∨ g.state = .moved
    let number : Nat := if e.foul then 0 else e.count
    let strike (balls : List BallRecord) : Prop := ∃ b1 rest, balls = b1 :: rest ∧ b1.count = 10 ∧ b1.foul = false
    let third (balls : List BallRecord) : Prop := ∃ b1 b2 rest, balls = b1 :: b2 :: rest
      ∧ ((b1.count = 10 ∧ b1.foul = false) ∨ b1.count + b2.count = 10)
    let ranged (balls : List BallRecord) : Prop :=
      (∀ b ∈ balls, b.count ≤ 10)
      ∧ (e.frame < 10 → balls.length ≤ 2 ∧ (2 ≤ balls.length → ¬ strike balls))
      ∧ (e.frame = 10 → balls.length ≤ 3 ∧ (3 ≤ balls.length → third balls))
      ∧ (∀ b1 b2 rest, balls = b1 :: b2 :: rest → ¬ strike balls → b1.count + b2.count ≤ 10)
      ∧ (∀ b1 b2 b3 rest, balls = b1 :: b2 :: b3 :: rest → strike balls → b2.count < 10 → b2.count + b3.count ≤ 10)
    (frozen → refusal = some .state)
    ∧ (¬ frozen → g.game ≠ some e.game → refusal = some .stale)
    ∧ (¬ frozen → g.game = some e.game → (∀ f ∈ l.frames, f.number ≠ e.frame) → refusal = some .state)
    ∧ (¬ frozen → g.game = some e.game → ∀ before f later, l.frames = before ++ f :: later →
        (∀ h ∈ before, h.number ≠ e.frame) → f.number = e.frame → f.missed = false →
        (f.balls[e.ball - 1]? = none → refusal = some .state)
        ∧ ∀ b, f.balls[e.ball - 1]? = some b →
          let after := f.balls.set (e.ball - 1) { b with count := number, foul := e.foul, source := .corrected }
          let kept : Prop := (e.frame < 10 → (strike f.balls ↔ strike after)) ∧ (e.frame = 10 → (third f.balls ↔ third after))
          let sound : Prop := b.state = .final ∧ frameComplete f = true
          let fits : Prop := ∀ up, b.pinsUp = some up → number ≤ pinCount up
          (¬ sound → refusal = some .state)
          ∧ (e.frame ≤ 10 → sound → ¬ kept → refusal = some .shape)
          ∧ (e.frame ≤ 10 → sound → kept → ¬ ranged after → refusal = some .shape)
          ∧ (e.frame ≤ 10 → sound → kept → ranged after → ¬ fits → refusal = some .range)
          ∧ (e.frame ≤ 10 → sound → kept → ranged after → fits → refusal = none)))
  ∧ (∀ (k : Link) (tag : Tag) (line game frame ball count : Nat) (foul : Bool) (base : Nat) (s : State),
    LinkIdle s k → k = .desk ∨ k = .console →
    let r := Request.correctBall line game frame ball count foul base
    let refused (c : Code) : Prop := exec (.correctBall k tag line game frame ball count foul base) s
      = .next ((s.queuedUp k tag r).answered k tag r (.refused c))
    let ranged : Prop := 1 ≤ game ∧ game ≤ 255 ∧ 1 ≤ frame ∧ frame ≤ 10 ∧ 1 ≤ ball ∧ ball ≤ 3 ∧ count ≤ 10
    ((∀ i, lineOf line = some i → s.line i = none) ∨ ¬ ranged → refused .range)
    ∧ (∀ i l c, lineOf line = some i → s.line i = some l → ranged →
        s.correctionRefused l ⟨0, i, game, frame, ball, count, foul, base⟩ = some c → refused c)))

/-- R139: an approved entry leaves the queue; with the line's version it is applied as R137 states, and otherwise the reply is
STALE and the line is unchanged. An id no entry holds, and an entry of a frozen group, are refused STATE and nothing changes. -/
def Obligations.ApproveResolves : Prop :=
  ∀ (tag : Tag) (id : Nat) (s : State), LinkIdle s .desk → 1 ≤ id → id ≤ 255 → s.dirty = 0#16 →
    ((∀ e ∈ s.corrections, e.id ≠ id) → exec (.approve .desk tag id) s
      = .next ((s.queuedUp .desk tag (.approve id)).answered .desk tag (.approve id) (.refused .state)))
    ∧ ∀ e l, s.corrections.find? (fun e => e.id = id) = some e → s.line e.line = some l →
      let frozen := (s.groups.get l.group).state = .moving ∨ (s.groups.get l.group).state = .moved
      let rest := s.corrections.filter fun e => e.id ≠ id
      (frozen → exec (.approve .desk tag id) s
        = .next ((s.queuedUp .desk tag (.approve id)).answered .desk tag (.approve id) (.refused .state)))
      ∧ (¬ frozen → e.base ≠ l.version →
        ∃ u : State, exec (.approve .desk tag id) s = .next (u.answered .desk tag (.approve id) (.refused .stale))
          ∧ SameInside u { s with corrections := rest })
      ∧ (¬ frozen → e.base = l.version →
        ∃ u : State, exec (.approve .desk tag id) s
              = .next (u.answered .desk tag (.approve id) (.ok (be 2 ((l.version + 1) % 65536))))
          ∧ u.corrections = rest
          ∧ (∃ l', u.line e.line = some l' ∧ l'.version = (l.version + 1) % 65536
              ∧ l'.frames = (computeLine s.handicap { l with frames := l.frames.map fun f =>
                  if f.number = e.frame then { f with balls := f.balls.mapIdx fun n b =>
                    if n + 1 = e.ball then
                      { b with count := if e.foul then 0 else e.count, foul := e.foul, source := .corrected } else b }
                  else f }).frames)
          ∧ (∀ j, j ≠ e.line → u.line j = s.line j)
          ∧ SameInside u { s with lines := u.lines, groups := u.groups, corrections := rest })

/-- R140, the whole rule: deny, from the desk alone; an id outside 1 to 255 RANGE, one no entry holds STATE; otherwise the entry
leaves the queue, the later ones move up, the line is not changed, whether or not its group is frozen, and CORRECTION_RESOLVED
with DENIED goes to the desk and console links whatever their masks admit. -/
def Obligations.DenyResolves : Prop :=
  ∀ (tag : Tag) (id : Nat) (s : State),
    (∀ k : Link, k ≠ .desk → LinkIdle s k → ∃ t, exec (.deny k tag id) s = .next t
      ∧ Replied t k tag (.deny id) (.refused .rights) ∧ { t with ports := s.ports } = s)
    ∧ (LinkIdle s .desk →
      (id < 1 ∨ 255 < id → ∃ t, exec (.deny .desk tag id) s = .next t ∧ Replied t .desk tag (.deny id) (.refused .range)
        ∧ SameInside t s)
      ∧ (1 ≤ id → id ≤ 255 → (∀ e ∈ s.corrections, e.id ≠ id) → ∃ t, exec (.deny .desk tag id) s = .next t
        ∧ Replied t .desk tag (.deny id) (.refused .state) ∧ SameInside t s)
      ∧ ∀ before e later, 1 ≤ id → id ≤ 255 → s.corrections = before ++ e :: later → e.id = id →
        (∀ f ∈ before ++ later, f.id ≠ id) →
        ∃ t, exec (.deny .desk tag id) s = .next t ∧ Replied t .desk tag (.deny id) (.ok [])
          ∧ (∀ k : Link, k = .desk ∨ k = .console → (s.port k).notices.length < 16 →
              (t.port k).notices = (s.port k).notices ++ [⟨(s.port k).lost, .correctionResolved e .denied⟩])
          ∧ SameInside t { s with corrections := before ++ later })

/-! ### Deck sensing (chapter 1) -/

/-- R6, R7: an accepted set-slot replaces the slot's configuration and clears its observation, empties the lane's injection
buffer, and has the readings of a scan in flight discarded; an accepted set-scan-mode changes the mode. The other lane's
injection buffer keeps its set only at the length of its effective prefix. -/
def Obligations.ScanSettings : Prop :=
  (∀ (tag : Tag) (slot lane point : Nat) (enabled : Bool) (baseline : Nat) (high low : Int) (wobble : Bool) (l : Lane)
      (p : Point) (s : State),
    LinkIdle s .service → laneOf lane = some l → pointOf point = some p → slot ≤ 11 → baseline ≤ 1023 → -1023 ≤ low →
    low < high → high ≤ 1023 → (s.sessions.get l).state = .closed ∨ (s.psc.get l).state = .service →
    let x := s.sensing.get l
    let k : ScanSlot :=
      { cfg := { point := p, enabled := enabled, baseline := baseline, high := high, low := low, wobble := wobble }
        obs := { raw := none, result := none, cls := none, side := none, wobbling := false, count := 0 } }
    let slotted : SensingLane := { x with slots := x.slots.set slot k }
    let lists := s.sensing.set l slotted
    (∀ m, (s.sessions.get m).state ≠ .closed → coversTenIn s.head.mode lists m = true) →
    ∃ t, exec (.setSlot .service tag slot lane point enabled baseline high low wobble) s = .next t
      ∧ Replied t .service tag (.setSlot slot lane point enabled baseline high low wobble) (.ok []) ∧ OthersIdle s t .service
      ∧ t.sensing.get l = { slotted with injection := none, scan := x.scan.map fun f => { f with discard := true } }
      ∧ t.sensing.get (otherLane l) = { s.sensing.get (otherLane l) with
          injection := (s.sensing.get (otherLane l)).injection.filter fun raws =>
              decide (raws.length = effectiveLength s.head.mode lists (otherLane l)) }
      ∧ { t with sensing := s.sensing, ports := s.ports } = s)
  ∧ (∀ (tag : Tag) (mode : Nat) (m : ScanMode) (s : State), LinkIdle s .service → scanModeOf mode = some m →
    (∀ l, (s.sessions.get l).state = .closed ∨ (s.psc.get l).state = .service) →
    (∀ l, (s.sessions.get l).state ≠ .closed → coversTenIn m s.sensing l = true) →
    ∃ u : State, exec (.setScanMode .service tag mode) s = .next (u.answered .service tag (.setScanMode mode) (.ok []))
      ∧ u.head = { s.head with mode := m }
      ∧ (∀ l, u.sensing.get l = if m = s.head.mode then s.sensing.get l else { s.sensing.get l with
          injection := (s.sensing.get l).injection.filter fun raws => decide (raws.length = effectiveLength m s.sensing l) })
      ∧ SameInside u { s with head := u.head, sensing := u.sensing })

/-- R18, R19, R20: what set-run-mode, inject-readings and restart-head change, and where they are refused STATE. -/
def Obligations.MechanicScans : Prop :=
  (∀ (tag : Tag) (lane mode : Nat) (l : Lane) (m : RunMode) (s : State), LinkIdle s .service → laneOf lane = some l →
    runModeOf mode = some m →
    let x := s.sensing.get l
    let changed (y : SensingLane) : Prop :=
      ∃ u : State, exec (.setRunMode .service tag lane mode) s
            = .next (u.answered .service tag (.setRunMode lane mode) (.ok []))
        ∧ SameInside u { s with sensing := s.sensing.set l y }
    (m = x.runMode → changed x)
    ∧ (m = .normal → x.runMode = .continuous → changed { x with
        runMode := .normal, contTimer := none, needs := { x.needs with cont := false } })
    ∧ (m = .continuous → x.runMode = .normal → (s.psc.get l).state = .service → (s.pdu.get l).run = .idle → changed { x with
        slots := x.slots.map fun k => { k with obs := { k.obs with side := none, wobbling := false } }
        runMode := .continuous, contTimer := some s.settings.scanInterval, needs := { x.needs with cont := true } })
    ∧ (m = .continuous → x.runMode = .normal → (s.psc.get l).state ≠ .service ∨ (s.pdu.get l).run ≠ .idle →
      exec (.setRunMode .service tag lane mode) s = .next ((s.queuedUp .service tag (.setRunMode lane mode)).answered .service tag
        (.setRunMode lane mode) (.refused .state))))
  ∧ (∀ (tag : Tag) (lane : Nat) (readings : List Nat) (l : Lane) (s : State), LinkIdle s .service → laneOf lane = some l →
    (s.psc.get l).state = .service → (s.sensing.get l).runMode = .normal →
    let r := Request.injectReadings lane readings
    ((∀ n ∈ readings, n ≤ 1023) → readings.length = s.effectiveLength l →
      ∃ u : State, exec (.injectReadings .service tag lane readings) s = .next (u.answered .service tag r (.ok []))
        ∧ SameInside u { s with sensing := s.sensing.set l { s.sensing.get l with injection := some readings } })
    ∧ ((∃ n ∈ readings, 1023 < n) ∨ readings.length ≠ s.effectiveLength l →
      exec (.injectReadings .service tag lane readings) s
        = .next ((s.queuedUp .service tag r).answered .service tag r (.refused .range))))
  ∧ (∀ (tag : Tag) (s : State), LinkIdle s .service →
    (s.head.state ≠ .off →
      ∃ u : State, exec (.restartHead .service tag) s = .next (u.answered .service tag .restartHead (.ok []))
        ∧ SameInside u { s with
            head := if s.settings.warmUp = 0 then { s.head with state := .active, warmTimer := none }
              else { s.head with state := .warming, warmTimer := some s.settings.warmUp }
            sensing := ⟨{ s.sensing.left with scan := none, fault := false },
              { s.sensing.right with scan := none, fault := false }⟩ })
    ∧ (s.head.state = .off → exec (.restartHead .service tag) s
        = .next ((s.queuedUp .service tag .restartHead).answered .service tag .restartHead (.refused .state))))

/-- R1, R17, R19: the warm-up ends in ACTIVE; a continuous-scan expiry restarts its timer and raises a continuous need; a readout
timeout ends the request and sets the sensing fault of each lane it covers. A stopped timer changes nothing (log 2: the
model's choice). R8, R9, R10: the requests of scans in SPLIT and PAIRED mode. R21: a run need in SERVICE is served by the
injected set. The order LEFT, RIGHT (log 24) and the serial numbers (log 5) are the model's choices. R11, R16, R17: a failed
request with a check need waiting, and a lane whose effective prefix is empty. R1, R3: what wakes the head and what lets it
rest, and what the end of an event makes of both; in the event that makes the head ACTIVE too (log 37: the model's choice). -/
def Obligations.HeadTimers : Prop :=
  (∀ s : State,
    (s.head.state = .warming → s.head.warmTimer ≠ none → ∃ u : State, exec .warmUpExpiry s = .next u.finish.pump
      ∧ SameInside u { s with head := { s.head with state := .active, warmTimer := none } })
    ∧ (s.head.warmTimer = none → exec .warmUpExpiry s = .next s.finish.pump)
    ∧ ∀ l : Lane, let x := s.sensing.get l
      (x.contTimer ≠ none → ∃ u : State, exec (.continuousScanExpiry l) s = .next u.finish.pump
        ∧ u = { s with sensing := s.sensing.set l { x with
            contTimer := some s.settings.scanInterval, needs := { x.needs with cont := true } } })
      ∧ (x.contTimer = none → exec (.continuousScanExpiry l) s = .next s.finish.pump)
      ∧ (x.scan = none → exec (.readoutTimeout l) s = .next s.finish.pump)
      ∧ (∀ f, x.scan = some f → f.timer ≠ none → (∀ j, (s.sensing.get j).needs.check = none) →
        let covered (j : Lane) : Prop := ∃ g, (s.sensing.get j).scan = some g ∧ g.serial = f.serial
        ∃ u : State, exec (.readoutTimeout l) s = .next u.finish.pump
          ∧ (∀ j, (covered j → u.sensing.get j = { s.sensing.get j with scan := none, fault := true }
              ∧ u.pdu.get j = { s.pdu.get j with stalled := (s.pdu.get j).stalled
                  || ((s.pdu.get j).run = .delay && (s.pdu.get j).elapsed && !(s.pdu.get j).testing) })
            ∧ (¬ covered j → u.sensing.get j = s.sensing.get j ∧ u.pdu.get j = s.pdu.get j))
          ∧ SameInside u { s with sensing := u.sensing, pdu := u.pdu }))
  ∧ (∀ s : State,
    let wants (l : Lane) : Prop := let x := s.sensing.get l
      x.needs.check ≠ none ∨ x.needs.cont = true ∨ (x.needs.run = true ∧ (s.psc.get l).state ≠ .service)
    let flies (l : Lane) (n : Nat) : SensingLane := { s.sensing.get l with
      scan := some { serial := n, length := s.effectiveLength l, checkPresent := (s.sensing.get l).needs.check.isSome
                     discard := false, timer := some 50 } }
    (s.head.state ≠ .active → s.requestScans = s)
    ∧ (s.head.state = .active → s.head.mode = .split → (∀ l, 0 < s.effectiveLength l) →
        let asks (l : Lane) : Prop := wants l ∧ (s.sensing.get l).fault = false ∧ (s.sensing.get l).scan = none
        (¬ asks .left → ¬ asks .right → s.requestScans = s)
        ∧ (asks .left → ¬ asks .right → s.requestScans = { s with
            sensing := s.sensing.set .left (flies .left s.scanSerial), scanSerial := s.scanSerial + 1 })
        ∧ (¬ asks .left → asks .right → s.requestScans = { s with
            sensing := s.sensing.set .right (flies .right s.scanSerial), scanSerial := s.scanSerial + 1 })
        ∧ (asks .left → asks .right → s.requestScans = { s with
            sensing := ⟨flies .left s.scanSerial, flies .right (s.scanSerial + 1)⟩, scanSerial := s.scanSerial + 2 }))
    ∧ (s.head.state = .active → s.head.mode = .paired → 0 < s.effectiveLength .left →
        let asks : Prop := (wants .left ∨ wants .right) ∧ ∀ l, (s.sensing.get l).fault = false ∧ (s.sensing.get l).scan = none
        (¬ asks → s.requestScans = s)
        ∧ (asks → s.effectiveLength .right = s.effectiveLength .left ∧ s.requestScans = { s with
            sensing := ⟨flies .left s.scanSerial, flies .right s.scanSerial⟩, scanSerial := s.scanSerial + 1 }))
    ∧ (∀ l : Lane,
        let x := s.sensing.get l
        let served : Prop := (s.psc.get l).state = .service ∧ x.runMode = .normal ∧ x.needs.run = true
        (∀ raws, x.injection = some raws → served →
          let read := readSlots true x.slots raws
          let taken : SensingLane := { x with
            slots := read.map (·.1) ++ x.slots.drop read.length, injection := none, needs := { x.needs with run := false } }
          s.serveInjection l = { s with sensing := s.sensing.set l taken }.pduTakes l (resultSet l true read))
        ∧ (x.injection = none ∨ ¬ served → s.serveInjection l = s))
    ∧ (s.head.state = .active → s.dsuPump = ((s.serveInjection .left).serveInjection .right).requestScans))
  ∧ (∀ (s : State) (l : Lane),
    let x := s.sensing.get l
    let p := s.psc.get l
    (∀ f expected r, x.scan = some f → f.timer ≠ none → x.needs.check = some expected →
      (s.sensing.get (otherLane l)).needs.check = none → p.state = .checking → p.recipe = some r →
      p.closingOwed = false ∨ r.kind = .full →
      ∃ u : State, exec (.readoutTimeout l) s = .next u.finish.pump
        ∧ u.sensing.get l = { x with scan := none, fault := true, needs := { x.needs with check := none } }
        ∧ (u.pdu.get l).deck = r.target
        ∧ u.psc.get l = { p with
            state := if s.machineIdles l then .standby else .ready
            cause := none, recipe := none, attempts := 0, closingOwed := false, startTimer := none, stepTimer := none })
    ∧ (s.head.state = .active → s.effectiveLength l = 0 → (∀ j, (s.sensing.get j).fault = false ∧ (s.sensing.get j).scan = none) →
      (s.sensing.get (otherLane l)).needs = ⟨false, none, false⟩ →
      let unsensed : List PointClass := List.replicate 12 none
      let served : State := { s with sensing := s.sensing.set l { x with needs := ⟨false, none, false⟩ } }
      (x.needs = ⟨true, none, false⟩ → p.state ≠ .service → s.requestScans = served.pduTakes l
        { lane := l, injected := false, readings := [], points := unsensed, crossed := false })
      ∧ (∀ expected, x.needs = ⟨false, some expected, false⟩ → s.requestScans = served.checkAnswer l .mismatch unsensed)))
  ∧ (∀ s : State,
    let waits (v : State) (l : Lane) : Prop := let x := v.sensing.get l
      x.fault = false ∧ (x.needs.check ≠ none ∨ x.needs.cont = true ∨ (x.needs.run = true ∧ (v.psc.get l).state ≠ .service))
    let rests (v : State) : Prop := ∀ l, let st := (v.sessions.get l).state
      ¬ (st = .opening ∨ st = .opened ∨ st = .overtime ∨ st = .closing) ∧ (v.psc.get l).state ≠ .service
        ∧ (v.sensing.get l).scan = none ∧ ¬ waits v l
    let wakes : Prop := ∃ l, (s.sessions.get l).state = .opening ∨ (s.psc.get l).state = .service ∨ waits s l
    let h := s.head
    let t := s.finish
    (s.headWakes = true ↔ wakes) ∧ (s.headIdles = true ↔ rests s)
    ∧ (h.state = .off ∨ h.state = .warming → t.head = h)
    ∧ (h.state = .standby → ¬ wakes → t.head = h)
    ∧ (h.state = .standby → wakes → 0 < s.settings.warmUp →
        t.head = { h with state := .warming, warmTimer := some s.settings.warmUp })
    ∧ (h.state = .active ∨ (h.state = .standby ∧ wakes ∧ s.settings.warmUp = 0) →
        (rests t → t.head = { h with state := .standby, warmTimer := none })
        ∧ (¬ rests t → t.head.state = .active ∧ t.head.mode = h.mode)))

/-- R12, R13: what a reading does to the observation of its slot, in a run and outside one. The side is kept with wobble detection
off too (log 33: the model's choice). -/
def Obligations.SlotReadings : Prop :=
  ∀ (k : ScanSlot) (raw : Nat), k.cfg.low < k.cfg.high →
    let r : Int := (raw : Int) - k.cfg.baseline
    let centre : Int := (k.cfg.high + k.cfg.low) / 2
    let o := (k.read true raw).1.obs
    let side : Option Side := if centre < r then some .above else if r < centre then some .below else k.obs.side
    let crossed : Prop := k.cfg.wobble = true ∧ (k.obs.side = some .above ∧ side = some .below
      ∨ k.obs.side = some .below ∧ side = some .above)
    o.raw = some raw ∧ o.result = some r
      ∧ (k.cfg.high ≤ r → o.cls = some .high) ∧ (r ≤ k.cfg.low → o.cls = some .low)
      ∧ (k.cfg.low < r → r < k.cfg.high → o.cls = some .mid)
      ∧ o.side = side ∧ ((k.read true raw).2 = true ↔ crossed) ∧ (o.wobbling = true ↔ crossed)
      ∧ (crossed → o.count = min 65535 (k.obs.count + 1)) ∧ (¬ crossed → o.count = k.obs.count)
      ∧ (k.read true raw).1.cfg = k.cfg
      ∧ k.read false raw = ({ k with obs := { k.obs with raw := o.raw, result := o.result, cls := o.cls } }, false)

/-- R11, R15, R29, R31, R34: a readout of one lane that serves a run need alone: the readings form the result set that the PDU
takes. The first set of a run moves DELAY to SETTLING, starts the settle window and is then its first scan; a quiet, decided
set raises the settle count, another sets it to 0, and the set that reaches the target settles the ball. A set in SETTLED
takes the pins that have fallen late out of the standing set and revises the record, or changes nothing. The record of a ball
that settles, and a revised one, is placed on its line (R96), which changes lines and totals alone. Before the pin action
delay has elapsed, and in a run state that awaits no scan, the set changes nothing in the PDU. R17: a readout with the wrong
number of readings fails as a timeout does; one for no scan in flight is discarded. While the pins-up set is UNKNOWN, the pins
it is judged on are a free value (log 50). With a cycle delay of 0 (R192) the ball that settles becomes FINAL in the same
event, as the expiry of the cycle delay makes it (R38). -/
def Obligations.ReadoutsServeTheRun : Prop :=
  (∀ (n : Nat) (l : Lane) (raws : List Nat) (f : Scan) (s : State),
    let x := s.sensing.get l
    let p := s.pdu.get l
    x.scan = some f → f.serial = n → f.discard = false → raws.length = f.length →
    (∀ g, (s.sensing.get (otherLane l)).scan = some g → g.serial ≠ n) → x.needs = ⟨true, none, false⟩ →
    (s.psc.get l).state ≠ .service →
    let read := readSlots true x.slots raws
    let formed := resultSet l false read
    let quiet : Prop := formed.crossed = false
      ∧ ∀ pin : Fin 10, hasPin p.deck.pins pin = true → ∃ w, formed.points[pin.val]? = some (some (.high, w))
          ∨ formed.points[pin.val]? = some (some (.low, w))
    let first : Prop := p.run = .delay ∧ p.elapsed = true
    let q : Pdu := if p.run = .delay then { p with run := .settling, windowTimer := some s.settings.settleWindow } else p
    ∃ u : State, exec (.readout n (if l = .left then raws else []) (if l = .left then [] else raws)) s = .next u.finish.pump
      ∧ u.sensing = s.sensing.set l { x with
          slots := read.map (·.1) ++ x.slots.drop read.length, scan := none, needs := ⟨false, none, false⟩ }
      ∧ (p.run = .settling ∨ first →
        (quiet → p.settleCount + 1 < p.settleTarget →
            SameInside u { s with
              sensing := u.sensing
              pdu := s.pdu.set l { q with settleCount := p.settleCount + 1, lastSet := some formed.points } })
        ∧ (¬ quiet → 0 < p.settleTarget → SameInside u { s with
              sensing := u.sensing, pdu := s.pdu.set l { q with settleCount := 0, lastSet := some formed.points } })
        ∧ (quiet → p.settleTarget ≤ p.settleCount + 1 → p.binding ≠ none → 0 < s.settings.cycleDelay →
            ∃ b, p.binding = some b ∧
              let r := provisionalRecord l b p.upAtArming p.deck.pins p.foulFlag formed.points
              u.pdu = s.pdu.set l { q with
                run := .settled, settleCount := p.settleCount + 1, lastSet := some formed.points, windowTimer := none
                cycleTimer := some s.settings.cycleDelay, record := some r }
              ∧ SameInside u ({ s with sensing := u.sensing, pdu := u.pdu }.withLines (s.placeBall r)))
        ∧ (quiet → p.settleTarget ≤ p.settleCount + 1 → s.settings.cycleDelay = 0 → ∀ b, p.binding = some b →
            let r := provisionalRecord l b p.upAtArming p.deck.pins p.foulFlag formed.points
            (u.pdu.get l).run = (if b.test then .idle else .final) ∧ (u.pdu.get l).record = some { r with state := .final }
            ∧ ∃ v : State, .next u.finish.pump = exec (.cycleDelayExpiry l) v
              ∧ v.pdu = s.pdu.set l { q with
                run := .settled, settleCount := p.settleCount + 1, lastSet := some formed.points, windowTimer := none
                cycleTimer := some 0, record := some r }
              ∧ SameInside v ({ s with sensing := u.sensing, pdu := v.pdu }.withLines (s.placeBall r))))
      ∧ (p.run = .settled → ∀ b old standing, p.binding = some b → p.record = some old → old.standing = some standing →
          let fell (pin : Fin 10) : Prop := hasPin standing pin = true ∧ ∃ w, formed.points[pin.val]? = some (some (.low, w))
          ((∀ pin, ¬ fell pin) → SameInside u { s with sensing := u.sensing })
          ∧ ((∃ pin, fell pin) → ∃ left : Pins,
              (∀ pin, hasPin left pin = true ↔ hasPin standing pin = true ∧ ¬ fell pin)
              ∧ let r := { old with
                    standing := some left
                    count := if old.foul then 0 else old.count + (pinCount standing - pinCount left)
                    split := splitFlag b old.foul left }
                u.pdu = s.pdu.set l { p with record := some r }
                ∧ SameInside u ({ s with sensing := u.sensing, pdu := u.pdu }.withLines (s.placeBall r))))
      ∧ ((p.run = .delay ∧ p.elapsed = false) ∨ p.run = .idle ∨ p.run = .armed ∨ p.run = .awaitingEntry ∨ p.run = .final →
          SameInside u { s with sensing := u.sensing }))
  ∧ (∀ (n : Nat) (left right : List Nat) (s : State),
    ((∀ j g, (s.sensing.get j).scan = some g → g.serial ≠ n) → exec (.readout n left right) s = .next s.finish.pump)
    ∧ (∀ f, s.sensing.left.scan = some f → f.serial = n → f.timer ≠ none → left.length ≠ f.length →
        exec (.readout n left right) s = exec (.readoutTimeout .left) s)
    ∧ (∀ f, s.sensing.right.scan = some f → f.serial = n → f.timer ≠ none → right.length ≠ f.length →
        exec (.readout n left right) s = exec (.readoutTimeout .right) s))

/-- R16, R60, R61: when a check matches, and what the DSU's answer makes of a machine in CHECKING. The attempts and the REDO count
stay in FAULT and after a failed resume (log 35: the model's choice). R69: a failed AS_RECORDED resume leaves the deck UNKNOWN
with the count of the set in force before (log 39: the model's choice). A closing rack owed stays owed in a failed resume (log
51: the model's choice). R6, R8, R10, R11, R15, R16, R19: what a readout does with the needs of a lane: a run need takes its
set, a check need requested after it was raised is answered to the PSC, a continuous need sends SCAN_RESULT to the service
link whatever its mask, and a set that no need may take is discarded. One PAIRED readout serves LEFT before RIGHT (log 24: the
model's choice). -/
def Obligations.DeckChecks : Prop :=
  ((∀ (expected : Pins) (points : List PointClass), checkSet expected points = .matched ↔
    (∀ pin : Fin 10, ∃ w, points[pin.val]? = some (some (if hasPin expected pin then .high else .low, w)))
      ∧ ∀ n, n = 10 ∨ n = 11 → ∀ c w, points[n]? = some (some (c, w)) → c = .low)
  ∧ ∀ (s : State) (l : Lane) (r : Recipe) (classes : List PointClass),
    let p := s.psc.get l
    p.state = .checking → p.recipe = some r →
    (∀ o : CheckOutcome, o = .matched ∨ o = .noReading →
      let t := s.checkAnswer l o classes
      (t.pdu.get l) = { s.pdu.get l with deck := r.target }
      ∧ (p.closingOwed = true → r.kind ≠ .full → t.psc.get l
          = { p with closingOwed := false }.takes ⟨.full, .known allPins, .close⟩ .cycling s.settings.stepTimeouts.guardDown)
      ∧ (p.closingOwed = false ∨ r.kind = .full → t.psc.get l = { p with
          state := if s.machineIdles l then .standby else .ready
          cause := none, recipe := none, attempts := 0, closingOwed := false, startTimer := none, stepTimer := none }))
    ∧ (¬ (r.kind = .rerack ∧ r.origin = .resume) → p.attempts ≤ 1 → (s.checkAnswer l .mismatch classes).psc.get l
        = { p.takes r .cycling s.settings.stepTimeouts.guardDown with attempts := p.attempts })
    ∧ (¬ (r.kind = .rerack ∧ r.origin = .resume) → 2 ≤ p.attempts → (s.checkAnswer l .mismatch classes).psc.get l = { p with
        state := .fault, cause := some .deckMismatch, recipe := none, closingOwed := false, startTimer := none, stepTimer := none })
    ∧ (r.kind = .rerack → r.origin = .resume →
        (s.checkAnswer l .mismatch classes).psc.get l = { p with
          state := .service, cause := none, recipe := none, startTimer := none }
        ∧ ((s.checkAnswer l .mismatch classes).pdu.get l).deck = .unknown (s.pdu.get l).deck.count))
  ∧ (∀ (n : Nat) (left right : List Nat) (s : State),
    let raws (l : Lane) : List Nat := match l with
      | .left => left
      | .right => right
    let ended (l : Lane) (v : State) : State := { v with sensing := v.sensing.set l { v.sensing.get l with scan := none } }
    let formed (run : Bool) (l : Lane) : ResultSet := resultSet l false (readSlots run (s.sensing.get l).slots (raws l))
    let taken (run : Bool) (l : Lane) (left : Needs) (v : State) : State :=
      let read := readSlots run (s.sensing.get l).slots (raws l)
      { v with sensing := v.sensing.set l { s.sensing.get l with
          slots := read.map (·.1) ++ (s.sensing.get l).slots.drop read.length, scan := none, needs := left } }
    let under (l : Lane) (f : Scan) : Prop := (s.sensing.get l).scan = some f ∧ f.serial = n ∧ (raws l).length = f.length
    let only (l : Lane) : Prop := raws (otherLane l) = [] ∧ ∀ g, (s.sensing.get (otherLane l)).scan = some g → g.serial ≠ n
    let runs (l : Lane) : Prop := (s.psc.get l).state ≠ .service
    let gives (u : State) : Prop := exec (.readout n left right) s = .next u.finish.pump
    let empty : Needs := ⟨false, none, false⟩
    (∀ l f, under l f → only l →
      let needs := (s.sensing.get l).needs
      let points (run : Bool) : List PointClass := (formed run l).points
      (f.discard = true ∨ needs = empty → gives (ended l s))
      ∧ (∀ run expected, needs = ⟨run, expected, false⟩ → run = false ∨ ¬ runs l → expected = none ∨ f.checkPresent = false →
          gives (ended l s))
      ∧ (f.discard = false → ∀ expected, needs = ⟨false, some expected, false⟩ → f.checkPresent = true →
          gives ((taken false l empty s).checkAnswer l (checkSet expected (points false)) (points false)))
      ∧ (f.discard = false → ∀ expected, needs = ⟨false, expected, true⟩ → expected = none ∨ f.checkPresent = false →
          gives ((taken true l ⟨false, expected, false⟩ s).tell .service (.scanResult (formed true l))))
      ∧ (f.discard = false → ∀ expected, needs = ⟨true, some expected, false⟩ → runs l →
          (f.checkPresent = true → gives (((taken true l empty s).pduTakes l (formed true l)).checkAnswer l
            (checkSet expected (points true)) (points true)))
          ∧ (f.checkPresent = false → gives ((taken true l ⟨false, some expected, false⟩ s).pduTakes l (formed true l)))))
    ∧ (∀ a b, under .left a → under .right b → a.discard = false → b.discard = false →
      let points (l : Lane) : List PointClass := (formed false l).points
      (s.sensing.left.needs = empty → s.sensing.right.needs = empty → gives (ended .left (ended .right s)))
      ∧ (∀ l, (s.sensing.get l).needs = ⟨true, none, false⟩ → runs l → (s.sensing.get (otherLane l)).needs = empty →
          gives ((taken true l empty (ended (otherLane l) s)).pduTakes l (formed true l)))
      ∧ (∀ d e, s.sensing.left.needs = ⟨false, some d, false⟩ → s.sensing.right.needs = ⟨false, some e, false⟩ →
          a.checkPresent = true → b.checkPresent = true →
          gives (((taken false .left empty (taken false .right empty s)).checkAnswer .left (checkSet d (points .left))
            (points .left)).checkAnswer .right (checkSet e (points .right)) (points .right)))
      ∧ (s.sensing.left.needs = ⟨false, none, true⟩ → s.sensing.right.needs = ⟨false, none, true⟩ →
          gives (((taken true .left empty (taken true .right empty s)).tell .service (.scanResult (formed true .left))).tell
            .service (.scanResult (formed true .right))))))

/-! ### Pinfall decisions (chapter 2) -/

/-- R28, R40: an arrival on an ARMED lane whose machine is READY puts the machine IN_PLAY; under AUTO with a known deck the PDU
waits for the pin action, else for an entry. An arrival in any other run state is a dead ball, which sends its notice and
changes nothing. R35: a break in an open foul window sets the flag, and in SETTLED revises the record to a foul of count 0; a
break in a closed window, or with the flag set, changes nothing; the foul grace closes the window. A stopped grace timer's
expiry changes nothing (log 2: the model's choice). A pin action delay of 0 has the effects of R29 and R30 at once; the
revised record takes its place on its line (R96). -/
def Obligations.ArrivalsAndFouls : Prop :=
  (∀ (l : Lane) (s : State),
    let p := s.pdu.get l
    let m := s.psc.get l
    let inPlay (u : State) (p' : Pdu) : Prop :=
      u.psc = s.psc.set l { m with state := .inPlay, cause := none, startTimer := none, stepTimer := none }
        ∧ u.pdu = s.pdu.set l p'
    (p.run ≠ .armed → exec (.arrival l) s
        = .next (s.broadcast (.deadBall (s.laneNumber l) p.run (p.binding.bind (·.line)))).pump)
    ∧ (p.run = .armed → m.state = .ready → p.source = .manual ∨ p.deck.set? = none →
      ∃ u : State, exec (.arrival l) s = .next u.finish.pump
        ∧ inPlay u { p with run := .awaitingEntry, foulOpen := false }
        ∧ SameInside u { s with psc := u.psc, pdu := u.pdu, sessions := u.sessions })
    ∧ (p.run = .armed → m.state = .ready → p.source = .auto → p.deck.set? ≠ none →
      let opened : Pdu := { p with
        run := .delay, lastSet := none, foulOpen := p.foulOpen && decide (0 < s.settings.foulGrace)
        graceTimer := if s.settings.foulGrace = 0 then none else some s.settings.foulGrace }
      ∃ u : State, exec (.arrival l) s = .next u.finish.pump
        ∧ (0 < s.settings.pinActionDelay →
            inPlay u { opened with pinTimer := some s.settings.pinActionDelay }
            ∧ SameInside u { s with psc := u.psc, pdu := u.pdu, sessions := u.sessions })
        ∧ (s.settings.pinActionDelay = 0 →
            inPlay u { opened with
              pinTimer := none, elapsed := true, scanTimer := some s.settings.scanInterval
              settleTarget := s.settings.settleCount
              stalled := p.stalled || ((s.sensing.get l).fault && !p.testing) }
            ∧ (u.sensing.get l).needs.run = true)))
  ∧ (∀ (l : Lane) (s : State),
    let p := s.pdu.get l
    (p.foulOpen = false ∨ p.foulFlag = true → exec (.foulBreak l) s = .next s.finishLines.pump)
    ∧ (p.foulOpen = true → p.foulFlag = false → p.run ≠ .settled → s.dirty = 0#16 →
      ∃ t, exec (.foulBreak l) s = .next t ∧ SameInside t { s with pdu := s.pdu.set l { p with foulFlag := true } })
    ∧ (p.foulOpen = true → p.foulFlag = false → p.run = .settled → ∀ r, p.record = some r →
      let revised : BallRecord := { r with foul := true, count := 0, split := false }
      ∃ u : State, exec (.foulBreak l) s = .next u.finishLines.pump
        ∧ u.pdu = s.pdu.set l { p with foulFlag := true, record := some revised }
        ∧ SameInside u ({ s with pdu := u.pdu }.withLines (s.placeBall revised)))
    ∧ (p.graceTimer ≠ none → ∃ t, exec (.foulGraceExpiry l) s = .next t
        ∧ { t with ports := s.ports } = { s with pdu := s.pdu.set l { p with graceTimer := none, foulOpen := false } })
    ∧ (p.graceTimer = none → exec (.foulGraceExpiry l) s = .next s.pump))

/-- R29, R30: the pin action delay ends with the first run need, which clears every slot's side and wobbling mark; each expiry of
the scan timer raises a run need. R32, R33: the settle window ends SETTLING with the last set received, and the record's
standing set is the pins up whose class there is not LOW. The record carries the pins up at arming (R45) and is placed on its
line (R96). R37: the split flag of a ball in the making. While the pins-up set is UNKNOWN, the pins up are a free value (log
50). A stopped timer's expiry changes nothing before the end of the event (log 2: the model's choice). With a cycle delay of 0
(R192) the ball becomes FINAL in the same event, as the expiry of the cycle delay makes it (R38). -/
def Obligations.RunTimers : Prop :=
  (∀ (l : Lane) (s : State),
    let p := s.pdu.get l
    let x := s.sensing.get l
    (p.pinTimer ≠ none → p.run = .delay → ∃ u : State, exec (.pinActionDelayExpiry l) s = .next u.finish.pump
      ∧ SameInside u { s with
          pdu := s.pdu.set l { p with
            pinTimer := none, elapsed := true, scanTimer := some s.settings.scanInterval
            settleTarget := s.settings.settleCount, stalled := p.stalled || (x.fault && !p.testing) }
          sensing := s.sensing.set l { x with
            slots := x.slots.map fun k => { k with obs := { k.obs with side := none, wobbling := false } }
            needs := { x.needs with run := true } } })
    ∧ (p.scanTimer ≠ none → (p.run = .delay ∧ p.elapsed = true) ∨ p.run = .settling ∨ p.run = .settled →
      ∃ u : State, exec (.scanTimerExpiry l) s = .next u.finish.pump
        ∧ u = { s with
            pdu := s.pdu.set l { p with scanTimer := some s.settings.scanInterval }
            sensing := s.sensing.set l { x with needs := { x.needs with run := true } } })
    ∧ (p.windowTimer ≠ none → p.run = .settling → 0 < s.settings.cycleDelay → ∀ b points, p.binding = some b →
      p.lastSet = some points →
      ∃ (u : State) (r : BallRecord), exec (.settleWindowExpiry l) s = .next u.finish.pump
        ∧ u.pdu = s.pdu.set l { p with
            run := .settled, windowTimer := none, cycleTimer := some s.settings.cycleDelay, record := some r }
        ∧ r.lane = l ∧ r.line = b.line ∧ r.game = b.game ∧ r.frame = b.frame ∧ r.ball = b.ball ∧ r.state = .provisional
        ∧ r.source = (if b.test then .test else .sensed) ∧ r.foul = p.foulFlag ∧ r.pinsUp = p.upAtArming
        ∧ (∃ st, r.standing = some st ∧ r.count = (if p.foulFlag then 0 else pinCount p.deck.pins - pinCount st)
            ∧ r.split = splitFlag b p.foulFlag st
            ∧ ∀ pin : Fin 10, hasPin st pin = true ↔ hasPin p.deck.pins pin = true ∧ ∀ w, points[pin.val]? ≠ some (some (.low, w)))
        ∧ SameInside u ({ s with pdu := u.pdu }.withLines (s.placeBall r)))
    ∧ (p.windowTimer ≠ none → p.run = .settling → s.settings.cycleDelay = 0 → ∀ b points, p.binding = some b →
      p.lastSet = some points →
      let r := provisionalRecord l b p.upAtArming p.deck.pins p.foulFlag points
      ∃ u v : State, exec (.settleWindowExpiry l) s = .next u.finish.pump
        ∧ (u.pdu.get l).run = (if b.test then .idle else .final) ∧ (u.pdu.get l).record = some { r with state := .final }
        ∧ .next u.finish.pump = exec (.cycleDelayExpiry l) v
        ∧ v.pdu = s.pdu.set l { p with run := .settled, windowTimer := none, cycleTimer := some 0, record := some r }
        ∧ SameInside v ({ s with pdu := v.pdu }.withLines (s.placeBall r)))
    ∧ (p.pinTimer = none → exec (.pinActionDelayExpiry l) s = .next s.finish.pump)
    ∧ (p.scanTimer = none → exec (.scanTimerExpiry l) s = .next s.finish.pump)
    ∧ (p.windowTimer = none → exec (.settleWindowExpiry l) s = .next s.finish.pump))
  ∧ (∀ (b : Binding) (foul : Bool), (∀ f, b.frame = some f → f ≤ 10) →
    let eligible : Prop := (∃ f, b.frame = some f ∧ f ≤ 9 ∧ b.ball = some 1) ∨ (b.frame = some 10 ∧ b.fullRack = true)
    (∀ standing : Pins, splitFlag b foul standing = true ↔ eligible ∧ foul = false ∧ hasPin standing 0 = false
      ∧ 2 ≤ pinCount standing ∧ ¬ ∀ p q : Fin 10, hasPin standing p = true → hasPin standing q = true →
          Relation.ReflTransGen (fun a b => hasPin standing a = true ∧ hasPin standing b = true ∧ hasPin (adjacent a) b = true) p q)
    ∧ ∀ (l : Lane) (armed : Option Pins) (up : Pins) (points : List PointClass),
      let r := provisionalRecord l b armed up foul points
      ∃ st, r.standing = some st ∧ r.split = splitFlag b foul st
        ∧ ∀ pin : Fin 10, hasPin st pin = true ↔ hasPin up pin = true ∧ ∀ w, points[pin.val]? ≠ some (some (.low, w)))

/-- The table of R38: the recipe chosen from a final record and its binding, and the deck it leaves, row by row. Without a
standing set the deck left is UNKNOWN with the pins up minus the count (R43). -/
def Obligations.RecipeTable : Prop :=
  ∀ (b : Binding) (r : BallRecord) (d : Deck) (strike : Bool),
    let allDown : Prop := r.count = d.count ∧ r.foul = false
    let full := chooseRecipe b r d strike = (.full, .known allPins)
    let pick := (∀ st, r.standing = some st → chooseRecipe b r d strike = (.pick, .known st))
      ∧ (r.standing = none → chooseRecipe b r d strike = (.pick, .unknown (d.count - r.count)))
    (∀ f, b.frame = some f → 1 ≤ f → f ≤ 10 →
      (b.ball = some 1 → (allDown ∨ r.foul = true → full) ∧ (¬ (allDown ∨ r.foul = true) → pick))
      ∧ (b.ball = some 2 → f ≤ 9 ∨ strike = false → full)
      ∧ (b.ball = some 2 → f = 10 → strike = true → (allDown ∨ r.foul = true → full) ∧ (¬ (allDown ∨ r.foul = true) → pick))
      ∧ (b.ball = some 3 → full))
    ∧ (b.frame = none → (allDown ∨ r.foul = true → full) ∧ (¬ (allDown ∨ r.foul = true) → pick))

/-- R38, R52, R43, R44: at the cycle delay's expiry the record becomes FINAL, and so does a ball entered by request: the run need
is dropped, no timer runs, the record is final, and a machine IN_PLAY takes the recipe of the table with origin PLAY; after a
test ball the PDU is IDLE. An entry with no ball awaiting it is refused STATE, and one above the remaining pins RANGE. On a
test binding an entered ball has source TEST (log 32: the model's choice). A stopped cycle timer's expiry changes nothing (log
2), the record is kept after FINAL (log 14), and the binding is absent in IDLE (log 15): the model's choices. R96: where a
record is placed on a line or removed from it, the line is computed again; R97: what follows a FINAL ball on its line. R67: in
SERVICE the recipe is taken with origin TEST, or ignored. -/
def Obligations.BallsBecomeFinal : Prop :=
  (∀ (l : Lane) (s : State),
    let p := s.pdu.get l
    let x := s.sensing.get l
    let final (base u : State) (b : Binding) (r : BallRecord) : Prop :=
      let run : Pdu := { p with
        run := .final, foulOpen := false, pinTimer := none, scanTimer := none, windowTimer := none, graceTimer := none
        cycleTimer := none, record := some r }
      u.pdu = s.pdu.set l (if b.test then { run with run := .idle, binding := none, foulFlag := false } else run)
      ∧ u.sensing = s.sensing.set l { x with needs := { x.needs with run := false } }
      ∧ ((s.psc.get l).state = .inPlay → b.frame ≠ some 10 ∨ b.ball ≠ some 2 →
          let c := chooseRecipe b r p.deck false
          u.psc.get l = (s.psc.get l).takes ⟨c.1, c.2, .play⟩ .cycling s.settings.stepTimeouts.guardDown)
      ∧ ((s.psc.get l).state = .service → b.frame ≠ some 10 ∨ b.ball ≠ some 2 →
          let c := chooseRecipe b r p.deck false
          let m := s.psc.get l
          (m.step = none → m.recipe = none → u.psc.get l = { m.takes ⟨c.1, c.2, .test⟩ .service s.settings.stepTimeouts.guardDown with
            cause := m.cause, startTimer := m.startTimer })
          ∧ (m.step ≠ none ∨ m.recipe ≠ none → u.psc.get l = m
            ∧ (r.line = none → u.ports = ((base.broadcast (.ballFinal r none)).tell .service
                (.recipeIgnored (s.laneNumber l) c.1)).ports)))
      ∧ u.ret = s.ret ∧ u.head = s.head ∧ u.settings = s.settings ∧ u.rates = s.rates ∧ u.handicap = s.handicap
      ∧ (∃ v : State, u = v.advanceFor r ∧ SameInside v
          ({ s with pdu := u.pdu, sensing := u.sensing, psc := v.psc, sessions := v.sessions }.withLines (s.placeBall r)))
      ∧ (r.line = none → SameInside u { s with pdu := u.pdu, sensing := u.sensing, psc := u.psc, sessions := u.sessions })
    (p.cycleTimer ≠ none → p.run = .settled → ∀ b r, p.binding = some b → p.record = some r →
      ∃ u : State, exec (.cycleDelayExpiry l) s = .next u.finish.pump ∧ final s u b { r with state := .final })
    ∧ (p.cycleTimer = none → exec (.cycleDelayExpiry l) s = .next s.finish.pump)
    ∧ ∀ (k : Link) (tag : Tag) (lane count : Nat) (foul : Bool), LinkIdle s k → k = .desk ∨ k = .console → laneOf lane = some l →
      let q := Request.manualBall lane count foul
      (∀ b, p.run = .awaitingEntry → p.binding = some b → count ≤ p.deck.count →
        ∃ u : State, exec (.manualBall k tag lane count foul) s = .next (u.answered k tag q (.ok []))
          ∧ final (s.queuedUp k tag q) u b {
              lane := l, line := b.line, game := b.game, frame := b.frame, ball := b.ball, pinsUp := p.upAtArming
              standing := none, count := if foul || p.foulFlag then 0 else count, foul := foul || p.foulFlag
              split := false, source := if b.test then .test else .manual, state := .final })
      ∧ (p.run = .awaitingEntry → p.binding ≠ none → p.deck.count < count → exec (.manualBall k tag lane count foul) s
          = .next ((s.queuedUp k tag q).answered k tag q (.refused .range)))
      ∧ (p.run ≠ .awaitingEntry → exec (.manualBall k tag lane count foul) s
          = .next ((s.queuedUp k tag q).answered k tag q (.refused .state))))
  ∧ (∀ (s : State) (b : BallRecord),
    (b.line = none ∨ (∃ i, b.line = some i ∧ s.line i = none) → s.placeBall b = s ∧ s.removeBall b = s)
    ∧ ∀ i l f n, b.line = some i → s.line i = some l → (s.groups.get l.group).game = b.game → b.frame = some f → b.ball = some n →
      1 ≤ n →
      let becomes (t : State) (frames : List FrameRecord) : Prop :=
        t.line i = some (computeLine s.handicap { l with frames := frames }) ∧ (∀ j, j ≠ i → t.line j = s.line j)
          ∧ (∀ j : LineId, t.dirty.getLsbD j.val = (s.dirty.getLsbD j.val || decide (j = i)))
          ∧ (∀ g, { t.groups.get g with
              runningTotal := (s.groups.get g).runningTotal, groupTotal := (s.groups.get g).groupTotal } = s.groups.get g)
          ∧ { t with lines := s.lines, groups := s.groups, dirty := s.dirty } = s
      ((∀ x ∈ l.frames, x.number ≠ f) → becomes (s.placeBall b) (l.frames ++ [⟨f, false, [b], none, none, none, []⟩]))
      ∧ ((∃ x ∈ l.frames, x.number = f) → becomes (s.placeBall b) (l.frames.map fun x => if x.number = f then
            { x with balls := if n ≤ x.balls.length then x.balls.set (n - 1) b else x.balls ++ [b] } else x))
      ∧ becomes (s.removeBall b) ((l.frames.map fun x => if x.number = f then
            { x with balls := x.balls.eraseIdx (n - 1) } else x).filter fun x =>
          !(decide (x.number = f) && x.balls.isEmpty && !x.missed)))

/-- R42, R44: what set-scoring-source does in each run state, and where AUTO is refused; an accepted arm-test starts a test run on
the set given, and is refused STATE elsewhere. R26, R27, R39: arming, rebinding and disarming. A rebinding takes the pins up
afresh (log 25); the binding and the foul flag go on the way from FINAL to IDLE (log 15): the model's choices. -/
def Obligations.SourcesAndTests : Prop :=
  (∀ (tag : Tag) (lane : Nat) (l : Lane) (s : State), laneOf lane = some l →
    let p := s.pdu.get l
    let x := s.sensing.get l
    (∀ (k : Link) (source : Nat) (src : ScoringSource), LinkIdle s k → k = .desk ∨ k = .service → sourceOf source = some src →
      let q := Request.setScoringSource lane source
      let becomes (p' : Pdu) (needs : Needs) : Prop :=
        ∃ u : State, exec (.setScoringSource k tag lane source) s = .next (u.answered k tag q (.ok []))
          ∧ SameInside u { s with pdu := s.pdu.set l p', sensing := s.sensing.set l { x with needs := needs } }
      let manual : Pdu := { p with source := .manual }
      (src = p.source → becomes p x.needs)
      ∧ (src = .manual → p.source = .auto →
          (p.run = .idle ∨ p.run = .awaitingEntry ∨ p.run = .final → becomes manual x.needs)
          ∧ (p.run = .armed → becomes { manual with foulOpen := false } x.needs)
          ∧ (p.run = .delay ∨ p.run = .settling → becomes { manual with
              run := .awaitingEntry, foulOpen := false, lastSet := none, pinTimer := none, scanTimer := none
              windowTimer := none, graceTimer := none, cycleTimer := none } { x.needs with run := false })
          ∧ (p.run = .settled → becomes { manual with scanTimer := none } { x.needs with run := false }))
      ∧ (src = .auto → p.source = .manual →
          let allowed : Prop := (p.run = .idle ∨ p.run = .armed) ∧ x.fault = false ∧ p.deck.set? ≠ none
          (allowed → becomes { p with source := .auto } x.needs)
          ∧ (¬ allowed → exec (.setScoringSource k tag lane source) s
              = .next ((s.queuedUp k tag q).answered k tag q (.refused .state)))))
    ∧ (∀ (pins : Nat) (up : Pins), LinkIdle s .service → pinsOf pins = some up → up ≠ 0#10 →
      let q := Request.armTest lane pins
      let ready : Prop := (s.psc.get l).state = .service ∧ x.runMode = .normal ∧ p.run = .idle
      (ready → 0 < s.settings.pinActionDelay →
        ∃ u : State, exec (.armTest .service tag lane pins) s = .next (u.answered .service tag q (.ok []))
          ∧ SameInside u { s with pdu := s.pdu.set l { p with
              run := .delay, deck := .known up, upAtArming := some up
              binding := some ⟨none, none, none, none, decide (up = allPins), true⟩
              foulFlag := false, foulOpen := false, elapsed := false, settleCount := 0, stalled := false, lastSet := none
              pinTimer := some s.settings.pinActionDelay } })
      ∧ (¬ ready → exec (.armTest .service tag lane pins) s
          = .next ((s.queuedUp .service tag q).answered .service tag q (.refused .state)))))
  ∧ (∀ (s : State) (l : Lane),
    let p := s.pdu.get l
    let t := s.pduSync l
    let ready : Prop := (s.psc.get l).state = .ready
    let e := s.expectedDeck l
    let d : Deck := if p.deck = e ∨ p.deck = .unknown e.count then p.deck else .unknown e.count
    let idle : Pdu := { p with run := .idle, binding := none, foulOpen := false, foulFlag := false }
    let becomes (q : Pdu) : Prop := SameInside t { s with pdu := s.pdu.set l q }
    (∀ i f n g, ready → s.upBowler l = some (i, f, n) → (s.lanes.get l).occupant = some g →
      let b : Binding := { line := some i, game := (s.groups.get g).game, frame := some f, ball := some n
                           fullRack := decide (d = .known allPins), test := false }
      (p.run = .idle ∨ p.run = .final →
        becomes { p with
            run := .armed, binding := some b, deck := d, upAtArming := d.set?, foulFlag := false, elapsed := false, settleCount := 0
            stalled := false, foulOpen := (s.sessions.get l).foulDetect && decide (p.source = .auto) }
          ∧ (t.feeds.get l).lastBall = none)
      ∧ (p.run = .armed → (∃ old, p.binding = some old ∧ old.line = some i ∧ old.game = b.game ∧ old.frame = some f
          ∧ old.ball = some n) → t = s)
      ∧ (p.run = .armed → (∀ old, p.binding = some old → ¬ (old.line = some i ∧ old.game = b.game ∧ old.frame = some f
          ∧ old.ball = some n)) → becomes { p with binding := some b, deck := d, upAtArming := d.set? }))
    ∧ (¬ ready ∨ s.upBowler l = none → p.run = .armed → becomes idle)
    ∧ (ready → s.upBowler l = none → p.run = .final → becomes idle)
    ∧ (p.run = .delay ∨ p.run = .settling ∨ p.run = .settled ∨ p.run = .awaitingEntry
        ∨ ((p.run = .idle ∨ p.run = .final) ∧ ¬ ready) ∨ (p.run = .idle ∧ s.upBowler l = none) → t = s))

/-! ### Pinsetter control (chapter 3) -/

/-- R49, R53, R57, R60, R66: the start timer's expiry takes the FULL recipe of the start; DONE issues the next step of the recipe,
or holds a SWEEP whose pit is full, or, at the last step, enters CHECKING with the check need raised; in SERVICE it ends the
step. A start timer's expiry outside STARTING or with the timer stopped changes nothing (log 2: the model's choice). R67: DONE
of a step of a test recipe in SERVICE, and the SWEEP that it holds. R50: the standby condition of a machine, and what the end
of an event makes of it (log 52: it is judged there alone, the model's choice). A frozen group that holds the lane or its
waiting place counts there (log 57: the model's choice). What the end of an event makes of it has the model's invariants as
premises: a session is PAUSED from OPEN or OVERTIME, never from CLOSED or LOCKED (R148), and the pit hold of a READY or STARTING
machine is off (R57, R59); `FiguresStayInBounds` states both. -/
def Obligations.StepsFollowOneAnother : Prop :=
  (∀ (l : Lane) (s : State),
    let p := s.psc.get l
    (p.state = .starting → p.startTimer ≠ none → ∃ t, exec (.startTimerExpiry l) s = .next t
      ∧ t.psc = s.psc.set l (p.takes ⟨.full, .known allPins, .start⟩ .cycling s.settings.stepTimeouts.guardDown)
      ∧ SameInside t { s with psc := t.psc, sessions := t.sessions })
    ∧ (p.state ≠ .starting ∨ p.startTimer = none → exec (.startTimerExpiry l) s = .next s.feedLoads.pump)
    ∧ (∀ k, p.step = some k → p.windingDown = false → p.state = .cycling →
      (∀ next rest, p.queue = next :: rest → next ≠ .sweep ∨ (s.ret.pits.get l).length < 2 →
        ∃ u : State, exec (.done l) s = .next u.finish.pump
          ∧ SameInside u { s with
              psc := s.psc.set l { p with
                step := some next, queue := rest ++ p.remainder.toList, remainder := none, redo := 0
                stepTimer := some (100 * stepTime s.settings.stepTimeouts next), pitHold := false }
              ret := { s.ret with holds := s.ret.holds.set l false } })
      ∧ (∀ rest, p.queue = .sweep :: rest → 2 ≤ (s.ret.pits.get l).length →
        ∃ u : State, exec (.done l) s = .next u.finish.pump
          ∧ SameInside u { s with
              psc := s.psc.set l { p with
                state := .heldPit, cause := none, step := none, startTimer := none, stepTimer := none, pitHold := true }
              ret := { s.ret with holds := s.ret.holds.set l true }, sessions := u.sessions })
      ∧ (∀ r pins, p.queue = [] → p.recipe = some r → r.target = .known pins → (s.pdu.get l).source = .auto →
        (s.sensing.get l).fault = false →
        ∃ u : State, exec (.done l) s = .next u.finish.pump
          ∧ SameInside u { s with
              psc := s.psc.set l { p with
                state := .checking, cause := none, step := none, startTimer := none, stepTimer := none
                attempts := p.attempts + 1 }
              sensing := s.sensing.set l { s.sensing.get l with
                needs := { (s.sensing.get l).needs with check := some pins }
                scan := (s.sensing.get l).scan.map fun f => { f with checkPresent := false } }
              sessions := u.sessions })
      ∧ (∀ r, p.queue = [] → p.recipe = some r →
          (s.pdu.get l).source = .manual ∨ r.target.set? = none ∨ (s.sensing.get l).fault = true →
        ∃ u : State, exec (.done l) s = .next u.finish.pump ∧ u.pdu = s.pdu.set l { s.pdu.get l with deck := r.target }
          ∧ u.sensing = s.sensing
          ∧ (p.closingOwed = false ∨ r.kind = .full → (u.psc.get l).recipe = none ∧ (u.psc.get l).attempts = 0
              ∧ (u.psc.get l).closingOwed = false ∧ ((u.psc.get l).state = .ready ∨ (u.psc.get l).state = .standby)
              ∧ ((s.sessions.get l).state ≠ .paused → (u.psc.get l).state = (if s.machineIdles l then .standby else .ready)))
          ∧ (p.closingOwed = true → r.kind ≠ .full → u.psc.get l
              = { p with closingOwed := false }.takes ⟨.full, .known allPins, .close⟩ .cycling
                  s.settings.stepTimeouts.guardDown)))
    ∧ (∀ k, p.step = some k → p.windingDown = false → p.state = .service →
      let told (u : State) : State := u.tell .service (.stepResult (s.laneNumber l) k none)
      (p.recipe = none → exec (.done l) s
        = .next (told { s with psc := s.psc.set l { p with step := none, stepTimer := none } }).finish.pump)
      ∧ (∀ r next rest, p.recipe = some r → p.queue = next :: rest → next ≠ .sweep ∨ (s.ret.pits.get l).length < 2 →
        exec (.done l) s = .next (told { s with
          psc := s.psc.set l { p with
            step := some next, queue := rest ++ p.remainder.toList, remainder := none, redo := 0
            stepTimer := some (100 * stepTime s.settings.stepTimeouts next), pitHold := false }
          ret := { s.ret with holds := s.ret.holds.set l false } }).finish.pump)
      ∧ (∀ r rest, p.recipe = some r → p.queue = .sweep :: rest → 2 ≤ (s.ret.pits.get l).length →
        exec (.done l) s = .next (told { s with
          psc := s.psc.set l { p with step := none, stepTimer := none, pitHold := true }
          ret := { s.ret with holds := s.ret.holds.set l true } }).finish.pump)
      ∧ (∀ r, p.recipe = some r → p.queue = [] →
        exec (.done l) s = .next ((told { s with
          psc := s.psc.set l { p with step := none, stepTimer := none, recipe := none }
          pdu := s.pdu.set l { s.pdu.get l with deck := r.target } }).tell .service
            (.testCycleDone (s.laneNumber l))).finish.pump))
    ∧ (∀ rest, p.state = .service → p.pitHold = true → p.queue = .sweep :: rest → (s.ret.pits.get l).length < 2 →
      s.releaseHold l = { s with
        psc := s.psc.set l { p with
          step := some .sweep, queue := rest ++ p.remainder.toList, remainder := none, redo := 0
          stepTimer := some (100 * s.settings.stepTimeouts.sweep), pitHold := false }
        ret := { s.ret with holds := s.ret.holds.set l false } })
    ∧ (∀ k, p.step = some k → p.windingDown = true → (s.sessions.get l).state = .closed ∨ (s.sessions.get l).state = .opening →
      ∃ u : State, exec (.done l) s = .next u.finish.pump
        ∧ (u.psc.get l).state = (if (s.sessions.get l).state = .closed then .standby else .starting)
        ∧ (u.psc.get l).step = none ∧ (u.psc.get l).windingDown = false))
  ∧ (∀ (s : State) (l : Lane),
    let p := s.psc.get l
    let idle (v : State) : Prop := (v.sessions.get l).state = .closed
      ∨ ((v.sessions.get l).state = .locked ∧ ∀ g, (v.lanes.get l).occupant = some g ∨ (v.lanes.get l).waiter = some g →
          (v.groups.get g).inProgress = false)
    let rested : Pinsetter := { p with state := .standby, cause := none, startTimer := none, stepTimer := none }
    let t := s.finish
    (s.machineIdles l = true ↔ idle s)
    ∧ (p.state = .ready ∨ p.state = .starting → idle s → SameInside (s.machineStandby l) { s with psc := s.psc.set l rested })
    ∧ (¬ idle s ∨ (p.state ≠ .ready ∧ p.state ≠ .starting) → s.machineStandby l = s)
    ∧ ((∀ j, (s.sessions.get j).pausedFrom ≠ some .closed ∧ (s.sessions.get j).pausedFrom ≠ some .locked) →
        (t.psc.get l).state = .ready ∨ (t.psc.get l).state = .starting → ¬ idle t)
    ∧ (p.state = .ready ∨ p.state = .starting → p.pitHold = false → idle s →
        (∀ j, (s.sensing.get j).needs = ⟨false, none, false⟩) → t.psc.get l = rested))

/-- R54, R55, R66: a REDO below the limit restarts the step; a fourth REDO, a FAULT completion and the step timer's expiry fail
the machine: the recipe is emptied and the machine enters FAULT with the cause, or stays in SERVICE. R56: a completion of any
kind with no step executing changes no state but the stray count, which saturates, and sends no notice. The attempts and the
REDO count stay in FAULT (log 35: the model's choice). -/
def Obligations.StepsFail : Prop :=
  (∀ (l : Lane) (k : StepKind) (s : State), (s.psc.get l).step = some k →
    let p := s.psc.get l
    let fails (c : Instr) (cause : FaultCause) : Prop :=
      let ended : Pinsetter := { p with
        step := none, queue := [], remainder := none, recipe := none, stepTimer := none, pitHold := false }
      ∃ u : State, exec c s = .next u.finish.pump
        ∧ u.ret = { s.ret with holds := s.ret.holds.set l false }
        ∧ (p.state = .service → u = { s with psc := s.psc.set l ended, ret := u.ret }.tell .service
            (.stepResult (s.laneNumber l) k (some cause)))
        ∧ (p.state ≠ .service → SameInside u { s with
            psc := s.psc.set l { ended with
              state := .fault, cause := some cause, closingOwed := false, windingDown := false, startTimer := none }
            ret := u.ret, sessions := u.sessions })
    (p.redo < 3 → ∃ t, exec (.redo l) s = .next t
      ∧ { t with ports := s.ports } = { s with psc := s.psc.set l { p with
          redo := p.redo + 1, stepTimer := some (100 * stepTime s.settings.stepTimeouts k) } })
    ∧ (3 ≤ p.redo → fails (.redo l) .redoLimit)
    ∧ fails (.faultCompletion l .jam) .jam ∧ fails (.faultCompletion l .motor) .motor
    ∧ fails (.faultCompletion l .table) .table ∧ fails (.faultCompletion l .guard) .guard
    ∧ (p.stepTimer ≠ none → fails (.stepTimerExpiry l) .timeout))
  ∧ (∀ (l : Lane) (c : Instr) (s : State), (s.psc.get l).step = none →
    c = .done l ∨ c = .redo l ∨ (∃ cause, c = .faultCompletion l cause) →
    ∃ t, exec c s = .next t ∧ (∀ k, t.port k = (s.port k).pump)
      ∧ { t with ports := s.ports }
        = { s with psc := s.psc.set l { s.psc.get l with stray := min 65535 ((s.psc.get l).stray + 1) } })

/-- R63, R65: re-rack of a READY machine takes the RERACK recipe on the deck it has; issue-step in SERVICE issues the step, but
for a SWEEP whose pit is full. In other states they are refused. -/
def Obligations.StepsByRequest : Prop :=
  ∀ (tag : Tag) (lane : Nat) (l : Lane) (s : State), laneOf lane = some l →
    let p := s.psc.get l
    (∀ k : Link, LinkIdle s k → k = .desk ∨ k = .console →
      (p.state = .ready → ∃ u : State, exec (.reRack k tag lane) s = .next (u.answered k tag (.reRack lane) (.ok []))
        ∧ SameInside u { s with
            psc := s.psc.set l (p.takes ⟨.rerack, (s.pdu.get l).deck, .rerack⟩ .cycling s.settings.stepTimeouts.guardDown)
            sessions := u.sessions })
      ∧ (p.state ≠ .ready → exec (.reRack k tag lane) s
          = .next ((s.queuedUp k tag (.reRack lane)).answered k tag (.reRack lane) (.refused .state))))
    ∧ (∀ (step : Nat) (k : StepKind), LinkIdle s .service → stepOf step = some k →
      let q := Request.issueStep lane step
      let refused (c : Code) : Prop := ∃ t, exec (.issueStep .service tag lane step) s = .next t
        ∧ Replied t .service tag q (.refused c) ∧ OthersIdle s t .service ∧ { t with ports := s.ports } = s
      let full : Prop := k = .sweep ∧ 2 ≤ (s.ret.pits.get l).length
      (p.state ≠ .service → refused .state)
      ∧ (p.state = .service → p.step ≠ none ∨ p.recipe ≠ none → refused .busy)
      ∧ (p.state = .service → p.step = none → p.recipe = none → full → refused .state)
      ∧ (p.state = .service → p.step = none → p.recipe = none → ¬ full →
        ∃ t, exec (.issueStep .service tag lane step) s = .next t ∧ Replied t .service tag q (.ok []) ∧ OthersIdle s t .service
          ∧ { t with ports := s.ports } = { s with psc := s.psc.set l { p with
              step := some k, redo := 0, stepTimer := some (100 * stepTime s.settings.stepTimeouts k) } }))

/-- R64, R68, R69: the service stop of a machine in play, its clear of a fault and its resume: the state each leaves, with the
deck, the run, the recipe and the check. A stop in SETTLED takes the provisional record off its line (R41, R96). -/
def Obligations.MechanicStopsAndResumes : Prop :=
  ∀ (tag : Tag) (lane : Nat) (l : Lane) (s : State), LinkIdle s .service → laneOf lane = some l →
    let p := s.psc.get l
    let d := s.pdu.get l
    let dropped (u : State) : Prop := (u.pdu.get l).run = .idle ∧ (u.pdu.get l).deck = .unknown d.deck.count
      ∧ (d.run ≠ .idle → (u.pdu.get l).binding = none ∧ (u.sensing.get l).needs.run = false)
      ∧ u.pdu.get (otherLane l) = s.pdu.get (otherLane l)
    ((p.state = .off ∨ p.state = .fault) → exec (.stopMachine .service tag lane) s
        = .next ((s.queuedUp .service tag (.stopMachine lane)).answered .service tag (.stopMachine lane) (.refused .state)))
    ∧ (p.state ≠ .off → p.state ≠ .fault → p.state ≠ .service →
      ∃ u : State, exec (.stopMachine .service tag lane) s
            = .next (u.answered .service tag (.stopMachine lane) (.ok []))
        ∧ u.psc = s.psc.set l { p with
            state := .service, cause := none, recipe := none, step := none, queue := [], remainder := none, attempts := 0
            closingOwed := false, windingDown := false, pitHold := false, startTimer := none, stepTimer := none }
        ∧ u.ret = { s.ret with holds := s.ret.holds.set l false } ∧ (u.sensing.get l).needs.check = none ∧ dropped u
        ∧ let stopped : State := { s with
            psc := u.psc, ret := u.ret, pdu := u.pdu, sensing := u.sensing, sessions := u.sessions }
          (d.run ≠ .settled ∨ d.testing = true → SameInside u stopped)
          ∧ ∀ r, d.run = .settled → d.testing = false → d.record = some r →
            SameInside u (stopped.withLines (s.removeBall r)))
    ∧ (p.state = .fault →
      ∃ u : State, exec (.clearFault .service tag lane) s = .next (u.answered .service tag (.clearFault lane) (.ok []))
        ∧ u.psc = s.psc.set l { p with state := .service, cause := none, startTimer := none } ∧ dropped u)
    ∧ (p.state ≠ .fault → exec (.clearFault .service tag lane) s
        = .next ((s.queuedUp .service tag (.clearFault lane)).answered .service tag (.clearFault lane) (.refused .state)))
    ∧ (p.state = .service → p.step = none → p.recipe = none →
      (∀ pins, s.expectedDeck l = .known pins → d.source = .auto → (s.sensing.get l).fault = false →
        ∃ u : State, exec (.resumeMachine .service tag lane 0) s
              = .next (u.answered .service tag (.resumeMachine lane 0) (.ok []))
          ∧ u.psc = s.psc.set l { p with
              state := .checking, cause := none, recipe := some ⟨.rerack, .known pins, .resume⟩, attempts := 1
              startTimer := none, stepTimer := none }
          ∧ (u.sensing.get l).needs.check = some pins ∧ (u.sensing.get l).runMode = .normal
          ∧ (u.sensing.get l).injection = none)
      ∧ (s.expectedDeck l = .known allPins →
        ∃ u : State, exec (.resumeMachine .service tag lane 1) s
              = .next (u.answered .service tag (.resumeMachine lane 1) (.ok []))
          ∧ u.psc = s.psc.set l (p.takes ⟨.full, .known allPins, .resume⟩ .cycling s.settings.stepTimeouts.guardDown))
      ∧ (s.expectedDeck l ≠ .known allPins → exec (.resumeMachine .service tag lane 1) s
          = .next ((s.queuedUp .service tag (.resumeMachine lane 1)).answered .service tag (.resumeMachine lane 1)
              (.refused .state))))

/-! ### The ball return and the monitor feed (chapters 4 and 9) -/

/-- R74, R75, R77, R78, R79: the events of the return. R76: the take. A return that is RUNNING with the lift empty and room on the
rack takes the front ball of a pit; with a hold on, only of a lane whose hold is on; of two candidates the older, by the
stamps. A stopped carry timer's expiry, and an overflow in an IDLE return, which R75 says cannot be, change nothing (log 2:
the model's choice). R81: the idle condition of the return, and what the end of an event makes of it, but for the pit holds,
which the sweeps released in the event turn off (R58); as a premise no session is PAUSED from CLOSED, the invariant of R148 that
`FiguresStayInBounds` states. -/
def Obligations.ReturnEvents : Prop :=
  (∀ s : State,
    let r := s.ret
    let quietly (c : Instr) (r' : BallReturn) : Prop :=
      ∃ u : State, exec c s = .next u.finishReturn.pump ∧ SameInside u { s with ret := r' }
    let failed (c : Instr) (cause : ReturnCause) : Prop :=
      ∃ u : State, exec c s = .next u.finish.pump
        ∧ SameInside u { s with
            ret := { r with state := .fault, cause := some cause, carryTimer := none }, sessions := u.sessions }
    (∀ l : Lane,
      ((r.pits.get l).length < 2 → quietly (.pitDetector l) { r with
        pits := r.pits.set l (r.pits.get l ++ [r.stampCounter]), stampCounter := (r.stampCounter + 1) % 65536 })
      ∧ (2 ≤ (r.pits.get l).length → r.state = .running → failed (.pitDetector l) .pitOverflow)
      ∧ (2 ≤ (r.pits.get l).length → r.state ≠ .running → quietly (.pitDetector l) r))
    ∧ (r.lift ≠ none → quietly .liftTopSensor { r with lift := none, carryTimer := none, rack := r.rack + 1 })
    ∧ (r.lift = none → quietly .liftTopSensor { r with liftGlitches := min 65535 (r.liftGlitches + 1) })
    ∧ (0 < r.rack → quietly .rackTake { r with rack := r.rack - 1 })
    ∧ (r.rack = 0 → quietly .rackTake { r with rackGlitches := min 65535 (r.rackGlitches + 1) })
    ∧ (r.carryTimer ≠ none → r.lift ≠ none → r.state = .running → failed .carryTimerExpiry .liftJam)
    ∧ (r.carryTimer = none → quietly .carryTimerExpiry r))
  ∧ (∀ (r : BallReturn) (capacity timeout : Nat),
    let held : Prop := r.holds.left = true ∨ r.holds.right = true
    let candidate (l : Lane) (a : Nat) : Prop := (∃ rest, r.pits.get l = a :: rest) ∧ (held → r.holds.get l = true)
    let takes (l : Lane) (a : Nat) : Prop := r.take capacity timeout = { r with
      pits := r.pits.set l ((r.pits.get l).drop 1), lift := some ⟨a, l⟩, carryTimer := some (100 * timeout) }
    (r.state = .running → r.lift = none → r.rack < capacity → ∀ l a, candidate l a →
      ((∀ b, ¬ candidate (otherLane l) b) → takes l a)
      ∧ (∀ b, candidate (otherLane l) b → 1 ≤ (b + 65536 - a) % 65536 → (b + 65536 - a) % 65536 ≤ 32767 → takes l a))
    ∧ (r.state ≠ .running ∨ r.lift ≠ none ∨ capacity ≤ r.rack ∨ (∀ l a, ¬ candidate l a) → r.take capacity timeout = r))
  ∧ (∀ s : State,
    let idle (v : State) : Prop := ∀ l, (v.sessions.get l).state = .closed ∧ v.ret.pits.get l = [] ∧ v.ret.lift = none
    (s.returnIdles = true ↔ idle s)
    ∧ (s.ret.state = .running → idle s →
        { s.returnPump.ret with holds := s.ret.holds } = { s.ret with state := .idle, cause := none })
    ∧ (s.ret.state = .idle → ¬ idle s → s.returnPump.ret.state = .running)
    ∧ ∀ t : State, t = s.returnPump ∨ t = s.finish ∨ t = s.finishReturn →
        (s.ret.state = .fault → t.ret.state = .fault)
        ∧ (s.ret.state ≠ .fault → (∀ l, (s.sessions.get l).pausedFrom ≠ some .closed) →
            (idle t → t.ret.state = .idle) ∧ (¬ idle t → t.ret.state = .running)))

/-- R83: an accepted clear-return removes the balls reported, from the lift and from the front of each pit, takes the rack count
given, leaves FAULT, and carries on a ball left in the lift; with nothing left in the pits and the lift the return is RUNNING,
or IDLE when both sessions are CLOSED. A value outside its range is refused RANGE. An absent lift field is four bytes FF (log
8: the model's choice). With the lift empty and balls left in a pit, the holds whose pit has room go off before the take is
considered (R58, R76). -/
def Obligations.ClearReturnClears : Prop :=
  ∀ (tag : Tag) (lift left right : Nat) (rack : Option Nat) (s : State), LinkIdle s .service →
    let r := s.ret
    let q := Request.clearReturn lift left right rack
    let room := s.settings.rackCapacity - (r.inLift - lift)
    let ok : Prop := lift ≤ 1 ∧ left ≤ 3 ∧ right ≤ 3 ∧ (lift = 1 → r.lift ≠ none) ∧ ∀ n, rack = some n → n ≤ room
    let a := r.pits.left.drop left
    let b := r.pits.right.drop right
    (¬ ok → exec (.clearReturn .service tag lift left right rack) s
        = .next ((s.queuedUp .service tag q).answered .service tag q (.refused .range)))
    ∧ (ok → ∀ ball, r.lift = some ball → lift = 0 →
      ∃ u : State, exec (.clearReturn .service tag lift left right rack) s
            = .next (u.answered .service tag q
                (.ok (be 1 a.length ++ be 1 b.length ++ be 3 ball.stamp ++ be 1 (Lane.code ball.lane) ++ be 1 (rack.getD r.rack))))
        ∧ { u.ret with holds := r.holds } = { r with
            state := .running, cause := u.ret.cause, pits := ⟨a, b⟩, rack := rack.getD r.rack
            carryTimer := some (100 * s.settings.carryTimeout) }
        ∧ (r.state = .fault → u.ret.cause = none))
    ∧ (ok → r.lift = none ∨ lift = 1 → a = [] → b = [] → (∀ l, (s.sessions.get l).pausedFrom ≠ some .closed) →
      ∃ u : State, exec (.clearReturn .service tag lift left right rack) s
            = .next (u.answered .service tag q (.ok (be 1 0 ++ be 1 0 ++ absentBytes 4 ++ be 1 (rack.getD r.rack))))
        ∧ u.ret.lift = none ∧ u.ret.pits = ⟨[], []⟩ ∧ u.ret.rack = rack.getD r.rack
        ∧ u.ret.state = (if s.sessions.left.state = .closed ∧ s.sessions.right.state = .closed then .idle else .running))
    ∧ (ok → r.lift = none ∨ lift = 1 → a ≠ [] ∨ b ≠ [] →
        (∀ l, (s.psc.get l).pitHold = r.holds.get l ∧ (r.holds.get l = true → (s.psc.get l).queue ≠ [])) →
      let released : BallReturn := { r.removed lift left right with
        state := .running, cause := none, rack := rack.getD r.rack
        holds := ⟨r.holds.left && decide (2 ≤ a.length), r.holds.right && decide (2 ≤ b.length)⟩ }
      let kept := released.take s.settings.rackCapacity s.settings.carryTimeout
      ∃ u : State, exec (.clearReturn .service tag lift left right rack) s
            = .next (u.answered .service tag q
                (.ok (be 1 kept.pits.left.length ++ be 1 kept.pits.right.length ++ liftField kept.lift ++ be 1 kept.rack)))
        ∧ { u.ret with holds := kept.holds, cause := none } = kept ∧ (r.state = .fault → u.ret.cause = none)
        ∧ ∀ l, u.ret.holds.get l = (r.holds.get l && decide (2 ≤ (kept.pits.get l).length)))

/-- R167: an accepted set-highlight replaces the lane's persistent highlight set; R168, R170: a pull sends the row at the pointer,
advances the pointer, and changes no row but those of a marked half that may then be loaded. R166, R171: the banner of a feed,
its fill and the full load at its end. R164 to R166: the rows of the two halves, each of them; rows 32 to 48 are blank when
both totals of the group they show are absent (log 31), and row 61 with the time of day unset is log 49's: the model's
choices. R167 to R170: which events set the refresh marks of a feed and its one-shot highlight, and the loads that clear the
marks. A banner shown keeps every mark as it is. Session flags mark the upper half when an item changes (log 36), and a frozen
group with a game in progress keeps the LOCKED banner away (log 57): the model's choices. -/
def Obligations.MonitorRows : Prop :=
  ((∀ (tag : Tag) (lane : Nat) (positions : List Nat) (l : Lane) (s : State), LinkIdle s .console → laneOf lane = some l →
    (∀ n ∈ positions, 1 ≤ n ∧ n ≤ 8) →
    ∃ t, exec (.setHighlight .console tag lane positions) s = .next t
      ∧ Replied t .console tag (.setHighlight lane positions) (.ok [])
      ∧ (∀ n, 1 ≤ n → n ≤ 8 → (hasPosition (t.feeds.get l).highlights n = true ↔ n ∈ positions))
      ∧ (t.feeds.get (otherLane l)).highlights = (s.feeds.get (otherLane l)).highlights ∧ SameInside t s)
  ∧ ∀ (l : Lane) (s : State), (s.feeds.get l).composeOwed = false →
    let f := s.feeds.get l
    ∃ t, exec (.rowPull l) s = .next t ∧ (t.feeds.get l).rowOut = some (f.pointer, f.rowAt f.pointer)
      ∧ (t.feeds.get l).pointer = (if f.pointer < 63 then f.pointer + 1 else 0)
      ∧ (f.markLower = false ∨ f.pointer < 31 ∨ 62 ≤ f.pointer → (t.feeds.get l).lower = f.lower)
      ∧ (f.markUpper = false ∨ (30 ≤ f.pointer ∧ f.pointer < 63) → (t.feeds.get l).upper = f.upper)
      ∧ (f.markLower = true → f.pointer = 31 → (t.feeds.get l).markLower = false ∧ (t.feeds.get l).pendingHalf = .lower
          ∧ (t.feeds.get l).lower = s.composeLower l f)
      ∧ (f.pointer ≠ 31 → f.pointer < 63 → f.markLower = false → f.markUpper = false →
          (t.feeds.get l).pendingHalf = f.pendingHalf)
      ∧ (f.pointer = 63 → f.pendingHalf = .lower → f.markUpper = false → (t.feeds.get l).pendingHalf = .none)
      ∧ (t.feeds.get l).banner = f.banner ∧ (t.feeds.get l).highlights = f.highlights ∧ SameInside t s)
  ∧ (∀ (s : State) (l : Lane),
    let f := s.feeds.get l
    let t := s.bannerEval l
    let x := (s.sessions.get l).state
    let m := (s.psc.get l).state
    let a := s.lanes.get l
    let moving : Prop := ∃ g, (a.occupant = some g ∨ s.homeGroup l = some g)
      ∧ ((s.groups.get g).state = .moving ∨ (s.groups.get g).state = .moved)
    let game : Prop := ∃ g, (a.occupant = some g ∨ a.waiter = some g) ∧ (s.groups.get g).inProgress = true
    let shows (b : Banner) : Prop :=
      (f.banner = b → t = s)
      ∧ (f.banner ≠ b → b ≠ .none →
          let rows := List.replicate 32 (⟨.normal, .banner b (s.laneNumber l)⟩ : Row)
          t = { s with feeds := s.feeds.set l { f with
            lower := rows, upper := rows, pointer := 0, pendingHalf := .none, markLower := false, markUpper := false, banner := b
            oneShot := none, oneShotCarried := false, composeOwed := false } })
      ∧ (f.banner ≠ b → b = .none →
          t = { s with feeds := s.feeds.set l { f with banner := .none, composeOwed := true } }
          ∧ let g := t.feedLoads.feeds.get l
            g.banner = .none ∧ g.composeOwed = false ∧ g.pointer = 0 ∧ g.pendingHalf = .none ∧ g.markLower = false
              ∧ g.markUpper = false ∧ g.lower = t.composeLower l (t.feeds.get l) ∧ g.upper = t.composeUpper l (t.feeds.get l))
    (s.configured = false → t = s)
    ∧ (s.configured = true → x = .closed → shows .laneClosed)
    ∧ (s.configured = true → x ≠ .closed → moving → shows .moving)
    ∧ (s.configured = true → x ≠ .closed → ¬ moving → m = .fault → shows .machineFault)
    ∧ (s.configured = true → x ≠ .closed → ¬ moving → m = .service → shows .service)
    ∧ (s.configured = true → ¬ moving → m ≠ .fault → m ≠ .service → x = .locked → ¬ game → shows .locked)
    ∧ (s.configured = true → x ≠ .closed → ¬ moving → m ≠ .fault → m ≠ .service → x ≠ .locked ∨ game → shows .none))
  ∧ (∀ (s : State) (l : Lane) (f : Feed),
    let lower := s.composeLower l f
    let upper := s.composeUpper l f
    let x := s.sessions.get l
    let m := s.psc.get l
    let waiting := (s.corrections.filter fun e => s.lineTest e.line fun y => s.homeGroup l = some y.group).length
    let shown := s.shownLower l
    let lit (n : Nat) : Prop := hasPosition f.highlights n = true ∨ f.oneShot = some n
    let look (provisional : Bool) (n : Nat) : Attribute :=
      if provisional then .provisional else if lit n then .highlight else .normal
    lower.length = 32 ∧ upper.length = 32
    ∧ lower[0]? = some ⟨.normal, .laneHead (s.laneNumber l) m.state m.cause s.ret.state s.ret.cause
        (liftCondition s.ret s.settings.rackCapacity)⟩
    ∧ lower[1]? = some ⟨.normal, .sessionHead x.state x.pausedFrom x.mode⟩
    ∧ (∀ n, 1 ≤ n → n ≤ 8 →
        (∀ g i y, shown = some g → (s.groups.get g).order[n - 1]? = some i → s.line i = some y →
          lower[3 * n + 1]? = some ⟨look false n, .bowler n y.name y.status y.handicap⟩
          ∧ lower[3 * n + 2]? = some ⟨look y.provisionalMark n, .ballMarks (y.frames.map fun r => (r.number, r.missed, r.marks))⟩
          ∧ lower[3 * n + 3]? = some ⟨look y.provisionalTotal n, .totals (y.frames.map (·.running)) y.scratch y.gameTotal⟩)
        ∧ (shown = none ∨ (∃ g, shown = some g ∧ (s.groups.get g).order.length < n) →
          ∀ j, 3 * n + 1 ≤ j → j ≤ 3 * n + 3 → lower[j]? = some ⟨look false n, .blank⟩))
    ∧ (∀ g, shown = some g → let r := s.groups.get g
        lower[2]? = some ⟨.normal, .groupHead r.name r.state r.playMode r.game r.frame⟩)
    ∧ (shown = none → lower[2]? = some ⟨.normal, .blank⟩)
    ∧ (∀ i y frame ball, s.upBowler l = some (i, frame, ball) → s.line i = some y →
        lower[3]? = some ⟨.normal, .upBowler y.name frame ball⟩)
    ∧ (s.upBowler l = none → lower[3]? = some ⟨.normal, .blank⟩)
    ∧ (∃ v : Fin 10 → PinShow,
        let provisional : Prop := ∃ b, f.lastBall = some b ∧ b.state = .provisional
        lower[28]? = some ⟨.normal, .pins [(7, v 6), (8, v 7), (9, v 8), (10, v 9)]⟩
        ∧ lower[29]? = some ⟨.normal, .pins [(4, v 3), (5, v 4), (6, v 5)]⟩
        ∧ lower[30]? = some ⟨.normal, .pins [(2, v 1), (3, v 2)]⟩
        ∧ (provisional → lower[31]? = some ⟨.provisional, .pinsAndBall [(1, v 0)] f.lastBall⟩)
        ∧ (¬ provisional → lower[31]? = some ⟨.normal, .pinsAndBall [(1, v 0)] f.lastBall⟩)
        ∧ ∀ pin : Fin 10,
          (∀ b up, f.lastBall = some b → b.pinsUp = some up →
            (hasPin up pin = true → ∀ st, b.standing = some st → v pin = (if hasPin st pin then .up else .down))
            ∧ (hasPin up pin = true → b.standing = none → v pin = .unknown)
            ∧ (hasPin up pin = false → (∀ st, b.standing = some st → hasPin st pin = false) → v pin = .off))
          ∧ (∀ b, f.lastBall = some b → b.pinsUp = none → v pin = .unknown)
          ∧ (f.lastBall = none → (∀ up, (s.pdu.get l).deck = .known up → v pin = (if hasPin up pin then .up else .off))
            ∧ (∀ n, (s.pdu.get l).deck = .unknown n → v pin = .unknown)))
    ∧ (let above := s.shownUpper l
      let filled (g : Slot) : Prop := above = some g ∧ (s.groups.get g).state ≠ .empty
        ∧ ((s.groups.get g).runningTotal ≠ none ∨ (s.groups.get g).groupTotal ≠ none)
      let unsettled (t : Option Total) : Prop := ∃ v, t = some ⟨v, .provisional⟩
      let own (n : Nat) : Attribute :=
        if above = shown ∧ shown ≠ none ∧ hasPosition f.highlights n = true then .highlight else .normal
      (∀ g, filled g → let r := s.groups.get g
        (unsettled r.runningTotal ∨ unsettled r.groupTotal →
            upper[0]? = some ⟨.provisional, .groupTotals r.name r.game r.runningTotal r.groupTotal⟩)
        ∧ (¬ (unsettled r.runningTotal ∨ unsettled r.groupTotal) →
            upper[0]? = some ⟨.normal, .groupTotals r.name r.game r.runningTotal r.groupTotal⟩))
      ∧ ((∀ g, ¬ filled g) → upper[0]? = some ⟨.normal, .blank⟩)
      ∧ ∀ n, 1 ≤ n → n ≤ 8 →
        (∀ g i y, filled g → (s.groups.get g).order[n - 1]? = some i → s.line i = some y →
          let total := if above = shown then y.gameTotal else lastRunning y.frames
          (unsettled total → upper[n]? = some ⟨.provisional, .lineTotal y.name (total.map (·.value))⟩)
          ∧ (¬ unsettled total → upper[n]? = some ⟨own n, .lineTotal y.name (total.map (·.value))⟩)
          ∧ (above = shown → upper[8 + n]? = some ⟨own n, .pastGames (y.games.map (·.scratch))⟩)
          ∧ (above ≠ shown → let k := (s.groups.get g).frame
            (y.completed k = true → upper[8 + n]? = some ⟨.normal, .awaited none⟩)
            ∧ (y.completed k = false → upper[8 + n]? = some ⟨.normal, .awaited (some (k, (y.ballsOf k).length + 1))⟩)))
        ∧ ((∀ g, ¬ filled g) ∨ (∃ g, filled g ∧ (s.groups.get g).order.length < n) →
          upper[n]? = some ⟨own n, .blank⟩ ∧ upper[8 + n]? = some ⟨own n, .blank⟩))
    ∧ (∀ j, 17 ≤ j → j ≤ 24 → upper[j]? = some ⟨.normal, .blank⟩)
    ∧ upper[25]? = some (if waiting = 0 then ⟨.normal, .blank⟩ else ⟨.normal, .pendingCorrections waiting⟩)
    ∧ (x.meterDisplay = false → ∀ j, 26 ≤ j → j ≤ 29 → upper[j]? = some ⟨.normal, .blank⟩)
    ∧ (x.meterDisplay = true → upper[26]? = some ⟨.normal, .meterAllowance x.mode x.remaining⟩
        ∧ upper[27]? = some ⟨.normal, .meterCounts x.meter.games x.meter.minutes⟩
        ∧ upper[28]? = some ⟨.normal, .meterCents x.meter.cents⟩ ∧ upper[29]? = some ⟨.normal, .meterBand s.bandNow⟩)
    ∧ upper[30]? = some (match s.timeOfDay with | some n => ⟨.normal, .timeOfDay n⟩ | none => ⟨.normal, .blank⟩)
    ∧ upper[31]? = some ⟨.normal, .laneNumbers (s.laneNumber l) (s.laneNumber (otherLane l))⟩)
  ∧ (∀ s : State,
    let mark (f : Feed) (lower upper : Bool) : Feed :=
      if s.configured = true ∧ f.banner = .none then
        { f with markLower := f.markLower || lower, markUpper := f.markUpper || upper }
      else f
    let marked (t : State) (lower upper : Lane → Bool) : Prop := ∀ j, t.feeds.get j = mark (s.feeds.get j) (lower j) (upper j)
    let seen (t : State) (l : Lane) (lower upper : Bool) : Prop :=
      s.configured = true → (s.feeds.get l).banner = .none → (t.feeds.get l).banner = .none →
        (lower = true → (t.feeds.get l).markLower = true) ∧ (upper = true → (t.feeds.get l).markUpper = true)
    let never : Lane → Bool := fun _ => false
    let always : Lane → Bool := fun _ => true
    let shownIn (a b : State) (g : Slot) (l : Lane) : Bool := a.shownLower l = some g || b.shownLower l = some g
    let aboveIn (a b : State) (g : Slot) (l : Lane) : Bool := a.shownUpper l = some g || b.shownUpper l = some g
    (∀ tag minute, LinkIdle s .desk → minute ≤ 1439 → ∃ u : State,
        exec (.setTime .desk tag minute) s = .next (u.answered .desk tag (.setTime minute) (.ok []))
        ∧ marked u never always ∧ SameInside u { s with timeOfDay := some minute, minuteTimer := some 6000 })
    ∧ (∀ m, s.timeOfDay = some m → s.minuteTimer ≠ none →
        (∀ j, (s.sessions.get j).mode ≠ .timed ∨ ((s.sessions.get j).state ≠ .opened ∧ (s.sessions.get j).state ≠ .overtime)) →
        ∃ u : State, exec .minuteTimerExpiry s = .next u.finish.pump ∧ marked u never always
          ∧ SameInside u { s with timeOfDay := some ((m + 1) % 1440), minuteTimer := some 6000 })
    ∧ (∀ (tag : Tag) (bands : List Band), LinkIdle s .desk → 1 ≤ bands.length → bands.length ≤ 8 →
        (∀ b ∈ bands, b.start ≤ 1439 ∧ b.price ≤ 65535 ∧ b.hourly ≤ 65535) → (bands.map (·.start)).Nodup →
        ∃ u : State, exec (.setRates .desk tag bands) s = .next (u.answered .desk tag (.setRates bands) (.ok []))
          ∧ marked u never (fun j => (s.sessions.get j).meterDisplay) ∧ SameInside u { s with rates := u.rates })
    ∧ (∀ (tag : Tag) (lane : Nat) (a b c d : Bool) (overflow : Nat) (l : Lane) (o : OverflowMode), LinkIdle s .desk →
        laneOf lane = some l → overflowOf overflow = some o → (s.sessions.get l).state ≠ .closed →
        ∃ u : State, exec (.setSessionFlags .desk tag lane a b c d overflow) s
            = .next (u.answered .desk tag (.setSessionFlags lane a b c d overflow) (.ok []))
          ∧ marked u never (fun j => decide (j = l ∧ u.sessions.get l ≠ s.sessions.get l))
          ∧ SameInside u { s with sessions := u.sessions })
    ∧ (∀ (tag : Tag) (lane : Nat) (positions : List Nat) (l : Lane), LinkIdle s .console → laneOf lane = some l →
        (∀ n ∈ positions, 1 ≤ n ∧ n ≤ 8) →
        ∃ u : State, exec (.setHighlight .console tag lane positions) s
            = .next (u.answered .console tag (.setHighlight lane positions) (.ok []))
          ∧ u.feeds.get l = mark { s.feeds.get l with highlights := (u.feeds.get l).highlights } true
              (s.shownLower l ≠ none && s.shownUpper l = s.shownLower l)
          ∧ u.feeds.get (otherLane l) = s.feeds.get (otherLane l) ∧ SameInside u s)
    ∧ (∀ (tag : Tag) (id : Nat) (before later : List Correction) (e : Correction) (y : Line), LinkIdle s .desk → 1 ≤ id →
        id ≤ 255 → s.corrections = before ++ e :: later → e.id = id → (∀ x ∈ before ++ later, x.id ≠ id) →
        s.line e.line = some y →
        ∃ u : State, exec (.deny .desk tag id) s = .next (u.answered .desk tag (.deny id) (.ok []))
          ∧ marked u never (fun j => decide (j = (s.groups.get y.group).home))
          ∧ SameInside u { s with corrections := before ++ later })
    ∧ (∀ e y, s.line e.line = some y → (s.queueCorrection e).2.code = .ok →
        marked (s.queueCorrection e).1 never (fun j => decide (j = (s.groups.get y.group).home)))
    ∧ (∀ gone home, marked (s.voidCorrections gone home) never
        (fun j => decide (j = home) && s.corrections.any gone))
    ∧ (∀ x i y, s.line i = some y →
        marked (s.flushLine x i) (fun j => s.dirty.getLsbD i.val && decide (s.shownLower j = some y.group))
          (fun j => s.dirty.getLsbD i.val && decide (s.shownUpper j = some y.group)))
    ∧ (∀ (before : State) (g : Slot) (refused : Option Code),
        let a := before.groups.get g
        let b := s.groups.get g
        let differs : Prop := ¬ (a.state = b.state ∧ a.playMode = b.playMode ∧ a.home = b.home ∧ a.order = b.order
          ∧ a.frame = b.frame ∧ a.position = b.position) ∨ refused ≠ none
        (differs → marked (s.announceGroup before g refused) (shownIn s before g) (aboveIn s before g))
        ∧ (¬ differs → s.announceGroup before g refused = s))
    ∧ (∀ (k : Link) (tag : Tag) (slot mode : Nat) (g : Slot) (m : PlayMode), LinkIdle s k → k = .desk ∨ k = .console →
        slotOf slot = some g → playModeOf mode = some m → (s.groups.get g).state = .idle → (s.groups.get g).playMode ≠ m →
        m = .openPlay ∨ (∀ l, ((s.sessions.get l).state = .opened ∨ (s.sessions.get l).state = .overtime)
          ∧ (s.sessions.get l).league = true) →
        ∃ u : State, exec (.setPlayMode k tag slot mode) s = .next (u.answered k tag (.setPlayMode slot mode) (.ok []))
          ∧ u.groups.get g = { s.groups.get g with playMode := m }
          ∧ ∀ l, seen u l (shownIn u s g l) (aboveIn u s g l))
    ∧ (∀ (tag : Tag) (slot : Nat) (g : Slot), LinkIdle s .desk → slotOf slot = some g → (s.groups.get g).state = .idle →
        s.homeGroup (s.groups.get g).home = some g →
        ∃ u : State, exec (.dismissGroup .desk tag slot) s = .next (u.answered .desk tag (.dismissGroup slot) (.ok []))
          ∧ (u.groups.get g).state = .empty ∧ seen u (s.groups.get g).home true true
          ∧ (u.feeds.get (s.groups.get g).home).highlights = 0#8)
    ∧ (∀ (before : State) (l : Lane),
        let moved : Prop := (before.lanes.get l).occupant ≠ (s.lanes.get l).occupant
        let t := s.announceLane before l
        (moved ∨ before.homeGroup l ≠ s.homeGroup l → seen t l true true)
        ∧ (¬ moved → before.homeGroup l ≠ s.homeGroup l →
            marked t (fun j => decide (j = l)) (fun j => decide (j = l)) ∧ SameInside t s)
        ∧ (¬ moved → before.homeGroup l = s.homeGroup l → t = s))
    ∧ (∀ l ball, let t := s.showBall l ball
        t.feeds = s.feeds.set l (mark { s.feeds.get l with lastBall := ball } true false) ∧ SameInside t s)
    ∧ (∀ l bound deck, (s.arm l bound deck).feeds = s.feeds.set l (mark { s.feeds.get l with lastBall := none } true false))
    ∧ (∀ l r, (s.pdu.get l).run = .settled → (s.pdu.get l).record = some r → (s.pdu.get l).testing = false →
        (s.stopRun l).feeds = s.feeds.set l (mark { s.feeds.get l with lastBall := none } true false))
    ∧ (∀ l r, (s.pdu.get l).run = .settled → (s.pdu.get l).record = some r → (s.pdu.get l).foulOpen = true →
        (s.pdu.get l).foulFlag = false →
        ∃ u : State, exec (.foulBreak l) s = .next u.finishLines.pump
          ∧ u.feeds = s.feeds.set l (mark { s.feeds.get l with
              lastBall := some { r with foul := true, count := 0, split := false } } true false))
    ∧ (∀ l r, let b := s.placeBall r
        let shines : Prop := ∃ m, b.markOfBall r = some m ∧ (m.symbol = .strike ∨ m.symbol = .spare)
        let place : Option Nat := match b.lineForBall r, s.shownLower l with
          | some i, some g => positionIn (s.groups.get g).order i
          | _, _ => none
        let f : Feed := mark { s.feeds.get l with lastBall := some r } true false
        ((shines ∧ place ≠ none) → (s.publishFinal l r).feeds = s.feeds.set l { f with
            oneShot := place, oneShotCarried := false })
        ∧ (¬ (shines ∧ place ≠ none) → (s.publishFinal l r).feeds = s.feeds.set l f))
    ∧ (∀ l r bound, (s.pdu.get l).run = .settled → (s.pdu.get l).cycleTimer ≠ none → (s.pdu.get l).record = some r →
        (s.pdu.get l).binding = some bound →
        let last : BallRecord := { r with state := .final }
        let b := s.placeBall last
        ∃ u : State, exec (.cycleDelayExpiry l) s = .next u.finish.pump ∧ (u.feeds.get l).lastBall = some last
          ∧ ∀ m i g p, b.markOfBall last = some m → m.symbol = .strike ∨ m.symbol = .spare → b.lineForBall last = some i →
              s.shownLower l = some g → positionIn (s.groups.get g).order i = some p → (s.feeds.get l).banner = .none →
              (u.feeds.get l).banner = .none → (u.feeds.get l).composeOwed = false → (u.feeds.get l).oneShot = some p)
    ∧ (∀ l state cause classes, (s.psc.get l).state ≠ state →
        let t := s.setMachine l state cause classes
        seen t l true false ∧ t.feeds.get (otherLane l) = s.feeds.get (otherLane l))
    ∧ (∀ l, (s.pdu.get l).run = .armed → (s.psc.get l).state ≠ .inPlay →
        ∃ u : State, exec (.arrival l) s = .next u.finish.pump ∧ (u.psc.get l).state = .inPlay ∧ seen u l true false)
    ∧ (∀ l state pausedFrom, let t := s.enterSession l state pausedFrom
        seen t l true true ∧ t.feeds.get (otherLane l) = s.feeds.get (otherLane l))
    ∧ (∀ (tag : Tag) (lane : Nat) (l : Lane) (g : Slot), LinkIdle s .desk → laneOf lane = some l →
        (s.sessions.get l).state ≠ .closed → (s.sessions.get l).state ≠ .closing → s.homeGroup l = some g →
        (s.groups.get g).inProgress = true → (∀ h, s.homeGroup (otherLane l) = some h →
          ¬ ((s.groups.get h).playMode = .cross ∧ (s.groups.get h).inProgress = true)) →
        ∃ u : State, exec (.closeSession .desk tag lane 0) s = .next (u.answered .desk tag (.closeSession lane 0)
              (.ok (be 1 SessionState.closing.code)))
          ∧ (u.sessions.get l).state = .closing ∧ seen u l true true)
    ∧ (∀ l n, marked (s.addCents l n) never (fun j => decide (j = l) && (s.sessions.get l).meterDisplay)
        ∧ marked (s.countGames l n) never (fun j => decide (j = l) && (s.sessions.get l).meterDisplay))
    ∧ (∀ notice, marked (s.tellReturn notice) always never ∧ SameInside (s.tellReturn notice) s)
    ∧ (0 < s.ret.rack → s.ret.rack = s.settings.rackCapacity →
        ∃ u : State, exec .rackTake s = .next u.finishReturn.pump ∧ marked u always never
          ∧ SameInside u { s with ret := { s.ret with rack := s.ret.rack - 1 } })
    ∧ (∀ l, (s.feeds.get l).composeOwed = false →
        let f := s.feeds.get l
        let g := s.feedLoads.feeds.get l
        (f.markLower = true → 32 ≤ f.pointer → f.pointer ≤ 62 → g = { f with
            lower := s.composeLower l f, markLower := false, pendingHalf := .lower, oneShotCarried := f.oneShot.isSome })
        ∧ (f.markUpper = true → f.pointer ≤ 30 → g = { f with
            upper := s.composeUpper l f, markUpper := false, pendingHalf := .upper })
        ∧ (¬ (f.markLower = true ∧ 32 ≤ f.pointer ∧ f.pointer ≤ 62) → ¬ (f.markUpper = true ∧ f.pointer ≤ 30) → g = f)
        ∧ ∃ t, exec (.rowPull l) s = .next t
          ∧ (t.feeds.get l).oneShot = (if 63 ≤ f.pointer ∧ f.oneShotCarried = true then none else f.oneShot)))

/-! ### Group moves and pair clear (chapters 10 and 11) -/

/-- R175, R176, R182, R183: the save of a group, the sending of its entries, the return to play and the release. The layout of a
save-part reply is the model's (log 8). The current position stays while the group is frozen (log 13: the model's choice).
R174: the entry list of a group. A frame record that is not missed and holds no FINAL ball is left out (log 58: the model's
choice). -/
def Obligations.GroupsAreSaved : Prop :=
  (∀ (tag : Tag) (slot : Nat) (g : Slot) (s : State), LinkIdle s .desk → slotOf slot = some g →
    let r := s.groups.get g
    (r.state = .idle ∨ r.state = .playing ∨ r.state = .waiting →
      (∀ l, (s.lanes.get l).occupant = some g → ((s.pdu.get l).run = .idle ∨ (s.pdu.get l).run = .armed)
        ∧ ((s.psc.get l).state = .ready ∨ (s.psc.get l).state = .standby ∨ (s.psc.get l).state = .service)) →
      ∃ u : State, exec (.saveGroup .desk tag slot) s
            = .next (u.answered .desk tag (.saveGroup slot) (.ok (be 1 (1 + 2 * (s.linesOf g).length))))
        ∧ u.groups.get g = { r with state := .moving, frozenFrom := some r.state }
        ∧ u.outbound = s.outbound.set g (some ⟨s.entriesOf g, 0⟩) ∧ u.lanes = s.lanes ∧ u.pdu = s.pdu ∧ u.psc = s.psc
        ∧ u.corrections = s.corrections
        ∧ (∀ i, i ∉ r.order → u.line i = s.line i)
        ∧ (∀ i l, i ∈ r.order → s.line i = some l → ClaimOk l → u.line i = some { l with
            copies := ⟨if l.copies.desk = .edit then .copy else l.copies.desk,
              if l.copies.service = .edit then .copy else l.copies.service,
              if l.copies.console = .edit then .copy else l.copies.console⟩
            claimTimer := none }))
    ∧ (∀ (restart : Bool) (o : Outbound), r.state = .moving ∨ r.state = .moved → s.outbound.get g = some o →
      restart = true ∨ o.sent < o.entries.length →
      let first := if restart then 0 else o.sent
      let part := (o.entries.drop first).take 4
      let last : Bool := o.entries.length ≤ first + part.length
      ∃ t, exec (.savePart .desk tag slot restart) s = .next t
        ∧ Replied t .desk tag (.savePart slot restart) (.ok (partFields part (first + 1) last))
        ∧ t.outbound = s.outbound.set g (some { o with sent := first + part.length })
        ∧ t.groups.get g = { r with state := if last then .moved else r.state }
        ∧ t.lines = s.lines ∧ t.lanes = s.lanes ∧ t.corrections = s.corrections)
    ∧ (r.state = .moving ∨ r.state = .moved → ∀ from', r.frozenFrom = some from' →
      ∃ u : State, exec (.resumeGroup .desk tag slot) s = .next (u.answered .desk tag (.resumeGroup slot) (.ok []))
        ∧ (u.groups.get g).state = from' ∧ (u.groups.get g).frozenFrom = none ∧ (u.groups.get g).order = r.order
        ∧ u.outbound = s.outbound.set g none ∧ u.lines = s.lines ∧ u.lanes = s.lanes ∧ u.corrections = s.corrections)
    ∧ (r.state = .moved →
      ∃ u : State, exec (.releaseMoved .desk tag slot) s = .next (u.answered .desk tag (.releaseMoved slot) (.ok []))
        ∧ (u.groups.get g).state = .empty ∧ (u.groups.get g).order = [] ∧ u.outbound = s.outbound.set g none
        ∧ (∀ i, u.line i = if i ∈ r.order then none else s.line i)
        ∧ (∀ l, (u.lanes.get l).occupant = some g → (s.lanes.get l).waiter = some g)
        ∧ (u.feeds.get r.home).highlights = 0#8))
  ∧ (∀ (s : State) (g : Slot),
    let r := s.groups.get g
    let list := s.entriesOf g
    let carried (b : BallRecord) (e : EntryBall) : Prop := e.count = b.count ∧ e.foul = b.foul ∧ e.split = b.split
      ∧ e.source = b.source.code ∧ e.pinsUp = b.pinsUp.map (·.toNat) ∧ e.standing = b.standing.map (·.toNat)
    list.length = 1 + 2 * (s.linesOf g).length
    ∧ list[0]? = some (.header r.name r.playMode.code r.game r.inProgress r.frame r.position)
    ∧ ∀ p y, (s.linesOf g)[p]? = some y →
      (y.mode = .computed → list[2 * p + 1]? = some (.line y.name y.average 0 none y.status.code y.games))
      ∧ (∀ v, y.mode = .fixed v → list[2 * p + 1]? = some (.line y.name y.average 1 (some v) y.status.code y.games))
      ∧ (y.mode = .noHandicap → list[2 * p + 1]? = some (.line y.name y.average 2 none y.status.code y.games))
      ∧ ∃ frames, list[2 * p + 2]? = some (.frames frames)
        ∧ List.Forall₂ (fun (f : FrameRecord) (e : EntryFrame) => e.number = f.number ∧ e.missed = f.missed
            ∧ List.Forall₂ carried (f.balls.filter fun b => b.state = .final) e.balls)
          (y.frames.filter fun f => f.missed || f.balls.any fun b => b.state = .final) frames)

/-- R177, R178, R179, R180, R181: the staging of a load, its parts, its end and its abandonment. A stopped gap timer changes
nothing (log 2: the model's choice); the reply of a failed load-end carries its reason as log 9 numbers it. The reply of a
committed load-end lists the line ids after their count (log 8: the model's choice). R112, R180: the six checks of a load-end,
in order, and what each asks of the staged entries; a source of TEST fails VALUES (log 20), a pin set with a bit above pin 10
too (log 38), and a handicap mode is read as log 40 says: the model's choices. An entry whose bytes do not read as its kind
fails VALUES, and too many balls in a frame or frames in an entry fail LAWS (log 53: the model's choices). -/
def Obligations.LoadsAreStaged : Prop :=
  (∀ (tag : Tag) (id : Nat) (s : State), LinkIdle s .desk →
    (∀ (slot lane count : Nat) (g : Slot) (l : Lane), slotOf slot = some g → laneOf lane = some l → 1 ≤ id → id ≤ 255 →
      3 ≤ count → count ≤ 17 →
      let q := Request.loadBegin id slot lane count
      let free : Prop := (s.groups.get g).state = .empty
        ∧ ((s.groups.get (otherSlot g)).state = .empty ∨ (s.groups.get (otherSlot g)).home ≠ l) ∧ (s.sessions.get l).state = .opened
      (s.staging = none → free → ∃ t, exec (.loadBegin .desk tag id slot lane count) s = .next t ∧ Replied t .desk tag q (.ok [])
        ∧ { t with ports := s.ports } = { s with staging := some ⟨id, g, l, count, []⟩, gapTimer := some 500 })
      ∧ (s.staging ≠ none → ∃ t, exec (.loadBegin .desk tag id slot lane count) s = .next t
        ∧ Replied t .desk tag q (.refused .busy) ∧ { t with ports := s.ports } = s)
      ∧ (s.staging = none → ¬ free → ∃ t, exec (.loadBegin .desk tag id slot lane count) s = .next t
        ∧ Replied t .desk tag q (.refused .state) ∧ { t with ports := s.ports } = s))
    ∧ (∀ (entries : List EntryContent) (x : Staging), 1 ≤ entries.length → entries.length ≤ 4 → s.staging = some x →
      let all := x.entries ++ entries
      (id = x.id → all.length ≤ x.expected → ∃ t, exec (.loadPart .desk tag id entries) s = .next t
        ∧ Replied t .desk tag (.loadPart id entries) (.ok (be 1 all.length))
        ∧ { t with ports := s.ports } = { s with staging := some { x with entries := all }, gapTimer := some 500 })
      ∧ (id = x.id → x.expected < all.length → ∃ t, exec (.loadPart .desk tag id entries) s = .next t
        ∧ Replied t .desk tag (.loadPart id entries) (.refused .range)
        ∧ { t with ports := s.ports } = { s with staging := none, gapTimer := none })
      ∧ (id ≠ x.id → ∃ t, exec (.loadPart .desk tag id entries) s = .next t
        ∧ Replied t .desk tag (.loadPart id entries) (.refused .seq) ∧ { t with ports := s.ports } = s)
      ∧ (∀ reason code, id = x.id → s.loadFails { x with entries := all } = some (reason, code) →
        ∃ u : State, exec (.loadEnd .desk tag id entries) s
              = .next (u.answered .desk tag (.loadEnd id entries) ⟨code, be 1 reason.endCode⟩)
          ∧ SameInside u { s with staging := none, gapTimer := none })
      ∧ (∀ h, id = x.id → s.loadFails { x with entries := all } = none → loadHeader all = some h →
        let ids := s.freeLines.take ((all.length - 1) / 2)
        ∃ u : State, exec (.loadEnd .desk tag id entries) s
              = .next (u.answered .desk tag (.loadEnd id entries)
                  (.ok (listed lineField ids ++ be 1 (u.groups.get x.slot).playMode.code
                    ++ be 1 (u.groups.get x.slot).state.code)))
          ∧ u.staging = none ∧ u.gapTimer = none ∧ (u.groups.get x.slot).order = ids ∧ (u.groups.get x.slot).name = h.name
          ∧ (u.groups.get x.slot).home = x.lane ∧ (u.groups.get x.slot).game = h.game
          ∧ (u.groups.get x.slot).inProgress = h.inProgress ∧ (u.groups.get x.slot).frame = h.frame
          ∧ (h.inProgress = false → (u.groups.get x.slot).state = .idle ∧ u.lanes = s.lanes)
          ∧ (∀ i ∈ ids, ∃ l, u.line i = some l ∧ l.group = x.slot ∧ l.version = 1 ∧ l.copies = ⟨.none, .none, .none⟩)
          ∧ (∀ i, i ∉ ids → u.line i = s.line i)))
    ∧ (∀ x, s.staging = some x → s.gapTimer ≠ none → ∃ t, exec .gapTimerExpiry s = .next t
      ∧ { t with ports := s.ports } = { s with staging := none, gapTimer := none })
    ∧ (s.gapTimer = none → exec .gapTimerExpiry s = .next s.pump))
  ∧ (∀ (s : State) (x : Staging), x.expected ≤ 17 →
    let es := x.entries
    let nameFits (n : Name) : Prop := 1 ≤ n.length ∧ n.length ≤ 12
    let strike (b : EntryBall) : Prop := b.count = 10 ∧ b.foul = false
    let complete (f : EntryFrame) : Prop := f.missed = true
      ∨ (f.number ≤ 9 ∧ ∃ b1 rest, f.balls = b1 :: rest ∧ (strike b1 ∨ rest ≠ []))
      ∨ (f.number = 10 ∧ ∃ b1 b2 rest, f.balls = b1 :: b2 :: rest
          ∧ (¬ (strike b1 ∨ b1.count + b2.count = 10) ∨ rest ≠ []))
    let ranged (f : EntryFrame) : Prop :=
      (∀ b ∈ f.balls, b.count ≤ 10) ∧ f.balls.length ≤ (if f.number = 10 then 3 else 2)
      ∧ (∀ b1 b2 rest, f.balls = b1 :: b2 :: rest →
          (f.number ≤ 9 → ¬ strike b1) ∧ (¬ strike b1 → b1.count + b2.count ≤ 10))
      ∧ (∀ b1 b2 b3 rest, f.balls = b1 :: b2 :: b3 :: rest → (strike b1 ∨ b1.count + b2.count = 10)
          ∧ (strike b1 → b2.count < 10 → b2.count + b3.count ≤ 10))
    let legal (inProgress : Bool) (fs : List EntryFrame) : Prop :=
      fs.length ≤ 10 ∧ (∀ n f, fs[n]? = some f → f.number = n + 1)
      ∧ (∀ n f g, fs[n]? = some f → fs[n + 1]? = some g → g.missed = true → f.missed = true)
      ∧ (∀ f ∈ fs, f.missed = true → f.balls = [])
      ∧ (∀ f ∈ fs, f.missed = false → f.balls ≠ [] ∧ ranged f ∧ ∀ b ∈ f.balls, (b.foul = true → b.count = 0)
          ∧ ∀ u, b.pinsUp = some u → b.count ≤ pinCount (BitVec.ofNat 10 u))
      ∧ (∀ n f, fs[n]? = some f → n + 1 < fs.length ∨ inProgress = false → complete f)
    let line (p status : Nat) (fs : List EntryFrame) : Prop := es[2 * p]? = some (.frames fs)
      ∧ ∃ name average mode fixed games, es[2 * p - 1]? = some (.line name average mode fixed status games)
    let done (k : Nat) (fs : List EntryFrame) : Prop := ∃ f ∈ fs, f.number = k ∧ complete f
    let count : Prop := es.length = x.expected
    let order : Prop := es.length % 2 = 1
      ∧ ∀ n e, es[n]? = some e → e.kind = (if n = 0 then 1 else if n % 2 = 1 then 2 else 3)
    let values : Prop := ∀ e ∈ es, match e with
      | .header name mode game _ frame position => nameFits name ∧ mode ≤ 1 ∧ (∀ n, game = some n → 1 ≤ n ∧ n ≤ 255)
          ∧ 1 ≤ frame ∧ frame ≤ 10 ∧ ∀ n, position = some n → 1 ≤ n ∧ n ≤ 8
      | .line name average mode fixed status games => nameFits name ∧ (∀ n, average = some n → n ≤ 300) ∧ mode ≤ 2
          ∧ (∀ n, fixed = some n → n ≤ 255) ∧ (mode = 1 → fixed ≠ none) ∧ status ≤ 1 ∧ games.length ≤ 8
          ∧ ∀ a ∈ games, 1 ≤ a.game ∧ a.game ≤ 255 ∧ a.scratch ≤ 300 ∧ a.handicap ≤ 255
      | .frames records => ∀ f ∈ records, 1 ≤ f.number ∧ f.number ≤ 10 ∧ ∀ b ∈ f.balls, b.count ≤ 10 ∧ b.source ≤ 2
          ∧ (∀ n, b.pinsUp = some n → 1 ≤ n ∧ n ≤ 1023) ∧ ∀ n, b.standing = some n → n ≤ 1023
      | .malformed _ _ => False
    let laws : Prop := ∀ name mode game inProgress k position, es[0]? = some (.header name mode game inProgress k position) →
      (∀ p status fs, 1 ≤ p → line p status fs → legal inProgress fs)
      ∧ (inProgress = true → game ≠ none
        ∧ (∀ p status fs, 1 ≤ p → line p status fs → fs.length ≤ k
            ∧ (status = 0 → ∀ n, 1 ≤ n → n < k → done n fs))
        ∧ (∀ p q a b fs gs, 1 ≤ p → 1 ≤ q → line p a fs → line q b gs → (∃ f ∈ fs, f.number = k) → ¬ done k fs →
            (∃ f ∈ gs, f.number = k) → ¬ done k gs → p = q)
        ∧ ∃ p fs, 1 ≤ p ∧ line p 0 fs ∧ ¬ done k fs)
    let target : Prop := (s.groups.get x.slot).state = .empty
      ∧ ((s.groups.get (otherSlot x.slot)).state = .empty ∨ (s.groups.get (otherSlot x.slot)).home ≠ x.lane)
      ∧ (s.sessions.get x.lane).state = .opened
    let ids : Prop := (es.length - 1) / 2 ≤ ((List.finRange 16).filter fun i => s.line i = none).length
    (¬ count → s.loadFails x = some (.count, .range))
    ∧ (count → ¬ order → s.loadFails x = some (.order, .seq))
    ∧ (count → order → ¬ values → s.loadFails x = some (.values, .range))
    ∧ (count → order → values → ¬ laws → s.loadFails x = some (.laws, .shape))
    ∧ (count → order → values → laws → ¬ target → s.loadFails x = some (.target, .state))
    ∧ (count → order → values → laws → target → ¬ ids → s.loadFails x = some (.ids, .full))
    ∧ (count → order → values → laws → target → ids → s.loadFails x = none))

/-- R194 and the pair-clear rule of each chapter: what a pair clear empties, closes and keeps; the reply carries both final
meters. -/
def Obligations.PairClearClears : Prop :=
  ∀ (tag : Tag) (s : State), LinkIdle s .desk →
    (∀ l, (s.sessions.get l).meter.cents ≤ 9999999 ∧ (s.sessions.get l).pausedFrom ≠ some .closed) →
    let closed (l : Lane) : Session :=
      let x := s.sessions.get l
      if x.state = .closed then x else { x with state := .closed, pausedFrom := none, meter := settledMeter x.meter }
    let meter (m : Meter) := be 2 m.games ++ be 2 m.minutes ++ be 3 m.cents ++ yesNo m.saturated
    ∃ u : State, exec (.pairClear .desk tag) s
          = .next (u.answered .desk tag .pairClear (.ok (meter (closed .left).meter ++ meter (closed .right).meter)))
      ∧ (∀ l, u.sessions.get l = closed l) ∧ (∀ g, u.groups.get g = Group.empty) ∧ (∀ i, u.line i = none)
      ∧ (∀ l, u.lanes.get l = ⟨none, none⟩) ∧ u.corrections = [] ∧ u.nextEntry = 1 ∧ (∀ g, u.outbound.get g = none)
      ∧ u.staging = none ∧ (s.staging ≠ none → u.gapTimer = none)
      ∧ (∀ l, let x := s.sensing.get l
          u.sensing.get l = { x with
            slots := x.slots.map fun k => { k with
              obs := { raw := none, result := none, cls := none, side := none, wobbling := false, count := 0 } }
            runMode := .normal, contTimer := none, injection := none, needs := ⟨false, none, false⟩ })
      ∧ (∀ l, let p := s.psc.get l
          (u.pdu.get l).run = .idle
          ∧ ((s.pdu.get l).run ≠ .idle → (u.pdu.get l).binding = none)
          ∧ (p.state = .off ∨ p.state = .fault → u.psc.get l = p)
          ∧ (p.state = .ready ∨ p.state = .standby → p.step = none → (u.psc.get l).state = .standby
              ∧ (u.psc.get l).recipe = none ∧ (u.psc.get l).queue = [] ∧ (u.pdu.get l).deck = (s.pdu.get l).deck)
          ∧ (p.state = .starting ∨ p.state = .cycling ∨ p.state = .inPlay ∨ p.state = .heldPit ∨ p.state = .checking →
              (u.pdu.get l).deck = .unknown 10 ∧ (u.psc.get l).recipe = none ∧ (u.psc.get l).queue = []
              ∧ (u.psc.get l).remainder = none ∧ (u.psc.get l).attempts = 0 ∧ (u.psc.get l).closingOwed = false
              ∧ (p.step = none → (u.psc.get l).state = .standby)
              ∧ (p.step ≠ none → (u.psc.get l).state = p.state ∧ (u.psc.get l).windingDown = true)))
      ∧ { u.ret with holds := s.ret.holds } = s.ret
      ∧ (∀ l, (u.feeds.get l).highlights = 0#8 ∧ (u.feeds.get l).oneShot = none ∧ (u.feeds.get l).lastBall = none
          ∧ (s.configured = true → (u.feeds.get l).banner = .laneClosed ∧ (u.feeds.get l).pointer = 0))
      ∧ u.head = s.head ∧ u.settings = s.settings ∧ u.configured = s.configured ∧ u.handicap = s.handicap ∧ u.rates = s.rates
      ∧ u.timeOfDay = s.timeOfDay ∧ u.minuteTimer = s.minuteTimer

/-! ### What every command keeps -/

/-- Every run keeps the pending correction queue: at most 8 entries, ids 1 to 255 and all different (R138); and at most one edit
claim on a line, with its claim timer running exactly while one is held (R129 to R131, R143). -/
def Obligations.DirectoryStaysInBounds : Prop :=
  (∀ (c : Instr) (s t : State), CorrectionsOk s → exec c s = .next t → CorrectionsOk t)
  ∧ (∀ (c : Instr) (s t : State), ClaimsOk s → exec c s = .next t → ClaimsOk t)

/-- Every run keeps the bounds of the meters: bowler-games and minutes at most 65535, cents at most 9,999,999, fraction below 60
(R150, R151, R153); the bounds of the return (R74 to R84); and the shape of the feeds (R164, R168). A session is PAUSED from
OPEN or OVERTIME alone (R145, R148). The pinsetters keep their order: an unconfigured pair's machine is OFF and a step executes
only in CYCLING and SERVICE (R48); a pit hold is on only while a SWEEP waits in HELD(PIT) or SERVICE, and is the one the BRC has
(R57, R59, R67, R80); a check need waits only for a machine in CHECKING (R16, R60); and a PDU is ARMED only on a READY machine
(R26, R27). -/
def Obligations.FiguresStayInBounds : Prop :=
  (∀ (c : Instr) (s t : State), MetersOk s → exec c s = .next t → MetersOk t)
  ∧ ((∀ (c : Instr) (s t : State), ReturnOk s → exec c s = .next t → ReturnOk t)
    ∧ ∀ (c : Instr) (s t : State), FeedsOk s → exec c s = .next t → FeedsOk t)
  ∧ (∀ (c : Instr) (s t : State), PausesOk s → exec c s = .next t → PausesOk t)
  ∧ (∀ (c : Instr) (s t : State), ControlsOk s → ArmedOk s → exec c s = .next t → ControlsOk t ∧ ArmedOk t)
end

