-- ==== Sys2Proof/Laws/State.lean ====
section
/-! SUPPORT. One lemma for each field under each update of State, and the laws of the per-lane, per-slot and per-link
records. -/
namespace Sys2Proof.Machine

/-! ### Records with one value for each lane, slot or link -/

@[simp] theorem PerLane.get_set {α : Type} (p : PerLane α) (l : Lane) (a : α) : (p.set l a).get l = a := by
  cases l <;> rfl

theorem PerLane.get_set_of_ne {α : Type} (p : PerLane α) {l m : Lane} (h : m ≠ l) (a : α) : (p.set l a).get m = p.get m := by
  cases l <;> cases m <;> first | rfl | exact absurd rfl h

@[simp] theorem PerLane.set_get {α : Type} (p : PerLane α) (l : Lane) : p.set l (p.get l) = p := by
  cases l <;> rfl

@[simp] theorem PerLane.set_set {α : Type} (p : PerLane α) (l : Lane) (a b : α) : (p.set l a).set l b = p.set l b := by
  cases l <;> rfl

theorem PerLane.ext_get {α : Type} {p q : PerLane α} (h : ∀ l, p.get l = q.get l) : p = q := by
  cases p; cases q
  simp only [PerLane.mk.injEq]
  exact ⟨h .left, h .right⟩

@[simp] theorem PerSlot.get_set {α : Type} (p : PerSlot α) (g : Slot) (a : α) : (p.set g a).get g = a := by
  cases g <;> rfl

theorem PerSlot.get_set_of_ne {α : Type} (p : PerSlot α) {g j : Slot} (h : j ≠ g) (a : α) : (p.set g a).get j = p.get j := by
  cases g <;> cases j <;> first | rfl | exact absurd rfl h

@[simp] theorem PerSlot.set_get {α : Type} (p : PerSlot α) (g : Slot) : p.set g (p.get g) = p := by
  cases g <;> rfl

@[simp] theorem PerSlot.set_set {α : Type} (p : PerSlot α) (g : Slot) (a b : α) : (p.set g a).set g b = p.set g b := by
  cases g <;> rfl

theorem PerSlot.ext_get {α : Type} {p q : PerSlot α} (h : ∀ g, p.get g = q.get g) : p = q := by
  cases p; cases q
  simp only [PerSlot.mk.injEq]
  exact ⟨h .g1, h .g2⟩

@[simp] theorem PerLink.get_set {α : Type} (p : PerLink α) (k : Link) (a : α) : (p.set k a).get k = a := by
  cases k <;> rfl

theorem PerLink.get_set_of_ne {α : Type} (p : PerLink α) {k j : Link} (h : j ≠ k) (a : α) : (p.set k a).get j = p.get j := by
  cases k <;> cases j <;> first | rfl | exact absurd rfl h

@[simp] theorem PerLink.set_get {α : Type} (p : PerLink α) (k : Link) : p.set k (p.get k) = p := by
  cases k <;> rfl

@[simp] theorem PerLink.set_set {α : Type} (p : PerLink α) (k : Link) (a b : α) : (p.set k a).set k b = p.set k b := by
  cases k <;> rfl

theorem PerLink.ext_get {α : Type} {p q : PerLink α} (h : ∀ k, p.get k = q.get k) : p = q := by
  cases p; cases q
  simp only [PerLink.mk.injEq]
  exact ⟨h .desk, h .service, h .console⟩

/-! ### The fields that an update changes, and those it leaves -/

@[simp] theorem State.modSensing_pending (s : State) (l : Lane) (f : SensingLane → SensingLane) : (s.modSensing l f).pending = s.pending := rfl
@[simp] theorem State.modSensing_configured (s : State) (l : Lane) (f : SensingLane → SensingLane) : (s.modSensing l f).configured = s.configured := rfl
@[simp] theorem State.modSensing_settings (s : State) (l : Lane) (f : SensingLane → SensingLane) : (s.modSensing l f).settings = s.settings := rfl
@[simp] theorem State.modSensing_handicap (s : State) (l : Lane) (f : SensingLane → SensingLane) : (s.modSensing l f).handicap = s.handicap := rfl
@[simp] theorem State.modSensing_head (s : State) (l : Lane) (f : SensingLane → SensingLane) : (s.modSensing l f).head = s.head := rfl
@[simp] theorem State.modSensing_sensing (s : State) (l : Lane) (f : SensingLane → SensingLane) : (s.modSensing l f).sensing = s.sensing.set l (f (s.sensing.get l)) := rfl
@[simp] theorem State.modSensing_scanSerial (s : State) (l : Lane) (f : SensingLane → SensingLane) : (s.modSensing l f).scanSerial = s.scanSerial := rfl
@[simp] theorem State.modSensing_pdu (s : State) (l : Lane) (f : SensingLane → SensingLane) : (s.modSensing l f).pdu = s.pdu := rfl
@[simp] theorem State.modSensing_psc (s : State) (l : Lane) (f : SensingLane → SensingLane) : (s.modSensing l f).psc = s.psc := rfl
@[simp] theorem State.modSensing_ret (s : State) (l : Lane) (f : SensingLane → SensingLane) : (s.modSensing l f).ret = s.ret := rfl
@[simp] theorem State.modSensing_groups (s : State) (l : Lane) (f : SensingLane → SensingLane) : (s.modSensing l f).groups = s.groups := rfl
@[simp] theorem State.modSensing_lines (s : State) (l : Lane) (f : SensingLane → SensingLane) : (s.modSensing l f).lines = s.lines := rfl
@[simp] theorem State.modSensing_lanes (s : State) (l : Lane) (f : SensingLane → SensingLane) : (s.modSensing l f).lanes = s.lanes := rfl
@[simp] theorem State.modSensing_corrections (s : State) (l : Lane) (f : SensingLane → SensingLane) : (s.modSensing l f).corrections = s.corrections := rfl
@[simp] theorem State.modSensing_nextEntry (s : State) (l : Lane) (f : SensingLane → SensingLane) : (s.modSensing l f).nextEntry = s.nextEntry := rfl
@[simp] theorem State.modSensing_sessions (s : State) (l : Lane) (f : SensingLane → SensingLane) : (s.modSensing l f).sessions = s.sessions := rfl
@[simp] theorem State.modSensing_rates (s : State) (l : Lane) (f : SensingLane → SensingLane) : (s.modSensing l f).rates = s.rates := rfl
@[simp] theorem State.modSensing_timeOfDay (s : State) (l : Lane) (f : SensingLane → SensingLane) : (s.modSensing l f).timeOfDay = s.timeOfDay := rfl
@[simp] theorem State.modSensing_minuteTimer (s : State) (l : Lane) (f : SensingLane → SensingLane) : (s.modSensing l f).minuteTimer = s.minuteTimer := rfl
@[simp] theorem State.modSensing_feeds (s : State) (l : Lane) (f : SensingLane → SensingLane) : (s.modSensing l f).feeds = s.feeds := rfl
@[simp] theorem State.modSensing_outbound (s : State) (l : Lane) (f : SensingLane → SensingLane) : (s.modSensing l f).outbound = s.outbound := rfl
@[simp] theorem State.modSensing_staging (s : State) (l : Lane) (f : SensingLane → SensingLane) : (s.modSensing l f).staging = s.staging := rfl
@[simp] theorem State.modSensing_gapTimer (s : State) (l : Lane) (f : SensingLane → SensingLane) : (s.modSensing l f).gapTimer = s.gapTimer := rfl
@[simp] theorem State.modSensing_ports (s : State) (l : Lane) (f : SensingLane → SensingLane) : (s.modSensing l f).ports = s.ports := rfl
@[simp] theorem State.modSensing_dirty (s : State) (l : Lane) (f : SensingLane → SensingLane) : (s.modSensing l f).dirty = s.dirty := rfl

@[simp] theorem State.modPdu_pending (s : State) (l : Lane) (f : Pdu → Pdu) : (s.modPdu l f).pending = s.pending := rfl
@[simp] theorem State.modPdu_configured (s : State) (l : Lane) (f : Pdu → Pdu) : (s.modPdu l f).configured = s.configured := rfl
@[simp] theorem State.modPdu_settings (s : State) (l : Lane) (f : Pdu → Pdu) : (s.modPdu l f).settings = s.settings := rfl
@[simp] theorem State.modPdu_handicap (s : State) (l : Lane) (f : Pdu → Pdu) : (s.modPdu l f).handicap = s.handicap := rfl
@[simp] theorem State.modPdu_head (s : State) (l : Lane) (f : Pdu → Pdu) : (s.modPdu l f).head = s.head := rfl
@[simp] theorem State.modPdu_sensing (s : State) (l : Lane) (f : Pdu → Pdu) : (s.modPdu l f).sensing = s.sensing := rfl
@[simp] theorem State.modPdu_scanSerial (s : State) (l : Lane) (f : Pdu → Pdu) : (s.modPdu l f).scanSerial = s.scanSerial := rfl
@[simp] theorem State.modPdu_pdu (s : State) (l : Lane) (f : Pdu → Pdu) : (s.modPdu l f).pdu = s.pdu.set l (f (s.pdu.get l)) := rfl
@[simp] theorem State.modPdu_psc (s : State) (l : Lane) (f : Pdu → Pdu) : (s.modPdu l f).psc = s.psc := rfl
@[simp] theorem State.modPdu_ret (s : State) (l : Lane) (f : Pdu → Pdu) : (s.modPdu l f).ret = s.ret := rfl
@[simp] theorem State.modPdu_groups (s : State) (l : Lane) (f : Pdu → Pdu) : (s.modPdu l f).groups = s.groups := rfl
@[simp] theorem State.modPdu_lines (s : State) (l : Lane) (f : Pdu → Pdu) : (s.modPdu l f).lines = s.lines := rfl
@[simp] theorem State.modPdu_lanes (s : State) (l : Lane) (f : Pdu → Pdu) : (s.modPdu l f).lanes = s.lanes := rfl
@[simp] theorem State.modPdu_corrections (s : State) (l : Lane) (f : Pdu → Pdu) : (s.modPdu l f).corrections = s.corrections := rfl
@[simp] theorem State.modPdu_nextEntry (s : State) (l : Lane) (f : Pdu → Pdu) : (s.modPdu l f).nextEntry = s.nextEntry := rfl
@[simp] theorem State.modPdu_sessions (s : State) (l : Lane) (f : Pdu → Pdu) : (s.modPdu l f).sessions = s.sessions := rfl
@[simp] theorem State.modPdu_rates (s : State) (l : Lane) (f : Pdu → Pdu) : (s.modPdu l f).rates = s.rates := rfl
@[simp] theorem State.modPdu_timeOfDay (s : State) (l : Lane) (f : Pdu → Pdu) : (s.modPdu l f).timeOfDay = s.timeOfDay := rfl
@[simp] theorem State.modPdu_minuteTimer (s : State) (l : Lane) (f : Pdu → Pdu) : (s.modPdu l f).minuteTimer = s.minuteTimer := rfl
@[simp] theorem State.modPdu_feeds (s : State) (l : Lane) (f : Pdu → Pdu) : (s.modPdu l f).feeds = s.feeds := rfl
@[simp] theorem State.modPdu_outbound (s : State) (l : Lane) (f : Pdu → Pdu) : (s.modPdu l f).outbound = s.outbound := rfl
@[simp] theorem State.modPdu_staging (s : State) (l : Lane) (f : Pdu → Pdu) : (s.modPdu l f).staging = s.staging := rfl
@[simp] theorem State.modPdu_gapTimer (s : State) (l : Lane) (f : Pdu → Pdu) : (s.modPdu l f).gapTimer = s.gapTimer := rfl
@[simp] theorem State.modPdu_ports (s : State) (l : Lane) (f : Pdu → Pdu) : (s.modPdu l f).ports = s.ports := rfl
@[simp] theorem State.modPdu_dirty (s : State) (l : Lane) (f : Pdu → Pdu) : (s.modPdu l f).dirty = s.dirty := rfl

@[simp] theorem State.modPsc_pending (s : State) (l : Lane) (f : Pinsetter → Pinsetter) : (s.modPsc l f).pending = s.pending := rfl
@[simp] theorem State.modPsc_configured (s : State) (l : Lane) (f : Pinsetter → Pinsetter) : (s.modPsc l f).configured = s.configured := rfl
@[simp] theorem State.modPsc_settings (s : State) (l : Lane) (f : Pinsetter → Pinsetter) : (s.modPsc l f).settings = s.settings := rfl
@[simp] theorem State.modPsc_handicap (s : State) (l : Lane) (f : Pinsetter → Pinsetter) : (s.modPsc l f).handicap = s.handicap := rfl
@[simp] theorem State.modPsc_head (s : State) (l : Lane) (f : Pinsetter → Pinsetter) : (s.modPsc l f).head = s.head := rfl
@[simp] theorem State.modPsc_sensing (s : State) (l : Lane) (f : Pinsetter → Pinsetter) : (s.modPsc l f).sensing = s.sensing := rfl
@[simp] theorem State.modPsc_scanSerial (s : State) (l : Lane) (f : Pinsetter → Pinsetter) : (s.modPsc l f).scanSerial = s.scanSerial := rfl
@[simp] theorem State.modPsc_pdu (s : State) (l : Lane) (f : Pinsetter → Pinsetter) : (s.modPsc l f).pdu = s.pdu := rfl
@[simp] theorem State.modPsc_psc (s : State) (l : Lane) (f : Pinsetter → Pinsetter) : (s.modPsc l f).psc = s.psc.set l (f (s.psc.get l)) := rfl
@[simp] theorem State.modPsc_ret (s : State) (l : Lane) (f : Pinsetter → Pinsetter) : (s.modPsc l f).ret = s.ret := rfl
@[simp] theorem State.modPsc_groups (s : State) (l : Lane) (f : Pinsetter → Pinsetter) : (s.modPsc l f).groups = s.groups := rfl
@[simp] theorem State.modPsc_lines (s : State) (l : Lane) (f : Pinsetter → Pinsetter) : (s.modPsc l f).lines = s.lines := rfl
@[simp] theorem State.modPsc_lanes (s : State) (l : Lane) (f : Pinsetter → Pinsetter) : (s.modPsc l f).lanes = s.lanes := rfl
@[simp] theorem State.modPsc_corrections (s : State) (l : Lane) (f : Pinsetter → Pinsetter) : (s.modPsc l f).corrections = s.corrections := rfl
@[simp] theorem State.modPsc_nextEntry (s : State) (l : Lane) (f : Pinsetter → Pinsetter) : (s.modPsc l f).nextEntry = s.nextEntry := rfl
@[simp] theorem State.modPsc_sessions (s : State) (l : Lane) (f : Pinsetter → Pinsetter) : (s.modPsc l f).sessions = s.sessions := rfl
@[simp] theorem State.modPsc_rates (s : State) (l : Lane) (f : Pinsetter → Pinsetter) : (s.modPsc l f).rates = s.rates := rfl
@[simp] theorem State.modPsc_timeOfDay (s : State) (l : Lane) (f : Pinsetter → Pinsetter) : (s.modPsc l f).timeOfDay = s.timeOfDay := rfl
@[simp] theorem State.modPsc_minuteTimer (s : State) (l : Lane) (f : Pinsetter → Pinsetter) : (s.modPsc l f).minuteTimer = s.minuteTimer := rfl
@[simp] theorem State.modPsc_feeds (s : State) (l : Lane) (f : Pinsetter → Pinsetter) : (s.modPsc l f).feeds = s.feeds := rfl
@[simp] theorem State.modPsc_outbound (s : State) (l : Lane) (f : Pinsetter → Pinsetter) : (s.modPsc l f).outbound = s.outbound := rfl
@[simp] theorem State.modPsc_staging (s : State) (l : Lane) (f : Pinsetter → Pinsetter) : (s.modPsc l f).staging = s.staging := rfl
@[simp] theorem State.modPsc_gapTimer (s : State) (l : Lane) (f : Pinsetter → Pinsetter) : (s.modPsc l f).gapTimer = s.gapTimer := rfl
@[simp] theorem State.modPsc_ports (s : State) (l : Lane) (f : Pinsetter → Pinsetter) : (s.modPsc l f).ports = s.ports := rfl
@[simp] theorem State.modPsc_dirty (s : State) (l : Lane) (f : Pinsetter → Pinsetter) : (s.modPsc l f).dirty = s.dirty := rfl

@[simp] theorem State.modReturn_pending (s : State) (f : BallReturn → BallReturn) : (s.modReturn f).pending = s.pending := rfl
@[simp] theorem State.modReturn_configured (s : State) (f : BallReturn → BallReturn) : (s.modReturn f).configured = s.configured := rfl
@[simp] theorem State.modReturn_settings (s : State) (f : BallReturn → BallReturn) : (s.modReturn f).settings = s.settings := rfl
@[simp] theorem State.modReturn_handicap (s : State) (f : BallReturn → BallReturn) : (s.modReturn f).handicap = s.handicap := rfl
@[simp] theorem State.modReturn_head (s : State) (f : BallReturn → BallReturn) : (s.modReturn f).head = s.head := rfl
@[simp] theorem State.modReturn_sensing (s : State) (f : BallReturn → BallReturn) : (s.modReturn f).sensing = s.sensing := rfl
@[simp] theorem State.modReturn_scanSerial (s : State) (f : BallReturn → BallReturn) : (s.modReturn f).scanSerial = s.scanSerial := rfl
@[simp] theorem State.modReturn_pdu (s : State) (f : BallReturn → BallReturn) : (s.modReturn f).pdu = s.pdu := rfl
@[simp] theorem State.modReturn_psc (s : State) (f : BallReturn → BallReturn) : (s.modReturn f).psc = s.psc := rfl
@[simp] theorem State.modReturn_ret (s : State) (f : BallReturn → BallReturn) : (s.modReturn f).ret = f s.ret := rfl
@[simp] theorem State.modReturn_groups (s : State) (f : BallReturn → BallReturn) : (s.modReturn f).groups = s.groups := rfl
@[simp] theorem State.modReturn_lines (s : State) (f : BallReturn → BallReturn) : (s.modReturn f).lines = s.lines := rfl
@[simp] theorem State.modReturn_lanes (s : State) (f : BallReturn → BallReturn) : (s.modReturn f).lanes = s.lanes := rfl
@[simp] theorem State.modReturn_corrections (s : State) (f : BallReturn → BallReturn) : (s.modReturn f).corrections = s.corrections := rfl
@[simp] theorem State.modReturn_nextEntry (s : State) (f : BallReturn → BallReturn) : (s.modReturn f).nextEntry = s.nextEntry := rfl
@[simp] theorem State.modReturn_sessions (s : State) (f : BallReturn → BallReturn) : (s.modReturn f).sessions = s.sessions := rfl
@[simp] theorem State.modReturn_rates (s : State) (f : BallReturn → BallReturn) : (s.modReturn f).rates = s.rates := rfl
@[simp] theorem State.modReturn_timeOfDay (s : State) (f : BallReturn → BallReturn) : (s.modReturn f).timeOfDay = s.timeOfDay := rfl
@[simp] theorem State.modReturn_minuteTimer (s : State) (f : BallReturn → BallReturn) : (s.modReturn f).minuteTimer = s.minuteTimer := rfl
@[simp] theorem State.modReturn_feeds (s : State) (f : BallReturn → BallReturn) : (s.modReturn f).feeds = s.feeds := rfl
@[simp] theorem State.modReturn_outbound (s : State) (f : BallReturn → BallReturn) : (s.modReturn f).outbound = s.outbound := rfl
@[simp] theorem State.modReturn_staging (s : State) (f : BallReturn → BallReturn) : (s.modReturn f).staging = s.staging := rfl
@[simp] theorem State.modReturn_gapTimer (s : State) (f : BallReturn → BallReturn) : (s.modReturn f).gapTimer = s.gapTimer := rfl
@[simp] theorem State.modReturn_ports (s : State) (f : BallReturn → BallReturn) : (s.modReturn f).ports = s.ports := rfl
@[simp] theorem State.modReturn_dirty (s : State) (f : BallReturn → BallReturn) : (s.modReturn f).dirty = s.dirty := rfl

@[simp] theorem State.modGroup_pending (s : State) (g : Slot) (f : Group → Group) : (s.modGroup g f).pending = s.pending := rfl
@[simp] theorem State.modGroup_configured (s : State) (g : Slot) (f : Group → Group) : (s.modGroup g f).configured = s.configured := rfl
@[simp] theorem State.modGroup_settings (s : State) (g : Slot) (f : Group → Group) : (s.modGroup g f).settings = s.settings := rfl
@[simp] theorem State.modGroup_handicap (s : State) (g : Slot) (f : Group → Group) : (s.modGroup g f).handicap = s.handicap := rfl
@[simp] theorem State.modGroup_head (s : State) (g : Slot) (f : Group → Group) : (s.modGroup g f).head = s.head := rfl
@[simp] theorem State.modGroup_sensing (s : State) (g : Slot) (f : Group → Group) : (s.modGroup g f).sensing = s.sensing := rfl
@[simp] theorem State.modGroup_scanSerial (s : State) (g : Slot) (f : Group → Group) : (s.modGroup g f).scanSerial = s.scanSerial := rfl
@[simp] theorem State.modGroup_pdu (s : State) (g : Slot) (f : Group → Group) : (s.modGroup g f).pdu = s.pdu := rfl
@[simp] theorem State.modGroup_psc (s : State) (g : Slot) (f : Group → Group) : (s.modGroup g f).psc = s.psc := rfl
@[simp] theorem State.modGroup_ret (s : State) (g : Slot) (f : Group → Group) : (s.modGroup g f).ret = s.ret := rfl
@[simp] theorem State.modGroup_groups (s : State) (g : Slot) (f : Group → Group) : (s.modGroup g f).groups = s.groups.set g (f (s.groups.get g)) := rfl
@[simp] theorem State.modGroup_lines (s : State) (g : Slot) (f : Group → Group) : (s.modGroup g f).lines = s.lines := rfl
@[simp] theorem State.modGroup_lanes (s : State) (g : Slot) (f : Group → Group) : (s.modGroup g f).lanes = s.lanes := rfl
@[simp] theorem State.modGroup_corrections (s : State) (g : Slot) (f : Group → Group) : (s.modGroup g f).corrections = s.corrections := rfl
@[simp] theorem State.modGroup_nextEntry (s : State) (g : Slot) (f : Group → Group) : (s.modGroup g f).nextEntry = s.nextEntry := rfl
@[simp] theorem State.modGroup_sessions (s : State) (g : Slot) (f : Group → Group) : (s.modGroup g f).sessions = s.sessions := rfl
@[simp] theorem State.modGroup_rates (s : State) (g : Slot) (f : Group → Group) : (s.modGroup g f).rates = s.rates := rfl
@[simp] theorem State.modGroup_timeOfDay (s : State) (g : Slot) (f : Group → Group) : (s.modGroup g f).timeOfDay = s.timeOfDay := rfl
@[simp] theorem State.modGroup_minuteTimer (s : State) (g : Slot) (f : Group → Group) : (s.modGroup g f).minuteTimer = s.minuteTimer := rfl
@[simp] theorem State.modGroup_feeds (s : State) (g : Slot) (f : Group → Group) : (s.modGroup g f).feeds = s.feeds := rfl
@[simp] theorem State.modGroup_outbound (s : State) (g : Slot) (f : Group → Group) : (s.modGroup g f).outbound = s.outbound := rfl
@[simp] theorem State.modGroup_staging (s : State) (g : Slot) (f : Group → Group) : (s.modGroup g f).staging = s.staging := rfl
@[simp] theorem State.modGroup_gapTimer (s : State) (g : Slot) (f : Group → Group) : (s.modGroup g f).gapTimer = s.gapTimer := rfl
@[simp] theorem State.modGroup_ports (s : State) (g : Slot) (f : Group → Group) : (s.modGroup g f).ports = s.ports := rfl
@[simp] theorem State.modGroup_dirty (s : State) (g : Slot) (f : Group → Group) : (s.modGroup g f).dirty = s.dirty := rfl

@[simp] theorem State.modLane_pending (s : State) (l : Lane) (f : LaneRecord → LaneRecord) : (s.modLane l f).pending = s.pending := rfl
@[simp] theorem State.modLane_configured (s : State) (l : Lane) (f : LaneRecord → LaneRecord) : (s.modLane l f).configured = s.configured := rfl
@[simp] theorem State.modLane_settings (s : State) (l : Lane) (f : LaneRecord → LaneRecord) : (s.modLane l f).settings = s.settings := rfl
@[simp] theorem State.modLane_handicap (s : State) (l : Lane) (f : LaneRecord → LaneRecord) : (s.modLane l f).handicap = s.handicap := rfl
@[simp] theorem State.modLane_head (s : State) (l : Lane) (f : LaneRecord → LaneRecord) : (s.modLane l f).head = s.head := rfl
@[simp] theorem State.modLane_sensing (s : State) (l : Lane) (f : LaneRecord → LaneRecord) : (s.modLane l f).sensing = s.sensing := rfl
@[simp] theorem State.modLane_scanSerial (s : State) (l : Lane) (f : LaneRecord → LaneRecord) : (s.modLane l f).scanSerial = s.scanSerial := rfl
@[simp] theorem State.modLane_pdu (s : State) (l : Lane) (f : LaneRecord → LaneRecord) : (s.modLane l f).pdu = s.pdu := rfl
@[simp] theorem State.modLane_psc (s : State) (l : Lane) (f : LaneRecord → LaneRecord) : (s.modLane l f).psc = s.psc := rfl
@[simp] theorem State.modLane_ret (s : State) (l : Lane) (f : LaneRecord → LaneRecord) : (s.modLane l f).ret = s.ret := rfl
@[simp] theorem State.modLane_groups (s : State) (l : Lane) (f : LaneRecord → LaneRecord) : (s.modLane l f).groups = s.groups := rfl
@[simp] theorem State.modLane_lines (s : State) (l : Lane) (f : LaneRecord → LaneRecord) : (s.modLane l f).lines = s.lines := rfl
@[simp] theorem State.modLane_lanes (s : State) (l : Lane) (f : LaneRecord → LaneRecord) : (s.modLane l f).lanes = s.lanes.set l (f (s.lanes.get l)) := rfl
@[simp] theorem State.modLane_corrections (s : State) (l : Lane) (f : LaneRecord → LaneRecord) : (s.modLane l f).corrections = s.corrections := rfl
@[simp] theorem State.modLane_nextEntry (s : State) (l : Lane) (f : LaneRecord → LaneRecord) : (s.modLane l f).nextEntry = s.nextEntry := rfl
@[simp] theorem State.modLane_sessions (s : State) (l : Lane) (f : LaneRecord → LaneRecord) : (s.modLane l f).sessions = s.sessions := rfl
@[simp] theorem State.modLane_rates (s : State) (l : Lane) (f : LaneRecord → LaneRecord) : (s.modLane l f).rates = s.rates := rfl
@[simp] theorem State.modLane_timeOfDay (s : State) (l : Lane) (f : LaneRecord → LaneRecord) : (s.modLane l f).timeOfDay = s.timeOfDay := rfl
@[simp] theorem State.modLane_minuteTimer (s : State) (l : Lane) (f : LaneRecord → LaneRecord) : (s.modLane l f).minuteTimer = s.minuteTimer := rfl
@[simp] theorem State.modLane_feeds (s : State) (l : Lane) (f : LaneRecord → LaneRecord) : (s.modLane l f).feeds = s.feeds := rfl
@[simp] theorem State.modLane_outbound (s : State) (l : Lane) (f : LaneRecord → LaneRecord) : (s.modLane l f).outbound = s.outbound := rfl
@[simp] theorem State.modLane_staging (s : State) (l : Lane) (f : LaneRecord → LaneRecord) : (s.modLane l f).staging = s.staging := rfl
@[simp] theorem State.modLane_gapTimer (s : State) (l : Lane) (f : LaneRecord → LaneRecord) : (s.modLane l f).gapTimer = s.gapTimer := rfl
@[simp] theorem State.modLane_ports (s : State) (l : Lane) (f : LaneRecord → LaneRecord) : (s.modLane l f).ports = s.ports := rfl
@[simp] theorem State.modLane_dirty (s : State) (l : Lane) (f : LaneRecord → LaneRecord) : (s.modLane l f).dirty = s.dirty := rfl

@[simp] theorem State.modSession_pending (s : State) (l : Lane) (f : Session → Session) : (s.modSession l f).pending = s.pending := rfl
@[simp] theorem State.modSession_configured (s : State) (l : Lane) (f : Session → Session) : (s.modSession l f).configured = s.configured := rfl
@[simp] theorem State.modSession_settings (s : State) (l : Lane) (f : Session → Session) : (s.modSession l f).settings = s.settings := rfl
@[simp] theorem State.modSession_handicap (s : State) (l : Lane) (f : Session → Session) : (s.modSession l f).handicap = s.handicap := rfl
@[simp] theorem State.modSession_head (s : State) (l : Lane) (f : Session → Session) : (s.modSession l f).head = s.head := rfl
@[simp] theorem State.modSession_sensing (s : State) (l : Lane) (f : Session → Session) : (s.modSession l f).sensing = s.sensing := rfl
@[simp] theorem State.modSession_scanSerial (s : State) (l : Lane) (f : Session → Session) : (s.modSession l f).scanSerial = s.scanSerial := rfl
@[simp] theorem State.modSession_pdu (s : State) (l : Lane) (f : Session → Session) : (s.modSession l f).pdu = s.pdu := rfl
@[simp] theorem State.modSession_psc (s : State) (l : Lane) (f : Session → Session) : (s.modSession l f).psc = s.psc := rfl
@[simp] theorem State.modSession_ret (s : State) (l : Lane) (f : Session → Session) : (s.modSession l f).ret = s.ret := rfl
@[simp] theorem State.modSession_groups (s : State) (l : Lane) (f : Session → Session) : (s.modSession l f).groups = s.groups := rfl
@[simp] theorem State.modSession_lines (s : State) (l : Lane) (f : Session → Session) : (s.modSession l f).lines = s.lines := rfl
@[simp] theorem State.modSession_lanes (s : State) (l : Lane) (f : Session → Session) : (s.modSession l f).lanes = s.lanes := rfl
@[simp] theorem State.modSession_corrections (s : State) (l : Lane) (f : Session → Session) : (s.modSession l f).corrections = s.corrections := rfl
@[simp] theorem State.modSession_nextEntry (s : State) (l : Lane) (f : Session → Session) : (s.modSession l f).nextEntry = s.nextEntry := rfl
@[simp] theorem State.modSession_sessions (s : State) (l : Lane) (f : Session → Session) : (s.modSession l f).sessions = s.sessions.set l (f (s.sessions.get l)) := rfl
@[simp] theorem State.modSession_rates (s : State) (l : Lane) (f : Session → Session) : (s.modSession l f).rates = s.rates := rfl
@[simp] theorem State.modSession_timeOfDay (s : State) (l : Lane) (f : Session → Session) : (s.modSession l f).timeOfDay = s.timeOfDay := rfl
@[simp] theorem State.modSession_minuteTimer (s : State) (l : Lane) (f : Session → Session) : (s.modSession l f).minuteTimer = s.minuteTimer := rfl
@[simp] theorem State.modSession_feeds (s : State) (l : Lane) (f : Session → Session) : (s.modSession l f).feeds = s.feeds := rfl
@[simp] theorem State.modSession_outbound (s : State) (l : Lane) (f : Session → Session) : (s.modSession l f).outbound = s.outbound := rfl
@[simp] theorem State.modSession_staging (s : State) (l : Lane) (f : Session → Session) : (s.modSession l f).staging = s.staging := rfl
@[simp] theorem State.modSession_gapTimer (s : State) (l : Lane) (f : Session → Session) : (s.modSession l f).gapTimer = s.gapTimer := rfl
@[simp] theorem State.modSession_ports (s : State) (l : Lane) (f : Session → Session) : (s.modSession l f).ports = s.ports := rfl
@[simp] theorem State.modSession_dirty (s : State) (l : Lane) (f : Session → Session) : (s.modSession l f).dirty = s.dirty := rfl

@[simp] theorem State.modFeed_pending (s : State) (l : Lane) (f : Feed → Feed) : (s.modFeed l f).pending = s.pending := rfl
@[simp] theorem State.modFeed_configured (s : State) (l : Lane) (f : Feed → Feed) : (s.modFeed l f).configured = s.configured := rfl
@[simp] theorem State.modFeed_settings (s : State) (l : Lane) (f : Feed → Feed) : (s.modFeed l f).settings = s.settings := rfl
@[simp] theorem State.modFeed_handicap (s : State) (l : Lane) (f : Feed → Feed) : (s.modFeed l f).handicap = s.handicap := rfl
@[simp] theorem State.modFeed_head (s : State) (l : Lane) (f : Feed → Feed) : (s.modFeed l f).head = s.head := rfl
@[simp] theorem State.modFeed_sensing (s : State) (l : Lane) (f : Feed → Feed) : (s.modFeed l f).sensing = s.sensing := rfl
@[simp] theorem State.modFeed_scanSerial (s : State) (l : Lane) (f : Feed → Feed) : (s.modFeed l f).scanSerial = s.scanSerial := rfl
@[simp] theorem State.modFeed_pdu (s : State) (l : Lane) (f : Feed → Feed) : (s.modFeed l f).pdu = s.pdu := rfl
@[simp] theorem State.modFeed_psc (s : State) (l : Lane) (f : Feed → Feed) : (s.modFeed l f).psc = s.psc := rfl
@[simp] theorem State.modFeed_ret (s : State) (l : Lane) (f : Feed → Feed) : (s.modFeed l f).ret = s.ret := rfl
@[simp] theorem State.modFeed_groups (s : State) (l : Lane) (f : Feed → Feed) : (s.modFeed l f).groups = s.groups := rfl
@[simp] theorem State.modFeed_lines (s : State) (l : Lane) (f : Feed → Feed) : (s.modFeed l f).lines = s.lines := rfl
@[simp] theorem State.modFeed_lanes (s : State) (l : Lane) (f : Feed → Feed) : (s.modFeed l f).lanes = s.lanes := rfl
@[simp] theorem State.modFeed_corrections (s : State) (l : Lane) (f : Feed → Feed) : (s.modFeed l f).corrections = s.corrections := rfl
@[simp] theorem State.modFeed_nextEntry (s : State) (l : Lane) (f : Feed → Feed) : (s.modFeed l f).nextEntry = s.nextEntry := rfl
@[simp] theorem State.modFeed_sessions (s : State) (l : Lane) (f : Feed → Feed) : (s.modFeed l f).sessions = s.sessions := rfl
@[simp] theorem State.modFeed_rates (s : State) (l : Lane) (f : Feed → Feed) : (s.modFeed l f).rates = s.rates := rfl
@[simp] theorem State.modFeed_timeOfDay (s : State) (l : Lane) (f : Feed → Feed) : (s.modFeed l f).timeOfDay = s.timeOfDay := rfl
@[simp] theorem State.modFeed_minuteTimer (s : State) (l : Lane) (f : Feed → Feed) : (s.modFeed l f).minuteTimer = s.minuteTimer := rfl
@[simp] theorem State.modFeed_feeds (s : State) (l : Lane) (f : Feed → Feed) : (s.modFeed l f).feeds = s.feeds.set l (f (s.feeds.get l)) := rfl
@[simp] theorem State.modFeed_outbound (s : State) (l : Lane) (f : Feed → Feed) : (s.modFeed l f).outbound = s.outbound := rfl
@[simp] theorem State.modFeed_staging (s : State) (l : Lane) (f : Feed → Feed) : (s.modFeed l f).staging = s.staging := rfl
@[simp] theorem State.modFeed_gapTimer (s : State) (l : Lane) (f : Feed → Feed) : (s.modFeed l f).gapTimer = s.gapTimer := rfl
@[simp] theorem State.modFeed_ports (s : State) (l : Lane) (f : Feed → Feed) : (s.modFeed l f).ports = s.ports := rfl
@[simp] theorem State.modFeed_dirty (s : State) (l : Lane) (f : Feed → Feed) : (s.modFeed l f).dirty = s.dirty := rfl

@[simp] theorem State.modPort_pending (s : State) (k : Link) (f : Port → Port) : (s.modPort k f).pending = s.pending := rfl
@[simp] theorem State.modPort_configured (s : State) (k : Link) (f : Port → Port) : (s.modPort k f).configured = s.configured := rfl
@[simp] theorem State.modPort_settings (s : State) (k : Link) (f : Port → Port) : (s.modPort k f).settings = s.settings := rfl
@[simp] theorem State.modPort_handicap (s : State) (k : Link) (f : Port → Port) : (s.modPort k f).handicap = s.handicap := rfl
@[simp] theorem State.modPort_head (s : State) (k : Link) (f : Port → Port) : (s.modPort k f).head = s.head := rfl
@[simp] theorem State.modPort_sensing (s : State) (k : Link) (f : Port → Port) : (s.modPort k f).sensing = s.sensing := rfl
@[simp] theorem State.modPort_scanSerial (s : State) (k : Link) (f : Port → Port) : (s.modPort k f).scanSerial = s.scanSerial := rfl
@[simp] theorem State.modPort_pdu (s : State) (k : Link) (f : Port → Port) : (s.modPort k f).pdu = s.pdu := rfl
@[simp] theorem State.modPort_psc (s : State) (k : Link) (f : Port → Port) : (s.modPort k f).psc = s.psc := rfl
@[simp] theorem State.modPort_ret (s : State) (k : Link) (f : Port → Port) : (s.modPort k f).ret = s.ret := rfl
@[simp] theorem State.modPort_groups (s : State) (k : Link) (f : Port → Port) : (s.modPort k f).groups = s.groups := rfl
@[simp] theorem State.modPort_lines (s : State) (k : Link) (f : Port → Port) : (s.modPort k f).lines = s.lines := rfl
@[simp] theorem State.modPort_lanes (s : State) (k : Link) (f : Port → Port) : (s.modPort k f).lanes = s.lanes := rfl
@[simp] theorem State.modPort_corrections (s : State) (k : Link) (f : Port → Port) : (s.modPort k f).corrections = s.corrections := rfl
@[simp] theorem State.modPort_nextEntry (s : State) (k : Link) (f : Port → Port) : (s.modPort k f).nextEntry = s.nextEntry := rfl
@[simp] theorem State.modPort_sessions (s : State) (k : Link) (f : Port → Port) : (s.modPort k f).sessions = s.sessions := rfl
@[simp] theorem State.modPort_rates (s : State) (k : Link) (f : Port → Port) : (s.modPort k f).rates = s.rates := rfl
@[simp] theorem State.modPort_timeOfDay (s : State) (k : Link) (f : Port → Port) : (s.modPort k f).timeOfDay = s.timeOfDay := rfl
@[simp] theorem State.modPort_minuteTimer (s : State) (k : Link) (f : Port → Port) : (s.modPort k f).minuteTimer = s.minuteTimer := rfl
@[simp] theorem State.modPort_feeds (s : State) (k : Link) (f : Port → Port) : (s.modPort k f).feeds = s.feeds := rfl
@[simp] theorem State.modPort_outbound (s : State) (k : Link) (f : Port → Port) : (s.modPort k f).outbound = s.outbound := rfl
@[simp] theorem State.modPort_staging (s : State) (k : Link) (f : Port → Port) : (s.modPort k f).staging = s.staging := rfl
@[simp] theorem State.modPort_gapTimer (s : State) (k : Link) (f : Port → Port) : (s.modPort k f).gapTimer = s.gapTimer := rfl
@[simp] theorem State.modPort_ports (s : State) (k : Link) (f : Port → Port) : (s.modPort k f).ports = s.ports.set k (f (s.ports.get k)) := rfl
@[simp] theorem State.modPort_dirty (s : State) (k : Link) (f : Port → Port) : (s.modPort k f).dirty = s.dirty := rfl

@[simp] theorem State.modHead_pending (s : State) (f : Head → Head) : (s.modHead f).pending = s.pending := rfl
@[simp] theorem State.modHead_configured (s : State) (f : Head → Head) : (s.modHead f).configured = s.configured := rfl
@[simp] theorem State.modHead_settings (s : State) (f : Head → Head) : (s.modHead f).settings = s.settings := rfl
@[simp] theorem State.modHead_handicap (s : State) (f : Head → Head) : (s.modHead f).handicap = s.handicap := rfl
@[simp] theorem State.modHead_head (s : State) (f : Head → Head) : (s.modHead f).head = f s.head := rfl
@[simp] theorem State.modHead_sensing (s : State) (f : Head → Head) : (s.modHead f).sensing = s.sensing := rfl
@[simp] theorem State.modHead_scanSerial (s : State) (f : Head → Head) : (s.modHead f).scanSerial = s.scanSerial := rfl
@[simp] theorem State.modHead_pdu (s : State) (f : Head → Head) : (s.modHead f).pdu = s.pdu := rfl
@[simp] theorem State.modHead_psc (s : State) (f : Head → Head) : (s.modHead f).psc = s.psc := rfl
@[simp] theorem State.modHead_ret (s : State) (f : Head → Head) : (s.modHead f).ret = s.ret := rfl
@[simp] theorem State.modHead_groups (s : State) (f : Head → Head) : (s.modHead f).groups = s.groups := rfl
@[simp] theorem State.modHead_lines (s : State) (f : Head → Head) : (s.modHead f).lines = s.lines := rfl
@[simp] theorem State.modHead_lanes (s : State) (f : Head → Head) : (s.modHead f).lanes = s.lanes := rfl
@[simp] theorem State.modHead_corrections (s : State) (f : Head → Head) : (s.modHead f).corrections = s.corrections := rfl
@[simp] theorem State.modHead_nextEntry (s : State) (f : Head → Head) : (s.modHead f).nextEntry = s.nextEntry := rfl
@[simp] theorem State.modHead_sessions (s : State) (f : Head → Head) : (s.modHead f).sessions = s.sessions := rfl
@[simp] theorem State.modHead_rates (s : State) (f : Head → Head) : (s.modHead f).rates = s.rates := rfl
@[simp] theorem State.modHead_timeOfDay (s : State) (f : Head → Head) : (s.modHead f).timeOfDay = s.timeOfDay := rfl
@[simp] theorem State.modHead_minuteTimer (s : State) (f : Head → Head) : (s.modHead f).minuteTimer = s.minuteTimer := rfl
@[simp] theorem State.modHead_feeds (s : State) (f : Head → Head) : (s.modHead f).feeds = s.feeds := rfl
@[simp] theorem State.modHead_outbound (s : State) (f : Head → Head) : (s.modHead f).outbound = s.outbound := rfl
@[simp] theorem State.modHead_staging (s : State) (f : Head → Head) : (s.modHead f).staging = s.staging := rfl
@[simp] theorem State.modHead_gapTimer (s : State) (f : Head → Head) : (s.modHead f).gapTimer = s.gapTimer := rfl
@[simp] theorem State.modHead_ports (s : State) (f : Head → Head) : (s.modHead f).ports = s.ports := rfl
@[simp] theorem State.modHead_dirty (s : State) (f : Head → Head) : (s.modHead f).dirty = s.dirty := rfl

@[simp] theorem State.setLine_pending (s : State) (i : LineId) (o : Option Line) : (s.setLine i o).pending = s.pending := rfl
@[simp] theorem State.setLine_configured (s : State) (i : LineId) (o : Option Line) : (s.setLine i o).configured = s.configured := rfl
@[simp] theorem State.setLine_settings (s : State) (i : LineId) (o : Option Line) : (s.setLine i o).settings = s.settings := rfl
@[simp] theorem State.setLine_handicap (s : State) (i : LineId) (o : Option Line) : (s.setLine i o).handicap = s.handicap := rfl
@[simp] theorem State.setLine_head (s : State) (i : LineId) (o : Option Line) : (s.setLine i o).head = s.head := rfl
@[simp] theorem State.setLine_sensing (s : State) (i : LineId) (o : Option Line) : (s.setLine i o).sensing = s.sensing := rfl
@[simp] theorem State.setLine_scanSerial (s : State) (i : LineId) (o : Option Line) : (s.setLine i o).scanSerial = s.scanSerial := rfl
@[simp] theorem State.setLine_pdu (s : State) (i : LineId) (o : Option Line) : (s.setLine i o).pdu = s.pdu := rfl
@[simp] theorem State.setLine_psc (s : State) (i : LineId) (o : Option Line) : (s.setLine i o).psc = s.psc := rfl
@[simp] theorem State.setLine_ret (s : State) (i : LineId) (o : Option Line) : (s.setLine i o).ret = s.ret := rfl
@[simp] theorem State.setLine_groups (s : State) (i : LineId) (o : Option Line) : (s.setLine i o).groups = s.groups := rfl
@[simp] theorem State.setLine_lines (s : State) (i : LineId) (o : Option Line) : (s.setLine i o).lines = s.lines.set i.val o i.isLt := rfl
@[simp] theorem State.setLine_lanes (s : State) (i : LineId) (o : Option Line) : (s.setLine i o).lanes = s.lanes := rfl
@[simp] theorem State.setLine_corrections (s : State) (i : LineId) (o : Option Line) : (s.setLine i o).corrections = s.corrections := rfl
@[simp] theorem State.setLine_nextEntry (s : State) (i : LineId) (o : Option Line) : (s.setLine i o).nextEntry = s.nextEntry := rfl
@[simp] theorem State.setLine_sessions (s : State) (i : LineId) (o : Option Line) : (s.setLine i o).sessions = s.sessions := rfl
@[simp] theorem State.setLine_rates (s : State) (i : LineId) (o : Option Line) : (s.setLine i o).rates = s.rates := rfl
@[simp] theorem State.setLine_timeOfDay (s : State) (i : LineId) (o : Option Line) : (s.setLine i o).timeOfDay = s.timeOfDay := rfl
@[simp] theorem State.setLine_minuteTimer (s : State) (i : LineId) (o : Option Line) : (s.setLine i o).minuteTimer = s.minuteTimer := rfl
@[simp] theorem State.setLine_feeds (s : State) (i : LineId) (o : Option Line) : (s.setLine i o).feeds = s.feeds := rfl
@[simp] theorem State.setLine_outbound (s : State) (i : LineId) (o : Option Line) : (s.setLine i o).outbound = s.outbound := rfl
@[simp] theorem State.setLine_staging (s : State) (i : LineId) (o : Option Line) : (s.setLine i o).staging = s.staging := rfl
@[simp] theorem State.setLine_gapTimer (s : State) (i : LineId) (o : Option Line) : (s.setLine i o).gapTimer = s.gapTimer := rfl
@[simp] theorem State.setLine_ports (s : State) (i : LineId) (o : Option Line) : (s.setLine i o).ports = s.ports := rfl
@[simp] theorem State.setLine_dirty (s : State) (i : LineId) (o : Option Line) : (s.setLine i o).dirty = s.dirty := rfl

@[simp] theorem State.tell_pending (s : State) (k : Link) (n : Notice) : (s.tell k n).pending = s.pending := rfl
@[simp] theorem State.tell_configured (s : State) (k : Link) (n : Notice) : (s.tell k n).configured = s.configured := rfl
@[simp] theorem State.tell_settings (s : State) (k : Link) (n : Notice) : (s.tell k n).settings = s.settings := rfl
@[simp] theorem State.tell_handicap (s : State) (k : Link) (n : Notice) : (s.tell k n).handicap = s.handicap := rfl
@[simp] theorem State.tell_head (s : State) (k : Link) (n : Notice) : (s.tell k n).head = s.head := rfl
@[simp] theorem State.tell_sensing (s : State) (k : Link) (n : Notice) : (s.tell k n).sensing = s.sensing := rfl
@[simp] theorem State.tell_scanSerial (s : State) (k : Link) (n : Notice) : (s.tell k n).scanSerial = s.scanSerial := rfl
@[simp] theorem State.tell_pdu (s : State) (k : Link) (n : Notice) : (s.tell k n).pdu = s.pdu := rfl
@[simp] theorem State.tell_psc (s : State) (k : Link) (n : Notice) : (s.tell k n).psc = s.psc := rfl
@[simp] theorem State.tell_ret (s : State) (k : Link) (n : Notice) : (s.tell k n).ret = s.ret := rfl
@[simp] theorem State.tell_groups (s : State) (k : Link) (n : Notice) : (s.tell k n).groups = s.groups := rfl
@[simp] theorem State.tell_lines (s : State) (k : Link) (n : Notice) : (s.tell k n).lines = s.lines := rfl
@[simp] theorem State.tell_lanes (s : State) (k : Link) (n : Notice) : (s.tell k n).lanes = s.lanes := rfl
@[simp] theorem State.tell_corrections (s : State) (k : Link) (n : Notice) : (s.tell k n).corrections = s.corrections := rfl
@[simp] theorem State.tell_nextEntry (s : State) (k : Link) (n : Notice) : (s.tell k n).nextEntry = s.nextEntry := rfl
@[simp] theorem State.tell_sessions (s : State) (k : Link) (n : Notice) : (s.tell k n).sessions = s.sessions := rfl
@[simp] theorem State.tell_rates (s : State) (k : Link) (n : Notice) : (s.tell k n).rates = s.rates := rfl
@[simp] theorem State.tell_timeOfDay (s : State) (k : Link) (n : Notice) : (s.tell k n).timeOfDay = s.timeOfDay := rfl
@[simp] theorem State.tell_minuteTimer (s : State) (k : Link) (n : Notice) : (s.tell k n).minuteTimer = s.minuteTimer := rfl
@[simp] theorem State.tell_feeds (s : State) (k : Link) (n : Notice) : (s.tell k n).feeds = s.feeds := rfl
@[simp] theorem State.tell_outbound (s : State) (k : Link) (n : Notice) : (s.tell k n).outbound = s.outbound := rfl
@[simp] theorem State.tell_staging (s : State) (k : Link) (n : Notice) : (s.tell k n).staging = s.staging := rfl
@[simp] theorem State.tell_gapTimer (s : State) (k : Link) (n : Notice) : (s.tell k n).gapTimer = s.gapTimer := rfl
@[simp] theorem State.tell_dirty (s : State) (k : Link) (n : Notice) : (s.tell k n).dirty = s.dirty := rfl


@[simp] theorem State.broadcast_pending (s : State) (n : Notice) : (s.broadcast n).pending = s.pending := rfl
@[simp] theorem State.broadcast_configured (s : State) (n : Notice) : (s.broadcast n).configured = s.configured := rfl
@[simp] theorem State.broadcast_settings (s : State) (n : Notice) : (s.broadcast n).settings = s.settings := rfl
@[simp] theorem State.broadcast_handicap (s : State) (n : Notice) : (s.broadcast n).handicap = s.handicap := rfl
@[simp] theorem State.broadcast_head (s : State) (n : Notice) : (s.broadcast n).head = s.head := rfl
@[simp] theorem State.broadcast_sensing (s : State) (n : Notice) : (s.broadcast n).sensing = s.sensing := rfl
@[simp] theorem State.broadcast_scanSerial (s : State) (n : Notice) : (s.broadcast n).scanSerial = s.scanSerial := rfl
@[simp] theorem State.broadcast_pdu (s : State) (n : Notice) : (s.broadcast n).pdu = s.pdu := rfl
@[simp] theorem State.broadcast_psc (s : State) (n : Notice) : (s.broadcast n).psc = s.psc := rfl
@[simp] theorem State.broadcast_ret (s : State) (n : Notice) : (s.broadcast n).ret = s.ret := rfl
@[simp] theorem State.broadcast_groups (s : State) (n : Notice) : (s.broadcast n).groups = s.groups := rfl
@[simp] theorem State.broadcast_lines (s : State) (n : Notice) : (s.broadcast n).lines = s.lines := rfl
@[simp] theorem State.broadcast_lanes (s : State) (n : Notice) : (s.broadcast n).lanes = s.lanes := rfl
@[simp] theorem State.broadcast_corrections (s : State) (n : Notice) : (s.broadcast n).corrections = s.corrections := rfl
@[simp] theorem State.broadcast_nextEntry (s : State) (n : Notice) : (s.broadcast n).nextEntry = s.nextEntry := rfl
@[simp] theorem State.broadcast_sessions (s : State) (n : Notice) : (s.broadcast n).sessions = s.sessions := rfl
@[simp] theorem State.broadcast_rates (s : State) (n : Notice) : (s.broadcast n).rates = s.rates := rfl
@[simp] theorem State.broadcast_timeOfDay (s : State) (n : Notice) : (s.broadcast n).timeOfDay = s.timeOfDay := rfl
@[simp] theorem State.broadcast_minuteTimer (s : State) (n : Notice) : (s.broadcast n).minuteTimer = s.minuteTimer := rfl
@[simp] theorem State.broadcast_feeds (s : State) (n : Notice) : (s.broadcast n).feeds = s.feeds := rfl
@[simp] theorem State.broadcast_outbound (s : State) (n : Notice) : (s.broadcast n).outbound = s.outbound := rfl
@[simp] theorem State.broadcast_staging (s : State) (n : Notice) : (s.broadcast n).staging = s.staging := rfl
@[simp] theorem State.broadcast_gapTimer (s : State) (n : Notice) : (s.broadcast n).gapTimer = s.gapTimer := rfl
@[simp] theorem State.broadcast_dirty (s : State) (n : Notice) : (s.broadcast n).dirty = s.dirty := rfl


@[simp] theorem State.markFeed_pending (s : State) (l : Lane) (a b : Bool) : (s.markFeed l a b).pending = s.pending := rfl
@[simp] theorem State.markFeed_configured (s : State) (l : Lane) (a b : Bool) : (s.markFeed l a b).configured = s.configured := rfl
@[simp] theorem State.markFeed_settings (s : State) (l : Lane) (a b : Bool) : (s.markFeed l a b).settings = s.settings := rfl
@[simp] theorem State.markFeed_handicap (s : State) (l : Lane) (a b : Bool) : (s.markFeed l a b).handicap = s.handicap := rfl
@[simp] theorem State.markFeed_head (s : State) (l : Lane) (a b : Bool) : (s.markFeed l a b).head = s.head := rfl
@[simp] theorem State.markFeed_sensing (s : State) (l : Lane) (a b : Bool) : (s.markFeed l a b).sensing = s.sensing := rfl
@[simp] theorem State.markFeed_scanSerial (s : State) (l : Lane) (a b : Bool) : (s.markFeed l a b).scanSerial = s.scanSerial := rfl
@[simp] theorem State.markFeed_pdu (s : State) (l : Lane) (a b : Bool) : (s.markFeed l a b).pdu = s.pdu := rfl
@[simp] theorem State.markFeed_psc (s : State) (l : Lane) (a b : Bool) : (s.markFeed l a b).psc = s.psc := rfl
@[simp] theorem State.markFeed_ret (s : State) (l : Lane) (a b : Bool) : (s.markFeed l a b).ret = s.ret := rfl
@[simp] theorem State.markFeed_groups (s : State) (l : Lane) (a b : Bool) : (s.markFeed l a b).groups = s.groups := rfl
@[simp] theorem State.markFeed_lines (s : State) (l : Lane) (a b : Bool) : (s.markFeed l a b).lines = s.lines := rfl
@[simp] theorem State.markFeed_lanes (s : State) (l : Lane) (a b : Bool) : (s.markFeed l a b).lanes = s.lanes := rfl
@[simp] theorem State.markFeed_corrections (s : State) (l : Lane) (a b : Bool) : (s.markFeed l a b).corrections = s.corrections := rfl
@[simp] theorem State.markFeed_nextEntry (s : State) (l : Lane) (a b : Bool) : (s.markFeed l a b).nextEntry = s.nextEntry := rfl
@[simp] theorem State.markFeed_sessions (s : State) (l : Lane) (a b : Bool) : (s.markFeed l a b).sessions = s.sessions := rfl
@[simp] theorem State.markFeed_rates (s : State) (l : Lane) (a b : Bool) : (s.markFeed l a b).rates = s.rates := rfl
@[simp] theorem State.markFeed_timeOfDay (s : State) (l : Lane) (a b : Bool) : (s.markFeed l a b).timeOfDay = s.timeOfDay := rfl
@[simp] theorem State.markFeed_minuteTimer (s : State) (l : Lane) (a b : Bool) : (s.markFeed l a b).minuteTimer = s.minuteTimer := rfl
@[simp] theorem State.markFeed_outbound (s : State) (l : Lane) (a b : Bool) : (s.markFeed l a b).outbound = s.outbound := rfl
@[simp] theorem State.markFeed_staging (s : State) (l : Lane) (a b : Bool) : (s.markFeed l a b).staging = s.staging := rfl
@[simp] theorem State.markFeed_gapTimer (s : State) (l : Lane) (a b : Bool) : (s.markFeed l a b).gapTimer = s.gapTimer := rfl
@[simp] theorem State.markFeed_ports (s : State) (l : Lane) (a b : Bool) : (s.markFeed l a b).ports = s.ports := rfl
@[simp] theorem State.markFeed_dirty (s : State) (l : Lane) (a b : Bool) : (s.markFeed l a b).dirty = s.dirty := rfl


@[simp] theorem State.pump_pending (s : State) : (s.pump).pending = s.pending := rfl
@[simp] theorem State.pump_configured (s : State) : (s.pump).configured = s.configured := rfl
@[simp] theorem State.pump_settings (s : State) : (s.pump).settings = s.settings := rfl
@[simp] theorem State.pump_handicap (s : State) : (s.pump).handicap = s.handicap := rfl
@[simp] theorem State.pump_head (s : State) : (s.pump).head = s.head := rfl
@[simp] theorem State.pump_sensing (s : State) : (s.pump).sensing = s.sensing := rfl
@[simp] theorem State.pump_scanSerial (s : State) : (s.pump).scanSerial = s.scanSerial := rfl
@[simp] theorem State.pump_pdu (s : State) : (s.pump).pdu = s.pdu := rfl
@[simp] theorem State.pump_psc (s : State) : (s.pump).psc = s.psc := rfl
@[simp] theorem State.pump_ret (s : State) : (s.pump).ret = s.ret := rfl
@[simp] theorem State.pump_groups (s : State) : (s.pump).groups = s.groups := rfl
@[simp] theorem State.pump_lines (s : State) : (s.pump).lines = s.lines := rfl
@[simp] theorem State.pump_lanes (s : State) : (s.pump).lanes = s.lanes := rfl
@[simp] theorem State.pump_corrections (s : State) : (s.pump).corrections = s.corrections := rfl
@[simp] theorem State.pump_nextEntry (s : State) : (s.pump).nextEntry = s.nextEntry := rfl
@[simp] theorem State.pump_sessions (s : State) : (s.pump).sessions = s.sessions := rfl
@[simp] theorem State.pump_rates (s : State) : (s.pump).rates = s.rates := rfl
@[simp] theorem State.pump_timeOfDay (s : State) : (s.pump).timeOfDay = s.timeOfDay := rfl
@[simp] theorem State.pump_minuteTimer (s : State) : (s.pump).minuteTimer = s.minuteTimer := rfl
@[simp] theorem State.pump_feeds (s : State) : (s.pump).feeds = s.feeds := rfl
@[simp] theorem State.pump_outbound (s : State) : (s.pump).outbound = s.outbound := rfl
@[simp] theorem State.pump_staging (s : State) : (s.pump).staging = s.staging := rfl
@[simp] theorem State.pump_gapTimer (s : State) : (s.pump).gapTimer = s.gapTimer := rfl
@[simp] theorem State.pump_dirty (s : State) : (s.pump).dirty = s.dirty := rfl

end Sys2Proof.Machine
end

