-- ==== Sys2Proof/Laws/Serving.lean ====
section
/-! SUPPORT. What taking a request can do (R187, R188, R191), one lemma for each way: served at once, refused for want of
rights, queued behind others, answered BUSY, dropped, or not received in a break. -/
namespace Sys2Proof.Machine

theorem kind_range (r : Request) : 1 ≤ r.kind ∧ r.kind ≤ 60 := by cases r <;> simp [Request.kind]

/-- Type 60 is that of link-reset alone. -/
theorem kind_ne_reset {r : Request} (h : r ≠ .linkReset) : r.kind ≠ Request.linkReset.kind := by
  cases r <;> first | exact absurd rfl h | simp [Request.kind]

@[simp] theorem State.port_modPort (s : State) (k : Link) (f : Port → Port) : (s.modPort k f).port k = f (s.port k) := by
  simp [State.port]

theorem State.port_modPort_of_ne (s : State) {k j : Link} (h : j ≠ k) (f : Port → Port) : (s.modPort k f).port j = s.port j := by
  simp [State.port, PerLink.get_set_of_ne _ h]

@[simp] theorem State.port_pump (s : State) (k : Link) : (s.pump).port k = (s.port k).pump := by cases k <;> rfl

/-- The queue of an idle link with a request in it. -/
theorem State.port_queuedUp {s : State} {k : Link} (h : LinkIdle s k) (tag : Tag) (r : Request) :
    ((s.queuedUp k tag r).port k).queue = [queuedOf tag r] := by
  simp [State.queuedUp, Port.enqueue, h.2.1]

/-- The request at the front is handed to its owning block when its link may send it (R188, steps 2 and 4). -/
theorem State.answer_of_admitted (s : State) (k : Link) (tag : Tag) (r : Request) (h : admits k r.kind = true) :
    s.answer k (queuedOf tag r) = (finishRequest r (handle k r s).1, (handle k r s).2) := by
  have h0 : r.kind ≠ 0 := by have := kind_range r; omega
  have h60 : ¬ 60 < r.kind := by have := kind_range r; omega
  simp [State.answer, queuedOf, h, h0, h60]

/-- A request that its link may not send is answered RIGHTS, and nothing else changes (R188, step 2). -/
theorem State.answer_of_denied (s : State) (k : Link) (tag : Tag) (r : Request) (h : admits k r.kind = false) :
    s.answer k (queuedOf tag r) = refuse .rights s := by
  have h0 : r.kind ≠ 0 := by have := kind_range r; omega
  have h60 : ¬ 60 < r.kind := by have := kind_range r; omega
  simp [State.answer, queuedOf, h, h0, h60]

/-- A request that meets an idle link is served in the event it is taken (R188). -/
theorem State.takeRequest_of_idle {s : State} {k : Link} (hi : LinkIdle s k) (tag : Tag) {r : Request} (hr : r ≠ .linkReset) :
    s.takeRequest k (queuedOf tag r) = (s.queuedUp k tag r).serveFront k := by
  obtain ⟨hb, hq, -, -⟩ := hi
  have hn : (queuedOf tag r).kind ≠ Request.linkReset.kind := kind_ne_reset hr
  simp [State.takeRequest, hb, hn, hq, State.queuedUp]

theorem State.serveFront_queuedUp {s : State} {k : Link} (hi : LinkIdle s k) (tag : Tag) (r : Request) :
    (s.queuedUp k tag r).serveFront k =
      ((s.queuedUp k tag r).answer k (queuedOf tag r)).1.modPort k
        fun p => p.reply (queuedOf tag r) ((s.queuedUp k tag r).answer k (queuedOf tag r)).2 := by
  simp [State.serveFront, State.port_queuedUp hi]

/-- An admitted request on an idle link: its owning block acts, and the reply follows (R188). -/
theorem State.request_of_idle {s : State} {k : Link} (hi : LinkIdle s k) (tag : Tag) {r : Request} (hr : r ≠ .linkReset)
    (ha : admits k r.kind = true) :
    s.request k tag r = (handle k r (s.queuedUp k tag r)).1.answered k tag r (handle k r (s.queuedUp k tag r)).2 := by
  rw [State.request, State.takeRequest_of_idle hi tag hr, State.serveFront_queuedUp hi, State.answer_of_admitted _ _ _ _ ha]
  rfl

/-- A request that its link may not send, on an idle link: the reply RIGHTS (R188). -/
theorem State.request_of_denied {s : State} {k : Link} (hi : LinkIdle s k) (tag : Tag) {r : Request} (hr : r ≠ .linkReset)
    (ha : admits k r.kind = false) :
    s.request k tag r =
      ((s.queuedUp k tag r).modPort k fun p => p.reply (queuedOf tag r) (.refused .rights)).pump := by
  rw [State.request, State.takeRequest_of_idle hi tag hr, State.serveFront_queuedUp hi, State.answer_of_denied _ _ _ _ ha]
  rfl

/-- In a break nothing is received (R187, R191). -/
theorem State.request_of_break {s : State} {k : Link} (h : (s.port k).inBreak = true) (tag : Tag) (r : Request) :
    s.request k tag r = s.pump := by
  simp [State.request, State.takeRequest, h]

/-- A request that finds others in the queue joins its end and is not served (R188). -/
theorem State.request_of_waiting {s : State} {k : Link} (hb : (s.port k).inBreak = false) (hq : (s.port k).queue ≠ [])
    (hl : (s.port k).queue.length < 4) (tag : Tag) {r : Request} (hr : r ≠ .linkReset) :
    s.request k tag r = (s.queuedUp k tag r).pump := by
  have hn : (queuedOf tag r).kind ≠ Request.linkReset.kind := kind_ne_reset hr
  simp [State.request, State.takeRequest, hb, hn, hl, hq, State.queuedUp]

/-- A request that finds the queue full is answered BUSY or dropped (R188). -/
theorem State.request_of_full {s : State} {k : Link} (hb : (s.port k).inBreak = false) (hl : 4 ≤ (s.port k).queue.length)
    (tag : Tag) {r : Request} (hr : r ≠ .linkReset) :
    s.request k tag r = (s.modPort k fun p => p.busy (queuedOf tag r)).pump := by
  have hn : (queuedOf tag r).kind ≠ Request.linkReset.kind := kind_ne_reset hr
  have hl' : ¬ (s.port k).queue.length < 4 := by omega
  simp [State.request, State.takeRequest, hb, hn, hl']

/-- The port of an idle link once its request is answered, when the effect left the port as it was. -/
theorem State.answered_port {s u : State} {k : Link} (hi : LinkIdle s k) (tag : Tag) (r : Request) (a : Answer)
    (hu : (finishRequest r u).port k = (s.queuedUp k tag r).port k) : Answered s (u.answered k tag r a) k tag r a := by
  obtain ⟨hb, hq, hl, ht⟩ := hi
  simp [Answered, State.answered, hu, State.queuedUp, Port.enqueue, Port.reply, Port.pump, hb, hq, hl, ht, queuedOf]

end Sys2Proof.Machine
end

