-- ==== Sys2Proof/Laws/Evolution.lean ====
section
/-! SUPPORT. What the blocks behind the link ports can do, said once: every effect of an event or of a served request is a
chain of the single steps of `Evolves`, so an invariant that each single step keeps, every event keeps. The link ports
themselves change only by the offer of a notice. -/
namespace Sys2Proof.Machine

/-! ### The single steps -/

/-- How one feed changes. -/
inductive FeedStep : Feed → Feed → Prop
  | mark (f : Feed) (c a b : Bool) : FeedStep f (f.mark c a b)
  | banner (f : Feed) (b : Banner) (n : Option Nat) : FeedStep f (f.onBanner b n)
  | lastBall (f : Feed) (b : Option BallRecord) : FeedStep f { f with lastBall := b }
  | oneShot (f : Feed) (p : Nat) : FeedStep f { f with oneShot := some p, oneShotCarried := false }
  | highlights (f : Feed) (h : Positions) : FeedStep f { f with highlights := h }
  | pull (f : Feed) : FeedStep f f.pull
  | clear (f : Feed) (c : Bool) (n : Option Nat) : FeedStep f (f.clear c n)
  | load (f : Feed) (lower upper : List Row) (hl : lower.length = 32) (hu : upper.length = 32) : FeedStep f (f.load lower upper)

/-- How one meter changes (R146, R150, R151, R153, R159). -/
inductive MeterStep : Meter → Meter → Prop
  | same (m : Meter) : MeterStep m m
  | zero (m : Meter) : MeterStep m .zero
  | add (m : Meter) (n : Nat) : MeterStep m (m.add n)
  | games (m : Meter) (n : Nat) : MeterStep m { m with games := satAdd m.games n }
  | minutes (m : Meter) (n : Nat) : MeterStep m { m with minutes := satAdd m.minutes n }
  | fraction (m : Meter) (n : Nat) : MeterStep m { m with fraction := n % 60 }
  | settled (m : Meter) : MeterStep m { m with fraction := 0 }

/-- How the balls of the return change; `capacity` is the rack capacity. -/
inductive ReturnStep (capacity : Nat) : BallReturn → BallReturn → Prop
  | quiet (r r' : BallReturn) (hp : r'.pits = r.pits) (hl : r'.lift.isSome = r.lift.isSome) (hr : r'.rack = r.rack)
      (hs : r'.stampCounter = r.stampCounter) (hg : r'.rackGlitches = r.rackGlitches)
      (hh : r'.liftGlitches = r.liftGlitches) : ReturnStep capacity r r'
  | take (r : BallReturn) (timeout : Nat) : ReturnStep capacity r (r.take capacity timeout)
  | enter (r : BallReturn) (l : Lane) (h : (r.pits.get l).length < 2) : ReturnStep capacity r (r.enterPit l)
  | delivered (r : BallReturn) (h : r.lift.isSome = true) :
      ReturnStep capacity r { r with lift := none, carryTimer := none, rack := r.rack + 1 }
  | taken (r : BallReturn) : ReturnStep capacity r { r with rack := r.rack - 1 }
  | rackGlitch (r : BallReturn) : ReturnStep capacity r { r with rackGlitches := satInc r.rackGlitches }
  | liftGlitch (r : BallReturn) : ReturnStep capacity r { r with liftGlitches := satInc r.liftGlitches }
  | removed (r : BallReturn) (lift left right : Nat) : ReturnStep capacity r (r.removed lift left right)
  | counted (r : BallReturn) (n : Nat) (h : n ≤ capacity - r.inLift) : ReturnStep capacity r { r with rack := n }

/-- How a line's copies, claims and contents change (R126, R127, R129 to R131, R143). -/
inductive LineStep : Line → Line → Prop
  | contents (l l' : Line) (hc : l'.copies = l.copies) (ht : l'.claimTimer = l.claimTimer) : LineStep l l'
  | read (l : Line) (k : Link) :
      LineStep l { l with copies := l.copies.set k (if l.copies.get k = .none then .copy else l.copies.get k) }
  | grant (l : Line) (k : Link) (n : Nat) (h : l.holder = none ∨ l.holder = some k) : LineStep l (l.grant k n)
  | preempt (l : Line) (h k : Link) (n : Nat) (hh : l.holder = some h) :
      LineStep l ({ l with copies := l.copies.set h .copy }.grant k n)
  | unclaim (l : Line) : LineStep l l.unclaim
  | changed (l : Line) (a b c : Bool) (v : Nat) :
      LineStep l { l with
        version := v
        copies := ⟨copyAfter a l.copies.desk, copyAfter b l.copies.service, copyAfter c l.copies.console⟩ }
  | forget (l : Line) (k : Link) : LineStep l (l.forgetLink k)
  | restart (l l' : Line) (k : Link) (n : Nat) (h : l.copies.get k = .edit) (hc : l'.copies = l.copies)
      (ht : l'.claimTimer = some n) : LineStep l l'

/-- What becomes of a line id: its line changes, goes, or is created with no copy and no claim (R125, R128). -/
inductive LineMove : Option Line → Option Line → Prop
  | same (o : Option Line) : LineMove o o
  | step (l l' : Line) (h : LineStep l l') : LineMove (some l) (some l')
  | gone (o : Option Line) : LineMove o none
  | born (o : Option Line) (l : Line) (hc : l.copies = ⟨.none, .none, .none⟩) (ht : l.claimTimer = none) :
      LineMove o (some l)

/-- How the state of a session and the state it was PAUSED from change (R145, R148). -/
inductive PauseStep : Session → Session → Prop
  | kept (x y : Session) (hs : y.state = x.state) (hf : y.pausedFrom = x.pausedFrom) : PauseStep x y
  | plain (x y : Session) (hs : y.state ≠ .paused) (hf : y.pausedFrom = none) : PauseStep x y
  | paused (x y : Session) (hs : y.state = .paused) (hf : y.pausedFrom = some .opened ∨ y.pausedFrom = some .overtime) :
      PauseStep x y
  | resumed (x y : Session) (hx : x.state = .paused) (hs : y.state = x.pausedFrom.getD .opened) (hf : y.pausedFrom = none) :
      PauseStep x y

/-- What a chain of steps may do beyond what every chain may. -/
structure Scope where
  /-- the return may change its state (R81) -/
  returns  : Bool
  /-- a machine in CHECKING may change, and a check need come or go (R60) -/
  checks   : Bool
  /-- a PDU may arm, and a machine may leave READY (R26, R27) -/
  rearms   : Bool
  /-- the order of `ControlsOk` may be lost -/
  disorder : Bool

/-- Every chain. -/
def Scope.all : Scope := ⟨true, true, true, true⟩

/-- The check need that waits on a lane (R16). -/
def State.checkNeed (s : State) (l : Lane) : Option Pins := (s.sensing.get l).needs.check

/-- What a change of other registers leaves as it was. -/
structure Untouched (c : Scope) (s t : State) : Prop where
  pending     : t.pending = s.pending
  ports       : t.ports = s.ports
  feeds       : t.feeds = s.feeds
  sessions    : t.sessions = s.sessions
  ret         : t.ret = s.ret
  capacity    : t.settings.rackCapacity = s.settings.rackCapacity
  corrections : t.corrections = s.corrections
  nextEntry   : t.nextEntry = s.nextEntry
  lines       : t.lines = s.lines
  psc         : t.psc = s.psc
  checks      : ∀ l, t.checkNeed l = s.checkNeed l
  configured  : t.configured = false → s.configured = false
  armed       : c.rearms = false → ∀ l, (t.pdu.get l).run = .armed → (s.pdu.get l).run = .armed

/-- How the control of one lane changes: to another order, and not beyond the scope. -/
structure Steers (c : Scope) (t u : State) (l : Lane) : Prop where
  order  : ControlOk u.configured (u.psc.get l) (u.ret.holds.get l) (u.checkNeed l)
  checks : c.checks = true ∨ (t.psc.get l).state ≠ .checking ∨ u.psc.get l = t.psc.get l ∧ u.checkNeed l = t.checkNeed l
  rearms : c.rearms = true ∨ (t.psc.get l).state ≠ .ready ∨ (u.psc.get l).state = .ready

/-- The chains of single steps that an event can take. -/
inductive Evolves (c : Scope) : State → State → Prop
  | refl (s : State) : Evolves c s s
  | trans {s t u : State} (h : Evolves c s t) (h' : Evolves c t u) : Evolves c s u
  /-- any change of the registers that the other steps do not name -/
  | other {s t : State} (h : Untouched c s t) : Evolves c s t
  | offer (s : State) (k : Link) (n : Notice) : Evolves c s (s.tell k n)
  | feed (s : State) (l : Lane) (f : Feed → Feed) (h : FeedStep (s.feeds.get l) (f (s.feeds.get l))) :
      Evolves c s (s.modFeed l f)
  | session (s : State) (l : Lane) (f : Session → Session)
      (h : MeterStep (s.sessions.get l).meter (f (s.sessions.get l)).meter)
      (hp : PauseStep (s.sessions.get l) (f (s.sessions.get l))) : Evolves c s (s.modSession l f)
  | ret (s : State) (f : BallReturn → BallReturn) (h : ReturnStep s.settings.rackCapacity s.ret (f s.ret))
      (hh : (f s.ret).holds = s.ret.holds) (hs : c.returns = true ∨ (f s.ret).state = s.ret.state) : Evolves c s (s.modReturn f)
  /-- a change of the pinsetters, with the holds and the check needs that go with it -/
  | control {s t u : State} (h : Evolves c s t)
      (hu : { u with psc := t.psc, sensing := t.sensing, ret := { u.ret with holds := t.ret.holds } } = t)
      (ho : c.disorder = true ∨ (ControlsOk s → ∀ l, Steers c t u l)) : Evolves c s u
  | capacity (s : State) (t : Settings) (h : s.ret.rack + s.ret.inLift ≤ t.rackCapacity) (hl : 6 ≤ t.rackCapacity)
      (hu : t.rackCapacity ≤ 16) : Evolves c s { s with settings := t }
  | lines (s : State) (v : Vector (Option Line) 16) (h : ∀ i : LineId, LineMove (s.line i) (v.get i)) :
      Evolves c s { s with lines := v }
  /-- entries leave the pending correction queue -/
  | fewer (s : State) (keep : Correction → Bool) : Evolves c s { s with corrections := s.corrections.filter keep }
  | empty (s : State) : Evolves c s { s with corrections := [], nextEntry := 1 }
  /-- entries of the queue are overwritten, their ids kept -/
  | overwrite (s : State) (f : Correction → Correction) (h : ∀ e ∈ s.corrections, (f e).id = e.id) :
      Evolves c s { s with corrections := s.corrections.map f }
  /-- an entry joins the queue -/
  | append (s : State) (e : Correction) (h : s.corrections.length < 8) (he : e.id = freeEntry s.corrections 8 s.nextEntry) :
      Evolves c s { s with corrections := s.corrections ++ [e], nextEntry := if e.id < 255 then e.id + 1 else 1 }

namespace Evolves

variable {c : Scope}

theorem of_eq {s t : State} (h : t = s) : Evolves c s t := by rw [h]; exact .refl s

theorem ite {s t u : State} {p : Prop} [Decidable p] (ht : p → Evolves c s t) (hu : ¬ p → Evolves c s u) :
    Evolves c s (if p then t else u) := by
  split
  · exact ht ‹_›
  · exact hu ‹_›

/-- A fold of steps is a chain of them. -/
theorem foldl {α : Type} {f : State → α → State} (h : ∀ s a, Evolves c s (f s a)) (l : List α) (s : State) :
    Evolves c s (l.foldl f s) := by
  induction l generalizing s with
  | nil => exact .refl s
  | cons a l ih => exact (h s a).trans (ih _)

/-- The queue of waiting commands is outside what an event changes. -/
theorem pending {s t : State} (h : Evolves c s t) : t.pending = s.pending := by
  induction h with
  | refl => rfl
  | trans _ _ h h' => exact h'.trans h
  | other h => exact h.pending
  | control _ hu _ ih => exact (congrArg State.pending hu).trans ih
  | offer | feed | session | ret | capacity | lines | fewer | empty | overwrite | append => rfl

/-- What no notice touches of a port. -/
structure SamePort (p q : Port) : Prop where
  queue       : q.queue = p.queue
  frontServed : q.frontServed = p.frontServed
  replies     : q.replies = p.replies
  mask        : q.mask = p.mask
  badFrames   : q.badFrames = p.badFrames
  inBreak     : q.inBreak = p.inBreak
  tx          : q.tx = p.tx
  sent        : q.sent = p.sent

theorem SamePort.offer (p : Port) (n : Notice) : SamePort p (p.offer n) := by
  unfold Port.offer
  split <;> exact ⟨rfl, rfl, rfl, rfl, rfl, rfl, rfl, rfl⟩

theorem SamePort.trans {p q r : Port} (h : SamePort p q) (h' : SamePort q r) : SamePort p r :=
  ⟨h'.1.trans h.1, h'.2.trans h.2, h'.3.trans h.3, h'.4.trans h.4, h'.5.trans h.5, h'.6.trans h.6, h'.7.trans h.7,
    h'.8.trans h.8⟩

theorem SamePort.refl (p : Port) : SamePort p p := ⟨rfl, rfl, rfl, rfl, rfl, rfl, rfl, rfl⟩

/-- An event leaves of each port all but its notices and the lost-notice flag. -/
theorem port {s t : State} (h : Evolves c s t) (k : Link) : SamePort (s.port k) (t.port k) := by
  induction h with
  | trans _ _ h h' => exact h.trans h'
  | other h =>
    simp only [State.port, h.ports]
    exact .refl _
  | control _ hu _ ih =>
    have e : ∀ {u t : State}, u.ports = t.ports → u.port k = t.port k := fun e => by simp only [State.port, e]
    exact e (congrArg State.ports hu :) ▸ ih
  | offer s j n =>
    by_cases hk : k = j
    · subst hk
      simp only [State.tell, State.port_modPort]
      exact .offer _ _
    · simp only [State.tell, State.port_modPort_of_ne _ hk]
      exact .refl _
  | refl | feed | session | ret | capacity | lines | fewer | empty | overwrite | append => exact .refl _

/-- A change of one session leaves the other's record alone. -/
theorem session_cases (s : State) (l m : Lane) (f : Session → Session) :
    (m = l ∧ (s.modSession l f).sessions.get m = f (s.sessions.get m)) ∨ (s.modSession l f).sessions.get m = s.sessions.get m := by
  by_cases h : m = l
  · subst h
    exact .inl ⟨rfl, by simp [State.modSession]⟩
  · exact .inr (by simp [State.modSession, PerLane.get_set_of_ne _ h])

/-- A session is PAUSED from OPEN or OVERTIME alone (R148). -/
theorem pauses {s t : State} (h : Evolves c s t) (hs : PausesOk s) : PausesOk t := by
  induction h with
  | trans _ _ h h' => exact h' (h hs)
  | other h =>
    intro l
    rw [h.sessions]
    exact hs l
  | control _ hu _ ih =>
    intro l
    rw [(congrArg State.sessions hu :)]
    exact ih hs l
  | session s l f _ hp =>
    intro m
    rcases session_cases s l m f with ⟨rfl, e⟩ | e <;> rw [e]
    · have hx := hs m
      cases hp with
      | kept h1 h2 => simpa only [PauseOk, h1, h2] using hx
      | plain h1 h2 => exact ⟨fun h => absurd h h1, fun _ => h2⟩
      | paused h1 h2 => exact ⟨fun _ => h2, fun h => absurd h1 h⟩
      | resumed h0 h1 h2 =>
        refine ⟨fun h => ?_, fun _ => h2⟩
        rcases hx.1 h0 with e | e <;> rw [h1, e] at h <;> cases h
    · exact hs m
  | refl | offer | feed | ret | capacity | lines | fewer | empty | overwrite | append => exact hs

/-- No session comes to be PAUSED from another state than OPEN and OVERTIME (R148). -/
theorem pausedFrom_ne {s t : State} (h : Evolves c s t) {a : SessionState} (ha : a ≠ .opened ∧ a ≠ .overtime)
    (hs : ∀ l, (s.sessions.get l).pausedFrom ≠ some a) (l : Lane) : (t.sessions.get l).pausedFrom ≠ some a := by
  revert l
  induction h with
  | trans _ _ h h' => exact h' (h hs)
  | other h =>
    intro l
    rw [h.sessions]
    exact hs l
  | control _ hu _ ih =>
    intro l
    rw [(congrArg State.sessions hu :)]
    exact ih hs l
  | session s l f _ hp =>
    intro m
    rcases session_cases s l m f with ⟨rfl, e⟩ | e <;> rw [e]
    · cases hp with
      | kept h1 h2 => exact h2 ▸ hs m
      | plain h1 h2 => simp [h2]
      | paused h1 h2 => rcases h2 with e | e <;> simp [e, ha.1.symm, ha.2.symm]
      | resumed h0 h1 h2 => simp [h2]
    · exact hs m
  | refl | offer | feed | ret | capacity | lines | fewer | empty | overwrite | append => exact hs

/-- A chain that may not change the return's state does not (R81). -/
theorem returns {s t : State} (h : Evolves c s t) (hc : c.returns = false) : t.ret.state = s.ret.state := by
  induction h with
  | trans _ _ h h' => exact h'.trans h
  | other h => rw [h.ret]
  | control _ hu _ ih => exact (congrArg (fun u => u.ret.state) hu : _).trans ih
  | ret s f _ _ hs => simpa [hc, State.modReturn] using hs
  | refl | offer | feed | session | capacity | lines | fewer | empty | overwrite | append => rfl

/-- A chain keeps the order of the pinsetters. -/
theorem controls {s t : State} (h : Evolves c s t) (hc : c.disorder = false) (hs : ControlsOk s) : ControlsOk t := by
  induction h with
  | trans _ _ h h' => exact h' (h hs)
  | other h =>
    intro l
    have hl := hs l
    have hk := h.checks l
    simp only [State.checkNeed] at hk
    rw [h.psc, h.ret, hk]
    exact { hl with off := fun e => hl.off (h.configured e) }
  | control _ _ ho => exact fun l => (ho.resolve_left (by simp [hc]) hs l).order
  | ret s f _ hh =>
    intro l
    have hl := hs l
    rw [← hh] at hl
    exact hl
  | refl | offer | feed | session | capacity | lines | fewer | empty | overwrite | append => exact hs

/-- A chain that may not touch a machine in CHECKING leaves it and its check need as they are. -/
theorem checking {s t : State} (h : Evolves c s t) (hc : c.checks = false) (hd : c.disorder = false) (ho : ControlsOk s) {l : Lane}
    (hs : (s.psc.get l).state = .checking) : t.psc.get l = s.psc.get l ∧ t.checkNeed l = s.checkNeed l := by
  induction h with
  | trans h h' ih ih' =>
    have h1 := ih ho hs
    have h2 := ih' (h.controls hd ho) (h1.1 ▸ hs)
    exact ⟨h2.1.trans h1.1, h2.2.trans h1.2⟩
  | other h => exact ⟨by rw [h.psc], h.checks l⟩
  | control _ _ hk ih =>
    have h1 := ih ho hs
    have h2 := ((hk.resolve_left (by simp [hd]) ho l).checks.resolve_left (by simp [hc])).resolve_left
      (not_not_intro (h1.1 ▸ hs))
    exact ⟨h2.1.trans h1.1, h2.2.trans h1.2⟩
  | refl | offer | feed | session | ret | capacity | lines | fewer | empty | overwrite | append => exact ⟨rfl, rfl⟩

/-- A chain in which no PDU arms and no machine leaves READY keeps that. -/
theorem armed {s t : State} (h : Evolves c s t) (hc : c.rearms = false) (hd : c.disorder = false) (ho : ControlsOk s)
    (hs : ArmedOk s) : ArmedOk t := by
  induction h with
  | trans h h' ih ih' => exact ih' (h.controls hd ho) (ih ho hs)
  | other h =>
    intro l e
    rw [h.psc]
    exact hs l (h.armed hc l e)
  | control _ hu ha ih =>
    intro l e
    rw [(congrArg State.pdu hu :)] at e
    exact ((ha.resolve_left (by simp [hd]) ho l).rearms.resolve_left (by simp [hc])).resolve_left (not_not_intro (ih ho hs l e))
  | refl | offer | feed | session | ret | capacity | lines | fewer | empty | overwrite | append => exact hs

end Evolves

end Sys2Proof.Machine
end

