-- ==== Sys2Proof/Laws/Effects.lean ====
section
/-! SUPPORT. Every operation behind the link ports is a chain of the single steps of `Evolves`: one lemma for each. -/
set_option linter.unusedTactic false
set_option linter.unreachableTactic false
set_option linter.unusedVariables false

namespace Sys2Proof.Machine.Evolves

variable {c : Scope}

/-- A change of registers that no other single step names. -/
theorem others {s t u : State} (h : Evolves c s t) (hu : Untouched c t u) : Evolves c s u := h.trans (.other hu)

theorem checkNeed_modSensing (t : State) (l m : Lane) (f : SensingLane → SensingLane)
    (hf : ∀ x, (f x).needs.check = x.needs.check) : (t.modSensing l f).checkNeed m = t.checkNeed m := by
  by_cases h : m = l
  · subst h
    simp [State.checkNeed, hf]
  · simp [State.checkNeed, PerLane.get_set_of_ne _ h]

theorem modSensing {s t : State} (h : Evolves c s t) (l : Lane) (f : SensingLane → SensingLane)
    (hf : ∀ x, (f x).needs.check = x.needs.check) : Evolves c s (t.modSensing l f) :=
  h.others ⟨rfl, rfl, rfl, rfl, rfl, rfl, rfl, rfl, rfl, rfl, fun m => checkNeed_modSensing t l m f hf, id, fun _ _ => id⟩

theorem withTime {s t : State} (h : Evolves c s t) (a : Option Nat) (b : Timer) :
    Evolves c s { t with timeOfDay := a, minuteTimer := b } := h.others ⟨rfl, rfl, rfl, rfl, rfl, rfl, rfl, rfl, rfl, rfl, fun _ => rfl, id, fun _ _ => id⟩

theorem withRates {s t : State} (h : Evolves c s t) (a : List Band) : Evolves c s { t with rates := a } :=
  h.others ⟨rfl, rfl, rfl, rfl, rfl, rfl, rfl, rfl, rfl, rfl, fun _ => rfl, id, fun _ _ => id⟩

theorem withStaging {s t : State} (h : Evolves c s t) (a : Option Staging) (b : Timer) :
    Evolves c s { t with staging := a, gapTimer := b } := h.others ⟨rfl, rfl, rfl, rfl, rfl, rfl, rfl, rfl, rfl, rfl, fun _ => rfl, id, fun _ _ => id⟩

theorem withConfigured {s t : State} (h : Evolves c s t) : Evolves c s { t with configured := true } :=
  h.others ⟨rfl, rfl, rfl, rfl, rfl, rfl, rfl, rfl, rfl, rfl, fun _ => rfl, fun e => (nomatch e), fun _ _ => id⟩

theorem withHandicap {s t : State} (h : Evolves c s t) (p : HandicapParams) : Evolves c s { t with handicap := p } :=
  h.others ⟨rfl, rfl, rfl, rfl, rfl, rfl, rfl, rfl, rfl, rfl, fun _ => rfl, id, fun _ _ => id⟩

theorem withSensing {s t : State} (h : Evolves c s t) (p : PerLane SensingLane)
    (hp : ∀ l, (p.get l).needs.check = t.checkNeed l) : Evolves c s { t with sensing := p } :=
  h.others ⟨rfl, rfl, rfl, rfl, rfl, rfl, rfl, rfl, rfl, rfl, hp, id, fun _ _ => id⟩

theorem withOutbound {s t : State} (h : Evolves c s t) (p : PerSlot (Option Outbound)) : Evolves c s { t with outbound := p } :=
  h.others ⟨rfl, rfl, rfl, rfl, rfl, rfl, rfl, rfl, rfl, rfl, fun _ => rfl, id, fun _ _ => id⟩

theorem modPdu {s t : State} (h : Evolves c s t) (l : Lane) (f : Pdu → Pdu)
    (hf : c.rearms = true ∨ ∀ x, (f x).run = .armed → x.run = .armed) : Evolves c s (t.modPdu l f) :=
  h.others ⟨rfl, rfl, rfl, rfl, rfl, rfl, rfl, rfl, rfl, rfl, fun _ => rfl, id, fun hc m e => by
    by_cases hm : m = l
    · subst hm
      exact hf.resolve_left (by simp [hc]) _ (by simpa using e)
    · simpa [PerLane.get_set_of_ne _ hm] using e⟩

/-- What a chain from `s` may take for granted while the order of the pinsetters is kept. -/
abbrev Given (c : Scope) (s : State) (P : Prop) : Prop := c.disorder = true ∨ (ControlsOk s → P)

/-- The order of a lane's pinsetter in a state (`ControlOk`). -/
abbrev OrderAt (t : State) (l : Lane) : Prop := ControlOk t.configured (t.psc.get l) (t.ret.holds.get l) (t.checkNeed l)

/-- A chain may take the order of its last state for granted. -/
theorem given {s t : State} (h : Evolves c s t) (l : Lane) {P : Prop} (hp : OrderAt t l → P) : Given c s P := by
  cases hd : c.disorder with
  | true => exact .inl hd
  | false => exact .inr fun hs => hp (h.controls hd hs l)

/-- The same, with a fact that was granted before. -/
theorem given₂ {s t : State} (h : Evolves c s t) (l : Lane) {P Q : Prop} (hq : Given c s Q) (hp : OrderAt t l → Q → P) :
    Given c s P := by
  cases hd : c.disorder with
  | true => exact .inl hd
  | false => exact .inr fun hs => hp (h.controls hd hs l) (hq.resolve_left (by simp [hd]) hs)

/-- What is granted of a pinsetter, kept by what follows from it. -/
theorem Given.map {s : State} {P Q : Prop} (h : Given c s P) (f : P → Q) : Given c s Q := h.imp_right fun h hs => f (h hs)

/-- A change of one lane's pinsetter, with its hold and its check need. -/
theorem steer {s t u : State} (h : Evolves c s t) (l : Lane)
    (hu : { u with psc := t.psc, sensing := t.sensing, ret := { u.ret with holds := t.ret.holds } } = t)
    (hm : ∀ m, m ≠ l → u.psc.get m = t.psc.get m ∧ u.ret.holds.get m = t.ret.holds.get m ∧ u.checkNeed m = t.checkNeed m)
    (ho : Given c s (Steers c t u l)) : Evolves c s u := by
  refine .control h hu ?_
  cases hd : c.disorder with
  | true => exact .inl rfl
  | false =>
    refine .inr fun hs m => ?_
    by_cases e : m = l
    · subst e
      exact ho.resolve_left (by simp [hd]) hs
    · have ht := h.controls hd hs m
      obtain ⟨h1, h2, h3⟩ := hm m e
      refine ⟨?_, .inr (.inr ⟨h1, h3⟩), ?_⟩
      · rw [h1, h2, h3]
        exact { ht with off := fun e => ht.off ((congrArg State.configured hu).symm.trans e) }
      · rw [h1]
        cases (t.psc.get m).state <;> simp

/-- A pinsetter `q`, with a hold and a check need, that a lane may take next. -/
structure Drives (c : Scope) (t : State) (l : Lane) (q : Pinsetter) (hold : Bool) (check : Option Pins) : Prop where
  order  : ControlOk t.configured q hold check
  checks : c.checks = true ∨ (t.psc.get l).state ≠ .checking ∨ q = t.psc.get l ∧ check = t.checkNeed l
  rearms : c.rearms = true ∨ (t.psc.get l).state ≠ .ready ∨ q.state = .ready

theorem modPsc {s t : State} (h : Evolves c s t) (l : Lane) (f : Pinsetter → Pinsetter)
    (ho : Given c s (Drives c t l (f (t.psc.get l)) (t.ret.holds.get l) (t.checkNeed l))) : Evolves c s (t.modPsc l f) := by
  refine h.steer l rfl (fun m hm => ⟨by simp [PerLane.get_set_of_ne _ hm], rfl, rfl⟩) (ho.map fun d => ⟨?_, ?_, ?_⟩)
  · simpa [State.checkNeed] using d.order
  · simpa [State.checkNeed] using d.checks
  · simpa using d.rearms

/-! ### The order of a pinsetter -/

/-- A machine without a step and a hold is in order, but for an unconfigured pair's and for a check need. -/
theorem still {b : Bool} {q : Pinsetter} {hold : Bool} {check : Option Pins} (hs : q.step = none) (hh : q.pitHold = false)
    (ht : hold = false) (ho : b = false → q.state = .off) (hc : check ≠ none → q.state = .checking) :
    ControlOk b q hold check :=
  ⟨ho, ht.trans hh.symm, fun e => absurd e (by simp [hh]), fun e => absurd hs e, hc⟩

/-- In a state that executes and holds no step, none executes, and no hold is on. -/
theorem rests {b : Bool} {p : Pinsetter} {hold : Bool} {check : Option Pins} (o : ControlOk b p hold check)
    (h : p.state ≠ .cycling ∧ p.state ≠ .heldPit ∧ p.state ≠ .service) : p.step = none ∧ p.pitHold = false ∧ hold = false := by
  have hh : p.pitHold = false := by
    by_contra e
    rcases (o.held (by simpa using e)).2.2 with e | e
    · exact h.2.1 e
    · exact h.2.2 e.1
  refine ⟨?_, hh, o.told.trans hh⟩
  by_contra e
  rcases o.steps e with e | e
  · exact h.1 e
  · exact h.2.2 e

/-- While a step executes, no hold is on. -/
theorem unheld {b : Bool} {p : Pinsetter} {hold : Bool} {check : Option Pins} (o : ControlOk b p hold check)
    (h : p.step ≠ none) : p.pitHold = false := by
  by_contra e
  exact h (o.held (by simpa using e)).1

/-- A machine in SERVICE with no recipe in hand holds no SWEEP. -/
theorem unheldTest {b : Bool} {p : Pinsetter} {hold : Bool} {check : Option Pins} (o : ControlOk b p hold check)
    (hs : p.state = .service) (h : p.recipe = none) : p.pitHold = false := by
  by_contra e
  rcases (o.held (by simpa using e)).2.2 with e | e
  · simp [hs] at e
  · exact e.2 h

/-- A machine out of CHECKING has no check need. -/
theorem unchecked {b : Bool} {p : Pinsetter} {hold : Bool} {check : Option Pins} (o : ControlOk b p hold check)
    (h : p.state ≠ .checking) : check = none := by
  by_contra e
  exact h (o.checks e)

theorem modReturn {s t : State} (h : Evolves c s t) (f : BallReturn → BallReturn)
    (hf : ReturnStep t.settings.rackCapacity t.ret (f t.ret)) (hh : (f t.ret).holds = t.ret.holds)
    (hs : c.returns = true ∨ (f t.ret).state = t.ret.state) : Evolves c s (t.modReturn f) := h.trans (.ret t f hf hh hs)

/-- A change of the return that moves no ball: it rewrites nothing but the state, its cause and the carry timer. -/
theorem quietReturn {s t : State} (h : Evolves c s t) (f : BallReturn → BallReturn)
    (hf : ∀ r, f r = { r with state := (f r).state, cause := (f r).cause, carryTimer := (f r).carryTimer })
    (ht : c.returns = true ∨ ∀ r, (f r).state = r.state) : Evolves c s (t.modReturn f) := by
  have e := hf t.ret
  refine h.modReturn f (.quiet _ _ ?_ ?_ ?_ ?_ ?_ ?_) ?_ (ht.imp_right fun ht => ht _) <;> rw [e]

theorem modGroup {s t : State} (h : Evolves c s t) (g : Slot) (f : Group → Group) : Evolves c s (t.modGroup g f) :=
  h.trans (.other ⟨rfl, rfl, rfl, rfl, rfl, rfl, rfl, rfl, rfl, rfl, fun _ => rfl, id, fun _ _ => id⟩)

theorem modLane {s t : State} (h : Evolves c s t) (l : Lane) (f : LaneRecord → LaneRecord) : Evolves c s (t.modLane l f) :=
  h.trans (.other ⟨rfl, rfl, rfl, rfl, rfl, rfl, rfl, rfl, rfl, rfl, fun _ => rfl, id, fun _ _ => id⟩)

theorem modSession {s t : State} (h : Evolves c s t) (l : Lane) (f : Session → Session)
    (hf : ∀ x, MeterStep x.meter (f x).meter) (hp : ∀ x, PauseStep x (f x)) : Evolves c s (t.modSession l f) :=
  h.trans (.session t l f (hf _) (hp _))

theorem modFeed {s t : State} (h : Evolves c s t) (l : Lane) (f : Feed → Feed) (hf : ∀ x, FeedStep x (f x)) :
    Evolves c s (t.modFeed l f) := h.trans (.feed t l f (hf _))

theorem modHead {s t : State} (h : Evolves c s t) (f : Head → Head) : Evolves c s (t.modHead f) :=
  h.trans (.other ⟨rfl, rfl, rfl, rfl, rfl, rfl, rfl, rfl, rfl, rfl, fun _ => rfl, id, fun _ _ => id⟩)

theorem setLine {s t : State} (h : Evolves c s t) (i : LineId) (o : Option Line) (ho : LineMove (t.line i) o) :
    Evolves c s (t.setLine i o) :=
  h.trans (.lines t _ fun j => by
    change LineMove (t.line j) ((t.lines.set i.val o i.isLt)[j.val])
    rw [Vector.getElem_set]
    split
    · rename_i e
      have e : j = i := Fin.ext e.symm
      exact e ▸ ho
    · exact .same _)

theorem tell {s t : State} (h : Evolves c s t) (k : Link) (n : Notice) : Evolves c s (t.tell k n) := h.trans (.offer t k n)

theorem tellMasked {s t : State} (h : Evolves c s t) (k : Link) (n : Notice) : Evolves c s (t.tellMasked k n) := by
  by_cases hm : ((t.ports.get k).admitsClass n.cls) = true
  · have e : t.tellMasked k n = t.tell k n := by simp [State.tellMasked, State.tell, State.modPort, hm]
    exact e ▸ h.tell k n
  · have e : t.tellMasked k n = t := by simp [State.tellMasked, State.modPort, hm]
    exact e.symm ▸ h

theorem broadcast {s t : State} (h : Evolves c s t) (n : Notice) : Evolves c s (t.broadcast n) := by
  unfold State.broadcast
  repeat' with_reducible (first | exact h | apply tellMasked)

theorem tellDeskConsole {s t : State} (h : Evolves c s t) (n : Notice) : Evolves c s (t.tellDeskConsole n) := by
  unfold State.tellDeskConsole
  repeat' with_reducible (first | exact h | apply tell)

theorem markFeed {s t : State} (h : Evolves c s t) (l : Lane) (a b : Bool) : Evolves c s (t.markFeed l a b) :=
  h.modFeed l _ fun x => .mark x _ a b

theorem markFeeds {s t : State} (h : Evolves c s t) (lower upper : Bool) : Evolves c s (t.markFeeds lower upper) := by
  unfold State.markFeeds
  repeat' with_reducible (first | exact h | apply markFeed)

theorem markShowing {s t : State} (h : Evolves c s t) (before : State) (g : Slot) : Evolves c s (t.markShowing before g) := by
  unfold State.markShowing
  repeat' with_reducible (first | exact h | apply markFeed)

theorem length_positionRows (f : Feed) (o : Option Line) (p : Nat) : (positionRows f o p).length = 3 := by
  cases o <;> rfl

theorem length_composeLower (t : State) (l : Lane) (f : Feed) : (t.composeLower l f).length = 32 := by
  simp [State.composeLower, planPositions, length_positionRows]

theorem length_composeUpper (t : State) (l : Lane) (f : Feed) : (t.composeUpper l f).length = 32 := by
  have hm : (t.meterRows l).length = 4 := by
    simp only [State.meterRows]
    split <;> rfl
  simp [State.composeUpper, planPositions, hm]

theorem feedLoads {s t : State} (h : Evolves c s t) : Evolves c s t.feedLoads := by
  have hl := (h.modFeed .left (fun x => x.load (t.composeLower .left (t.feeds.get .left)) (t.composeUpper .left (t.feeds.get .left)))
    fun x => .load x _ _ (length_composeLower _ _ _) (length_composeUpper _ _ _))
  exact hl.modFeed .right (fun x => x.load (t.composeLower .right (t.feeds.get .right)) (t.composeUpper .right (t.feeds.get .right)))
    fun x => .load x _ _ (length_composeLower _ _ _) (length_composeUpper _ _ _)

theorem bannerEval {s t : State} (h : Evolves c s t) (l : Lane) : Evolves c s (t.bannerEval l) := by
  by_cases hc : t.configured = true
  · have e : t.bannerEval l = t.modFeed l fun f => f.onBanner (t.bannerOf l) (t.laneNumber l) := by
      simp [State.bannerEval, hc]
    exact e ▸ h.modFeed l _ fun x => .banner x _ _
  · have e : t.bannerEval l = t := by
      simp only [State.bannerEval, State.modFeed, if_neg hc, PerLane.set_get]
    exact e.symm ▸ h

theorem bannersEval {s t : State} (h : Evolves c s t) : Evolves c s (t.bannersEval) := by
  unfold State.bannersEval
  repeat' with_reducible (first | exact h | apply bannerEval)

theorem showBall {s t : State} (h : Evolves c s t) (l : Lane) (b : Option BallRecord) : Evolves c s (t.showBall l b) :=
  (h.modFeed l _ fun x => .lastBall x b).markFeed l true false

theorem setOneShot {s t : State} (h : Evolves c s t) (l : Lane) (p : Nat) : Evolves c s (t.setOneShot l p) :=
  h.modFeed l _ fun x => .oneShot x p

theorem dropHighlights {s t : State} (h : Evolves c s t) (l : Lane) : Evolves c s (t.dropHighlights l) :=
  h.modFeed l _ fun x => .highlights x _

theorem refreshTotals {s t : State} (h : Evolves c s t) (g : Slot) : Evolves c s (t.refreshTotals g) := by
  unfold State.refreshTotals
  try dsimp only [accept, refuse]
  repeat' with_reducible (first | exact h | apply modGroup)

theorem touch {s t : State} (h : Evolves c s t) (i : LineId) : Evolves c s (t.touch i) :=
  h.trans (.other ⟨rfl, rfl, rfl, rfl, rfl, rfl, rfl, rfl, rfl, rfl, fun _ => rfl, id, fun _ _ => id⟩)

/-- What a change of a line's contents leaves alone: its copies and its claim. -/
def KeepsClaim (f : Line → Line) : Prop := ∀ l, (f l).copies = l.copies ∧ (f l).claimTimer = l.claimTimer

theorem changeLine {s t : State} (h : Evolves c s t) (i : LineId) (f : Line → Line) (hf : KeepsClaim f) :
    Evolves c s (t.changeLine i f) := by
  unfold State.changeLine
  split
  · rename_i l hl
    refine touch (refreshTotals (h.setLine i _ ?_) _) _
    rw [hl]
    exact .step _ _ (.contents _ _ (hf l).1 (hf l).2)
  · exact h

theorem tellHolder {s t : State} (h : Evolves c s t) (k : Link) (b : CopyState) (n : Notice) : Evolves c s (t.tellHolder k b n) := by
  unfold State.tellHolder
  repeat' with_reducible (first | exact h | apply tell | split)

theorem flushLine {s t : State} (h : Evolves c s t) (x : Exempt) (i : LineId) : Evolves c s (State.flushLine x t i) := by
  unfold State.flushLine
  split
  · split
    · rename_i l hl
      have h0 := h.setLine i (some { l with
        version := wrapInc l.version
        copies := ⟨copyAfter (exempts x .desk i) l.copies.desk, copyAfter (exempts x .service i) l.copies.service,
          copyAfter (exempts x .console i) l.copies.console⟩ }) (by rw [hl]; exact .step _ _ (.changed _ _ _ _ _))
      dsimp only
      repeat' with_reducible (first | exact h0 | apply markShowing | apply tellHolder | split)
    · exact h
  · exact h

theorem flushLines {s t : State} (h : Evolves c s t) (x : Exempt) : Evolves c s (State.flushLines x t) :=
  (h.trans (foldl (fun u i => (Evolves.refl u).flushLine x i) lineIds t)).others
    ⟨rfl, rfl, rfl, rfl, rfl, rfl, rfl, rfl, rfl, rfl, fun _ => rfl, id, fun _ _ => id⟩

theorem namedLine_some {t : State} {n : Nat} {i : LineId} {l : Line} (h : t.namedLine n = some (i, l)) :
    t.line i = some l := by
  unfold State.namedLine at h
  split at h
  · rename_i j _
    cases hj : t.line j with
    | none => simp [hj] at h
    | some m =>
      simp only [hj, Option.map_some, Option.some.injEq, Prod.mk.injEq] at h
      rw [← h.1, ← h.2, hj]
  · cases h

theorem handleReadLine {s t : State} (h : Evolves c s t) (k : Link) (line : Nat) : Evolves c s (handleReadLine k line t).1 := by
  unfold Machine.handleReadLine
  split
  · exact h
  · rename_i i l hl
    exact h.setLine i _ (by rw [namedLine_some hl]; exact .step _ _ (.read l k))

theorem handleClaimLine {s t : State} (h : Evolves c s t) (k : Link) (line : Nat) : Evolves c s (handleClaimLine k line t).1 := by
  unfold Machine.handleClaimLine
  split
  · exact h
  · rename_i i l hl
    have hl := namedLine_some hl
    dsimp only
    split
    · exact h
    · split
      · rename_i hc
        exact h.setLine i _ (by rw [hl]; exact .step _ _ (.grant l k _ (by simpa using hc)))
      · split
        · split
          · rename_i j hj
            exact (h.setLine i _ (by rw [hl]; exact .step _ _ (.preempt l j k _ hj))).tell _ _
          · exact h
        · exact h

theorem handleReleaseLine {s t : State} (h : Evolves c s t) (k : Link) (line : Nat) :
    Evolves c s (handleReleaseLine k line t).1 := by
  unfold Machine.handleReleaseLine
  split
  · exact h
  · rename_i i l hl
    try dsimp only [accept, refuse]
    split
    · exact h.setLine i _ (by rw [namedLine_some hl]; exact .step _ _ (.unclaim l))
    · exact h

theorem claimExpires {s t : State} (h : Evolves c s t) (i : LineId) : Evolves c s (t.claimExpires i) := by
  unfold State.claimExpires
  split
  · exact h
  · rename_i l hl
    have h0 := h.setLine i (some l.unclaim) (by rw [hl]; exact .step _ _ (.unclaim l))
    dsimp only
    repeat' with_reducible (first | exact h | exact h0 | apply tell | split)

theorem revokeClaim {s t : State} (h : Evolves c s t) (i : LineId) : Evolves c s (t.revokeClaim i) := by
  unfold State.revokeClaim
  split
  · exact h
  · rename_i l hl
    split
    · exact (h.setLine i (some l.unclaim) (by rw [hl]; exact .step _ _ (.unclaim l))).tell _ _
    · exact h

theorem forgetLink {s t : State} (h : Evolves c s t) (k : Link) : Evolves c s (t.forgetLink k) :=
  h.trans (.lines t _ fun i => by
    have e : (t.lines.map fun l => l.map fun l => l.forgetLink k).get i = (t.line i).map fun l => l.forgetLink k := by
      simp [State.line, Vector.get]
    rw [e]
    cases t.line i with
    | none => exact .same _
    | some l => exact .step _ _ (.forget l k))

theorem markCorrection {s t : State} (h : Evolves c s t) (i : LineId) : Evolves c s (t.markCorrection i) := by
  unfold State.markCorrection
  repeat' with_reducible (first | exact h | apply markFeed | split)

theorem voidCorrections {s t : State} (h : Evolves c s t) (gone : Correction → Bool) (home : Lane) :
    Evolves c s (t.voidCorrections gone home) := by
  unfold State.voidCorrections
  dsimp only
  have h0 : Evolves c s ((t.corrections.filter gone).foldl (fun u e => u.tellDeskConsole (.correctionVoid e))
      { t with corrections := t.corrections.filter fun e => !gone e }) :=
    (h.trans (.fewer t _)).trans (foldl (fun u e => (Evolves.refl u).tellDeskConsole _) _ _)
  split
  · exact h0
  · exact h0.markFeed _ _ _

theorem applyCorrection {s t : State} (h : Evolves c s t) (k : Link) (e : Correction) : Evolves c s (t.applyCorrection k e) := by
  unfold State.applyCorrection
  refine flushLines (changeLine h _ _ ?_) _
  exact fun _ => ⟨rfl, rfl⟩

theorem queueNew {s t : State} (h : Evolves c s t) (e : Correction) : Evolves c s (t.queueNew e).1 := by
  unfold State.queueNew
  split
  · rename_i hl
    exact ((h.trans (.append t { e with id := freeEntry t.corrections 8 t.nextEntry } hl rfl)).tell _ _).markCorrection _
  · exact h

theorem queueCorrection {s t : State} (h : Evolves c s t) (e : Correction) : Evolves c s (t.queueCorrection e).1 := by
  unfold State.queueCorrection
  split
  · refine ((h.trans (.overwrite t (fun o => if sameBall o e then o.overwrite e else o) fun o _ => ?_)).tell _ _).markCorrection _
    split <;> rfl
  · exact h.queueNew e

theorem handleCorrectBall {s t : State} (h : Evolves c s t) (k : Link) (line game frame ball count : Nat) (foul : Bool) (base : Nat) : Evolves c s (handleCorrectBall k line game frame ball count foul base t).1 := by
  unfold Machine.handleCorrectBall
  try dsimp only [accept, refuse]
  repeat' with_reducible (first | exact h | apply applyCorrection | apply queueCorrection | split)

theorem dropEntry {s t : State} (h : Evolves c s t) (id : Nat) : Evolves c s (t.dropEntry id) := h.trans (.fewer t _)

theorem handleApprove {s t : State} (h : Evolves c s t) (id : Nat) : Evolves c s (handleApprove id t).1 := by
  unfold Machine.handleApprove
  try dsimp only [accept, refuse]
  repeat' with_reducible (first | exact h | apply tellDeskConsole | apply markCorrection | apply applyCorrection | apply dropEntry | split)

theorem handleDeny {s t : State} (h : Evolves c s t) (id : Nat) : Evolves c s (handleDeny id t).1 := by
  unfold Machine.handleDeny
  try dsimp only [accept, refuse]
  repeat' with_reducible (first | exact h | apply tellDeskConsole | apply markCorrection | apply dropEntry | split)

theorem removeLine {s t : State} (h : Evolves c s t) (home : Lane) (i : LineId) : Evolves c s (t.removeLine home i) := by
  unfold State.removeLine
  split
  · exact h
  · exact ((((h.tellHolder _ _ _).tellHolder _ _ _).tellHolder _ _ _).voidCorrections _ _).setLine i none (.gone _)

theorem handleSetHandicap {s t : State} (h : Evolves c s t) (basis percent cap noAverage : Nat) :
    Evolves c s (handleSetHandicap basis percent cap noAverage t).1 := by
  unfold Machine.handleSetHandicap
  try dsimp only [accept, refuse]
  split
  · exact h
  · split
    · exact h
    · have h0 := fun (u : State) (i : LineId) => (Evolves.refl (c := c) u).changeLine i id fun _ => ⟨rfl, rfl⟩
      have h1 := h.withHandicap { basis := basis, percent := percent, cap := cap, noAverage := noAverage }
      dsimp only
      exact h1.trans (foldl h0 lineIds _)

theorem enterSession {s t : State} (h : Evolves c s t) (l : Lane) (state : SessionState) (pausedFrom : Option SessionState)
    (hp : PauseStep (t.sessions.get l) { t.sessions.get l with state := state, pausedFrom := pausedFrom }) :
    Evolves c s (t.enterSession l state pausedFrom) := by
  unfold State.enterSession
  dsimp only
  exact (((h.trans (.session t l _ (.same _) hp)).broadcast _).markFeed _ _ _).bannerEval _

/-- A session enters a state other than PAUSED. -/
theorem leavePause {s t : State} (h : Evolves c s t) (l : Lane) (state : SessionState) (hs : state ≠ .paused := by decide) :
    Evolves c s (t.enterSession l state none) := h.enterSession l state none (.plain _ _ hs rfl)

theorem pauseEval {s t : State} (h : Evolves c s t) (l : Lane) : Evolves c s (t.pauseEval l) := by
  unfold State.pauseEval
  dsimp only
  split
  · exact ite (fun _ => h.enterSession _ _ _ (.paused _ _ rfl (.inl rfl))) fun _ => h
  · exact ite (fun _ => h.enterSession _ _ _ (.paused _ _ rfl (.inr rfl))) fun _ => h
  · rename_i hx
    exact ite (fun _ => h) fun _ => h.enterSession _ _ _ (.resumed _ _ hx rfl rfl)
  all_goals exact h

theorem pauseEvals {s t : State} (h : Evolves c s t) : Evolves c s (t.pauseEvals) := by
  unfold State.pauseEvals
  repeat' with_reducible (first | exact h | apply pauseEval)

theorem markMeter {s t : State} (h : Evolves c s t) (l : Lane) : Evolves c s (t.markMeter l) := by
  unfold State.markMeter
  repeat' with_reducible (first | exact h | apply markFeed)

theorem addCents {s t : State} (h : Evolves c s t) (l : Lane) (n : Nat) : Evolves c s (t.addCents l n) := by
  unfold State.addCents
  try dsimp only [accept, refuse]
  repeat' with_reducible (first | exact h | apply modSession | apply tell | apply markMeter | exact .same _ | exact .add _ _ | exact .games _ _ | exact .minutes _ _ | exact .fraction _ _ | exact .settled _ | exact .zero _ | exact .kept _ _ rfl rfl | intro _ | split)

theorem charge {s t : State} (h : Evolves c s t) (l : Lane) (n : Nat) : Evolves c s (t.charge l n) := by
  unfold State.charge
  try dsimp only [accept, refuse]
  repeat' with_reducible (first | exact h | apply leavePause | decide | apply addCents | split)

theorem countGames {s t : State} (h : Evolves c s t) (l : Lane) (n : Nat) : Evolves c s (t.countGames l n) := by
  unfold State.countGames
  repeat' with_reducible (first | exact h | apply modSession | apply markMeter | exact .same _ | exact .add _ _ | exact .games _ _ | exact .minutes _ _ | exact .fraction _ _ | exact .settled _ | exact .zero _ | exact .kept _ _ rfl rfl | intro _)

theorem permitGame {s t : State} (h : Evolves c s t) (l : Lane) (n : Nat) : Evolves c s (t.permitGame l n).1 := by
  unfold State.permitGame
  try dsimp only [accept, refuse]
  repeat' with_reducible (first | exact h | apply modSession | apply leavePause | decide | apply charge | apply countGames | exact .same _ | exact .add _ _ | exact .games _ _ | exact .minutes _ _ | exact .fraction _ _ | exact .settled _ | exact .zero _ | exact .kept _ _ rfl rfl | intro _ | split)

theorem minutesSpent {s t : State} (h : Evolves c s t) (l : Lane) : Evolves c s (t.minutesSpent l) := by
  unfold State.minutesSpent
  try dsimp only [accept, refuse]
  repeat' with_reducible (first | exact h | apply modSession | apply leavePause | decide | apply pauseEval | exact .same _ | exact .add _ _ | exact .games _ _ | exact .minutes _ _ | exact .fraction _ _ | exact .settled _ | exact .zero _ | exact .kept _ _ rfl rfl | intro _ | split)

theorem spendMinute {s t : State} (h : Evolves c s t) (l : Lane) : Evolves c s (t.spendMinute l) := by
  unfold State.spendMinute
  try dsimp only [accept, refuse]
  repeat' with_reducible (first | exact h | apply modSession | apply markMeter | apply minutesSpent | exact .same _ | exact .add _ _ | exact .games _ _ | exact .minutes _ _ | exact .fraction _ _ | exact .settled _ | exact .zero _ | exact .kept _ _ rfl rfl | intro _ | split)

theorem chargeMinute {s t : State} (h : Evolves c s t) (l : Lane) (minute : Nat) : Evolves c s (t.chargeMinute l minute) := by
  unfold State.chargeMinute
  try dsimp only [accept, refuse]
  repeat' with_reducible (first | exact h | apply modSession | apply charge | exact .same _ | exact .add _ _ | exact .games _ _ | exact .minutes _ _ | exact .fraction _ _ | exact .settled _ | exact .zero _ | exact .kept _ _ rfl rfl | intro _)

theorem meterTick {s t : State} (h : Evolves c s t) (l : Lane) (minute : Nat) : Evolves c s (t.meterTick l minute) := by
  unfold State.meterTick
  try dsimp only [accept, refuse]
  repeat' with_reducible (first | exact h | apply modSession | apply markMeter | apply spendMinute | apply chargeMinute | exact .same _ | exact .add _ _ | exact .games _ _ | exact .minutes _ _ | exact .fraction _ _ | exact .settled _ | exact .zero _ | exact .kept _ _ rfl rfl | intro _ | split)

theorem tick {s t : State} (h : Evolves c s t) : Evolves c s (t.tick) := by
  unfold State.tick
  try dsimp only [accept, refuse]
  repeat' with_reducible (first | exact h | apply markFeeds | apply meterTick | split | apply withTime)

theorem closeSession {s t : State} (h : Evolves c s t) (l : Lane) : Evolves c s (t.closeSession l) := by
  unfold State.closeSession
  try dsimp only [accept, refuse]
  repeat' with_reducible (first | exact h | apply modSession | apply tell | apply leavePause | decide | apply markMeter | apply addCents | exact .same _ | exact .add _ _ | exact .games _ _ | exact .minutes _ _ | exact .fraction _ _ | exact .settled _ | exact .zero _ | exact .kept _ _ rfl rfl | intro _ | split)

theorem sessionFollows {s t : State} (h : Evolves c s t) (l : Lane) : Evolves c s (t.sessionFollows l) := by
  unfold State.sessionFollows
  try dsimp only [accept, refuse]
  repeat' with_reducible (first | exact h | apply leavePause | decide | apply closeSession | split)

theorem sessionsFollow {s t : State} (h : Evolves c s t) : Evolves c s (t.sessionsFollow) := by
  unfold State.sessionsFollow
  repeat' with_reducible (first | exact h | apply sessionFollows)

theorem handleSetTime {s t : State} (h : Evolves c s t) (minute : Nat) : Evolves c s (handleSetTime minute t).1 := by
  unfold Machine.handleSetTime
  try dsimp only [accept, refuse]
  repeat' with_reducible (first | exact h | apply markFeeds | split | apply withTime)

theorem handleSetRates {s t : State} (h : Evolves c s t) (bands : List Band) : Evolves c s (handleSetRates bands t).1 := by
  unfold Machine.handleSetRates
  try dsimp only [accept, refuse]
  repeat' with_reducible (first | exact h | apply markFeed | split | apply withRates)

theorem handleSetSessionFlags {s t : State} (h : Evolves c s t) (lane : Nat) (league autoNext foulDetect meterDisplay : Bool) (overflow : Nat) : Evolves c s (handleSetSessionFlags lane league autoNext foulDetect meterDisplay overflow t).1 := by
  unfold Machine.handleSetSessionFlags
  try dsimp only [accept, refuse]
  repeat' with_reducible (first | exact h | apply modSession | apply broadcast | apply markFeed | exact .same _ | exact .add _ _ | exact .games _ _ | exact .minutes _ _ | exact .fraction _ _ | exact .settled _ | exact .zero _ | exact .kept _ _ rfl rfl | intro _ | split)

/-- A dropped run leaves no PDU ARMED, and nor does a finished one. -/
theorem dropped_idle : c.rearms = true ∨ ∀ x : Pdu, x.dropped.run = .armed → x.run = .armed := .inr fun _ e => nomatch e

theorem finished_final : c.rearms = true ∨ ∀ x : Pdu, x.finished.run = .armed → x.run = .armed := .inr fun _ e => nomatch e

theorem dropRunNeed {s t : State} (h : Evolves c s t) (l : Lane) : Evolves c s (t.dropRunNeed l) := by
  unfold State.dropRunNeed
  repeat' with_reducible (first | exact h | exact fun _ => rfl | apply modSensing)

theorem withdrawCheck {s t : State} (h : Evolves c s t) (hc : c.checks = true) (l : Lane) : Evolves c s (t.withdrawCheck l) := by
  refine h.steer l rfl (fun m hm => ⟨rfl, rfl, by simp [State.withdrawCheck, State.checkNeed, PerLane.get_set_of_ne _ hm]⟩)
    (h.given l fun o => ⟨?_, .inl hc, ?_⟩)
  · have e : (t.withdrawCheck l).checkNeed l = none := by simp [State.withdrawCheck, State.checkNeed]
    exact { o with checks := fun hn => absurd e hn }
  · cases hr : (t.psc.get l).state <;> simp [State.withdrawCheck, hr]

theorem endContinuous {s t : State} (h : Evolves c s t) (l : Lane) : Evolves c s (t.endContinuous l) := by
  unfold State.endContinuous
  repeat' with_reducible (first | exact h | exact fun _ => rfl | apply modSensing)

theorem leaveService {s t : State} (h : Evolves c s t) (l : Lane) : Evolves c s (t.leaveService l) := by
  unfold State.leaveService
  try dsimp only [accept, refuse]
  repeat' with_reducible (first | exact h | exact fun _ => rfl | with_unfolding_all exact .inr fun _ e => e | (refine .inr fun _ e => ?_; cases e; done) | exact dropped_idle | exact finished_final | apply modSensing | apply modPdu | apply dropRunNeed | apply endContinuous | split)

theorem opens {s t : State} (h : Evolves c s t) (l : Lane) : Evolves c s (t.opens l) := by
  unfold State.opens
  repeat' with_reducible (first | exact h | apply leavePause | decide | apply pauseEval | split)

theorem machineChanged {s t : State} (h : Evolves c s t) (l : Lane) (before : MachineState) (classes : Option (List PointClass)) :
    Evolves c s (t.machineChanged l before classes) := by
  unfold State.machineChanged
  dsimp only
  repeat' with_reducible (first | exact h | apply bannerEval | apply pauseEval | apply opens | apply leaveService | apply markFeed | apply broadcast | split)

/-! ### What a change of machine state leaves alone -/

/-- The pinsetters, the check needs and the configured state are the same. -/
def KeepsControl (s t : State) : Prop := t.psc = s.psc ∧ (∀ l, t.checkNeed l = s.checkNeed l) ∧ t.configured = s.configured

theorem same (s : State) : KeepsControl s s := ⟨rfl, fun _ => rfl, rfl⟩

theorem KeepsControl.next {s t u : State} (h : KeepsControl s t) (hp : u.psc = t.psc) (hn : u.sensing = t.sensing)
    (hg : u.configured = t.configured) : KeepsControl s u :=
  ⟨hp.trans h.1, fun l => by rw [← h.2.1 l, State.checkNeed, hn, State.checkNeed], hg.trans h.2.2⟩

theorem KeepsControl.enterSession {s t : State} (h : KeepsControl s t) (l : Lane) (x : SessionState) (p : Option SessionState) :
    KeepsControl s (t.enterSession l x p) :=
  h.next (by simp [State.enterSession, State.bannerEval]) (by simp [State.enterSession, State.bannerEval])
    (by simp [State.enterSession, State.bannerEval])

theorem KeepsControl.pauseEval {s t : State} (h : KeepsControl s t) (l : Lane) : KeepsControl s (t.pauseEval l) := by
  unfold State.pauseEval
  dsimp only
  repeat' with_reducible (first | exact h | apply KeepsControl.enterSession | split)

theorem KeepsControl.opens {s t : State} (h : KeepsControl s t) (l : Lane) : KeepsControl s (t.opens l) := by
  unfold State.opens
  repeat' with_reducible (first | exact h | apply KeepsControl.pauseEval | apply KeepsControl.enterSession | split)

theorem KeepsControl.modSensing {s t : State} (h : KeepsControl s t) (l : Lane) (f : SensingLane → SensingLane)
    (hf : ∀ x, (f x).needs.check = x.needs.check) : KeepsControl s (t.modSensing l f) :=
  ⟨h.1, fun m => (checkNeed_modSensing t l m f hf).trans (h.2.1 m), h.2.2⟩

theorem KeepsControl.modPdu {s t : State} (h : KeepsControl s t) (l : Lane) (f : Pdu → Pdu) : KeepsControl s (t.modPdu l f) :=
  h.next rfl rfl rfl

theorem KeepsControl.dropRunNeed {s t : State} (h : KeepsControl s t) (l : Lane) : KeepsControl s (t.dropRunNeed l) :=
  h.modSensing l _ fun _ => rfl

theorem KeepsControl.leaveService {s t : State} (h : KeepsControl s t) (l : Lane) : KeepsControl s (t.leaveService l) := by
  unfold State.leaveService State.endContinuous
  dsimp only
  repeat' with_reducible (first | exact h | exact fun _ => rfl | apply KeepsControl.modSensing | apply KeepsControl.modPdu | apply KeepsControl.dropRunNeed | split)

theorem KeepsControl.markFeed {s t : State} (h : KeepsControl s t) (l : Lane) (a b : Bool) : KeepsControl s (t.markFeed l a b) :=
  h.next (by simp) (by simp) (by simp)

theorem KeepsControl.broadcast {s t : State} (h : KeepsControl s t) (n : Notice) : KeepsControl s (t.broadcast n) :=
  h.next (by simp) (by simp) (by simp)

theorem KeepsControl.bannerEval {s t : State} (h : KeepsControl s t) (l : Lane) : KeepsControl s (t.bannerEval l) :=
  h.next (by simp [State.bannerEval]) (by simp [State.bannerEval]) (by simp [State.bannerEval])

theorem KeepsControl.machineChanged {s t : State} (h : KeepsControl s t) (l : Lane) (b : MachineState)
    (k : Option (List PointClass)) : KeepsControl s (t.machineChanged l b k) := by
  unfold State.machineChanged
  dsimp only
  refine (KeepsControl.bannerEval · l) (KeepsControl.pauseEval (KeepsControl.opens ?_ l) l)
  repeat' with_reducible (first | exact h | apply KeepsControl.leaveService | apply KeepsControl.markFeed | apply KeepsControl.broadcast | split)

/-- A machine that enters a state: its own register, and no other part of the control. -/
theorem setMachine_control (t : State) (l : Lane) (state : MachineState) (cause : Option FaultCause)
    (classes : Option (List PointClass)) :
    KeepsControl (t.modPsc l fun p => p.enter state cause) (t.setMachine l state cause classes) := by
  unfold State.setMachine
  dsimp only
  split
  · exact same _
  · exact (same _).machineChanged _ _ _

theorem setMachine_psc (t : State) (l m : Lane) (state : MachineState) (cause : Option FaultCause)
    (classes : Option (List PointClass)) : (t.setMachine l state cause classes).psc.get m
      = if m = l then (t.psc.get l).enter state cause else t.psc.get m := by
  rw [(setMachine_control t l state cause classes).1]
  split
  · rename_i e
    subst e
    simp
  · rename_i e
    simp [PerLane.get_set_of_ne _ e]

theorem setMachine_checkNeed (t : State) (l m : Lane) (state : MachineState) (cause : Option FaultCause)
    (classes : Option (List PointClass)) : (t.setMachine l state cause classes).checkNeed m = t.checkNeed m :=
  (setMachine_control t l state cause classes).2.1 m

/-! ### The pinsetter -/

theorem setMachine {s t : State} (h : Evolves c s t) (l : Lane) (state : MachineState) (cause : Option FaultCause)
    (classes : Option (List PointClass))
    (ho : Given c s (Drives c t l ((t.psc.get l).enter state cause) (t.ret.holds.get l) (t.checkNeed l))) :
    Evolves c s (t.setMachine l state cause classes) := by
  have h0 := h.modPsc l (fun p => p.enter state cause) ho
  unfold State.setMachine
  exact ite (fun _ => h0) fun _ => h0.machineChanged _ _ _

/-- The same, after another change of the pinsetter in the same step. -/
theorem enters {s t : State} (h : Evolves c s t) (l : Lane) (f : Pinsetter → Pinsetter) (state : MachineState)
    (cause : Option FaultCause) (classes : Option (List PointClass))
    (ho : Given c s (Drives c t l ((f (t.psc.get l)).enter state cause) (t.ret.holds.get l) (t.checkNeed l))) :
    Evolves c s ((t.modPsc l f).setMachine l state cause classes) := by
  have h0 := h.modPsc l (fun p => (f p).enter state cause) ho
  have e : (t.modPsc l f).modPsc l (fun p => p.enter state cause) = t.modPsc l fun p => (f p).enter state cause := by
    simp [State.modPsc]
  unfold State.setMachine
  dsimp only
  rw [e]
  exact ite (fun _ => h0) fun _ => h0.machineChanged _ _ _

theorem startMachine {s t : State} (h : Evolves c s t) (l : Lane) : Evolves c s (t.startMachine l) := by
  unfold State.startMachine
  refine ite (fun hs => ?_) fun _ => h
  refine h.enters l _ .starting none none (h.given l fun o => ⟨?_, .inr (.inl (by simp [hs])), .inr (.inl (by simp [hs]))⟩)
  have i := rests o (by simp [hs])
  exact still i.1 i.2.1 i.2.2 (fun e => absurd (o.off e) (by simp [hs])) (fun e => absurd (o.checks e) (by simp [hs]))

theorem machineStandby {s t : State} (h : Evolves c s t) (hr : c.rearms = true) (l : Lane) : Evolves c s (t.machineStandby l) := by
  unfold State.machineStandby
  dsimp only
  refine ite (fun hs => ?_) fun _ => h
  have hs : (t.psc.get l).state = .ready ∨ (t.psc.get l).state = .starting := by
    simp only [Bool.and_eq_true, Bool.or_eq_true, decide_eq_true_eq] at hs
    exact hs.2
  refine h.setMachine l _ _ _ (h.given l fun o => ⟨?_, .inr (.inl ?_), .inl hr⟩)
  · have i := rests o (by rcases hs with e | e <;> simp [e])
    exact still i.1 i.2.1 i.2.2 (fun e => by have := o.off e; rcases hs with e | e <;> simp_all)
      (fun e => by have := o.checks e; rcases hs with e | e <;> simp_all)
  · rcases hs with e | e <;> simp [e]

theorem machinesStandby {s t : State} (h : Evolves c s t) (hr : c.rearms = true) : Evolves c s (t.machinesStandby) :=
  (h.machineStandby hr .left).machineStandby hr .right

/-- A change of a pinsetter whose hold is told to the BRC with it (R59). -/
theorem setsHold {s t : State} (h : Evolves c s t) (l : Lane) (f : Pinsetter → Pinsetter) (on : Bool)
    (ho : Given c s (Drives c t l { f (t.psc.get l) with pitHold := on } on (t.checkNeed l))) :
    Evolves c s ((t.modPsc l f).setHold l on) := by
  refine h.steer l rfl (fun m hm => ⟨?_, ?_, rfl⟩) (ho.map fun d => ⟨?_, ?_, ?_⟩)
  · simp [State.setHold, PerLane.get_set_of_ne _ hm]
  · simp [State.setHold, PerLane.get_set_of_ne _ hm]
  · simpa [State.setHold, State.checkNeed] using d.order
  · simpa [State.setHold, State.checkNeed] using d.checks
  · simpa [State.setHold] using d.rearms

/-- The same, with a state entered in the same step. -/
theorem setsHoldEnters {s t : State} (h : Evolves c s t) (l : Lane) (f : Pinsetter → Pinsetter) (on : Bool)
    (state : MachineState) (hn : (f (t.psc.get l)).state ≠ state)
    (ho : Given c s (Drives c t l ({ f (t.psc.get l) with pitHold := on }.enter state none) on (t.checkNeed l))) :
    Evolves c s (((t.modPsc l f).setHold l on).setMachine l state) := by
  unfold State.setMachine
  dsimp only
  rw [if_neg (by simpa [State.setHold] using hn)]
  have h0 : Evolves c s (((t.modPsc l f).setHold l on).modPsc l fun p => p.enter state none) := ?_
  · exact h0.machineChanged _ _ _
  refine h.steer l rfl (fun m hm => ⟨?_, ?_, rfl⟩) (ho.map fun d => ⟨?_, ?_, ?_⟩)
  · simp [State.setHold, PerLane.get_set_of_ne _ hm]
  · simp [State.setHold, PerLane.get_set_of_ne _ hm]
  · simpa [State.setHold, State.checkNeed] using d.order
  · simpa [State.setHold, State.checkNeed] using d.checks
  · simpa [State.setHold] using d.rearms

/-- A machine that has a recipe under way, in play or in a test. -/
abbrev Working (t : State) (l : Lane) : Prop :=
  (t.psc.get l).state = .cycling ∨ (t.psc.get l).state = .heldPit
    ∨ (t.psc.get l).state = .service ∧ (t.psc.get l).recipe ≠ none

theorem Working.not {t : State} {l : Lane} (k : Working t l) :
    (t.psc.get l).state ≠ .checking ∧ (t.psc.get l).state ≠ .ready ∧ (t.psc.get l).state ≠ .off := by
  rcases k with e | e | ⟨e, -⟩ <;> simp [e]

theorem holdSweep {s t : State} (h : Evolves c s t) (l : Lane) {rest : List StepKind}
    (hq : (t.psc.get l).queue = .sweep :: rest) (hk : Given c s (Working t l)) : Evolves c s (t.holdSweep l) := by
  unfold State.holdSweep
  dsimp only
  by_cases hs : (t.psc.get l).state = .cycling
  · rw [if_pos (by simpa [State.setHold] using hs)]
    refine h.setsHoldEnters l _ true .heldPit (by simp [hs]) (h.given₂ l hk fun o k => ⟨?_, .inr (.inl k.not.1), .inr (.inl k.not.2.1)⟩)
    exact ⟨fun e => absurd (o.off e) k.not.2.2, rfl, fun _ => ⟨rfl, by simp [Pinsetter.enter, hq], .inl rfl⟩,
      fun e => absurd rfl e, fun e => absurd (o.checks e) k.not.1⟩
  · rw [if_neg (by simpa [State.setHold] using hs)]
    refine h.setsHold l _ true (h.given₂ l hk fun o k => ⟨?_, .inr (.inl k.not.1), .inr (.inl k.not.2.1)⟩)
    exact ⟨fun e => absurd (o.off e) k.not.2.2, rfl, fun _ => ⟨rfl, by simp [hq], k.resolve_left hs⟩,
      fun e => absurd rfl e, fun e => absurd (o.checks e) k.not.1⟩

theorem issueHead {s t : State} (h : Evolves c s t) (l : Lane) {k : StepKind} {rest : List StepKind}
    (hk : Given c s (Working t l)) : Evolves c s (t.issueHead l k rest) := by
  have e : (t.modPsc l fun p => { p with queue := rest ++ p.remainder.toList, remainder := none }).issue l k
      = t.modPsc l fun p => { p with
          queue := rest ++ p.remainder.toList, remainder := none, step := some k, redo := 0
          stepTimer := some (seconds (stepTime t.settings.stepTimeouts k)) } := by
    simp [State.issue, State.modPsc]
  unfold State.issueHead
  dsimp only
  rw [e]
  by_cases hs : (t.psc.get l).state = .heldPit
  · rw [if_pos (by simpa [State.setHold] using hs)]
    refine h.setsHoldEnters l _ false .cycling (by simp [hs]) (h.given₂ l hk fun o k => ⟨?_, .inr (.inl k.not.1), .inr (.inl k.not.2.1)⟩)
    exact ⟨fun e => absurd (o.off e) k.not.2.2, rfl, fun e => (nomatch e), fun _ => .inl rfl,
      fun e => absurd (o.checks e) k.not.1⟩
  · rw [if_neg (by simpa [State.setHold] using hs)]
    refine h.setsHold l _ false (h.given₂ l hk fun o k => ⟨?_, .inr (.inl k.not.1), .inr (.inl k.not.2.1)⟩)
    refine ⟨fun e => absurd (o.off e) k.not.2.2, rfl, fun e => (nomatch e), fun _ => ?_, fun e => absurd (o.checks e) k.not.1⟩
    rcases k with e | e | e
    · exact .inl e
    · exact absurd e hs
    · exact .inr e.1

theorem nextStep {s t : State} (h : Evolves c s t) (l : Lane) (hk : Given c s (Working t l)) : Evolves c s (t.nextStep l) := by
  unfold State.nextStep
  split
  · exact h
  · rename_i k rest hq
    refine ite (fun hw => ?_) fun _ => h.issueHead l hk
    simp only [Bool.and_eq_true, decide_eq_true_eq] at hw
    exact h.holdSweep l (hw.1 ▸ hq) hk

theorem releaseHold {s t : State} (h : Evolves c s t) (l : Lane) : Evolves c s (t.releaseHold l) := by
  unfold State.releaseHold
  refine ite (fun hp => h.nextStep l (h.given l fun o => .inr ?_)) fun _ => h
  simp only [Bool.and_eq_true] at hp
  exact (o.held hp.1).2.2

/-- A pinsetter with the steps of a recipe laid out and the first issued (R51). -/
theorem layOut_eq (t : State) (l : Lane) (kind : RecipeKind) : t.layOut l kind = t.modPsc l fun p => { p with
    queue := (recipeSteps kind).drop 1 |>.take 3, remainder := (recipeSteps kind)[4]?, step := some .guardDown, redo := 0
    stepTimer := some (seconds (stepTime t.settings.stepTimeouts .guardDown)) } := by
  cases kind <;> simp [State.layOut, recipeSteps, State.issue, State.modPsc]

theorem takeRecipe_eq (t : State) (l : Lane) (r : Recipe) : t.takeRecipe l r = t.modPsc l fun p => { p with
    recipe := some r, attempts := 0
    queue := (recipeSteps r.kind).drop 1 |>.take 3, remainder := (recipeSteps r.kind)[4]?, step := some .guardDown, redo := 0
    stepTimer := some (seconds (stepTime t.settings.stepTimeouts .guardDown)) } := by
  simp [State.takeRecipe, layOut_eq, State.modPsc]

/-- A recipe taken in SERVICE (R67). -/
theorem takeRecipe {s t : State} (h : Evolves c s t) (l : Lane) (r : Recipe) (hs : (t.psc.get l).state = .service)
    (hr : (t.psc.get l).recipe = none) : Evolves c s (t.takeRecipe l r) := by
  rw [takeRecipe_eq]
  refine h.modPsc l _ (h.given l fun o => ⟨?_, .inr (.inl (by simp [hs])), .inr (.inl (by simp [hs]))⟩)
  have hh := unheldTest o hs hr
  exact ⟨o.off, o.told, fun e => absurd e (by simp [hh]), fun _ => .inr hs, o.checks⟩

/-- What a machine needs to take a recipe in play: a state that the scope lets it leave, no hold and no check need. -/
structure Takes (c : Scope) (t : State) (l : Lane) : Prop where
  off    : (t.psc.get l).state ≠ .off
  unheld : (t.psc.get l).pitHold = false
  check  : t.checkNeed l = none
  checks : c.checks = true ∨ (t.psc.get l).state ≠ .checking
  rearms : c.rearms = true ∨ (t.psc.get l).state ≠ .ready

/-- The steps of a recipe laid out, and CYCLING entered. -/
theorem cycles {s t : State} (h : Evolves c s t) (l : Lane) (f : Pinsetter → Pinsetter)
    (hf : (f (t.psc.get l)).pitHold = (t.psc.get l).pitHold) (ho : Given c s (Takes c t l)) :
    Evolves c s ((t.modPsc l f).setMachine l .cycling) := by
  refine h.enters l f .cycling none none (h.given₂ l ho fun o k => ⟨?_, k.checks.imp_right .inl, k.rearms.imp_right .inl⟩)
  exact ⟨fun e => absurd (o.off e) k.off, o.told.trans hf.symm, fun e => absurd (hf.symm.trans e) (by simp [k.unheld]),
    fun _ => .inl rfl, fun e => absurd k.check e⟩

theorem cycle {s t : State} (h : Evolves c s t) (l : Lane) (r : Recipe) (ho : Given c s (Takes c t l)) :
    Evolves c s (t.cycle l r) := by
  unfold State.cycle
  rw [takeRecipe_eq]
  exact h.cycles l _ rfl ho

/-- A recipe taken by a machine in a state in which no step is issued. -/
theorem cycleFrom {s t : State} (h : Evolves c s t) (l : Lane) (r : Recipe)
    (hi : (t.psc.get l).state = .inPlay ∨ (t.psc.get l).state = .ready ∨ (t.psc.get l).state = .starting)
    (ha : c.rearms = true ∨ (t.psc.get l).state ≠ .ready) : Evolves c s (t.cycle l r) := by
  refine h.cycle l r (h.given l fun o => ⟨?_, (rests o ?_).2.1, unchecked o ?_, .inr ?_, ha⟩)
  all_goals rcases hi with e | e | e <;> simp [e]

theorem writeDeck {s t : State} (h : Evolves c s t) (l : Lane) (d : Deck) : Evolves c s (t.writeDeck l d) := by
  unfold State.writeDeck
  exact h.modPdu l _ (.inr fun _ => id)

/-- The machine of a lane stands in CHECKING with its check need gone. -/
abbrev Checked (t : State) (l : Lane) : Prop := (t.psc.get l).state = .checking ∧ t.checkNeed l = none

/-- A machine whose check is answered may enter any state but OFF, with its step and its hold as they are. -/
theorem checkedDrives {t : State} {l : Lane} (hc : c.checks = true) (o : OrderAt t l) (k : Checked t l) (q : Pinsetter)
    (hs : q.step = (t.psc.get l).step) (hh : q.pitHold = (t.psc.get l).pitHold) :
    Drives c t l q (t.ret.holds.get l) (t.checkNeed l) := by
  have i := rests o (by simp [k.1])
  exact ⟨still (hs.trans i.1) (hh.trans i.2.1) i.2.2 (fun e => absurd (o.off e) (by simp [k.1])) (fun e => absurd k.2 e), .inl hc,
    .inr (.inl (by simp [k.1]))⟩

/-- A machine whose check is answered enters a state in which no step is issued. -/
theorem checkedEnters {s t : State} (h : Evolves c s t) (hc : c.checks = true) (l : Lane) (state : MachineState)
    (cause : Option FaultCause) (classes : Option (List PointClass)) (ho : Given c s (Checked t l)) :
    Evolves c s (t.setMachine l state cause classes) :=
  h.setMachine l _ _ _ (h.given₂ l ho fun o k => checkedDrives hc o k _ rfl rfl)

/-- A change of the recipe in hand of a machine whose check is answered. -/
theorem checkedTakes {s t : State} (h : Evolves c s t) (hc : c.checks = true) (l : Lane) (f : Pinsetter → Pinsetter)
    (hf : ∀ p, (f p).state = p.state ∧ (f p).step = p.step ∧ (f p).pitHold = p.pitHold)
    (ho : Given c s (Checked t l)) : Evolves c s (t.modPsc l f) ∧ Given c s (Checked (t.modPsc l f) l) := by
  refine ⟨h.modPsc l _ (h.given₂ l ho fun o k => checkedDrives hc o k _ (hf _).2.1 (hf _).2.2), ho.map fun k => ⟨?_, k.2⟩⟩
  simpa using (hf _).1.trans k.1

theorem cycleEnd {s t : State} (h : Evolves c s t) (hc : c.checks = true) (l : Lane) (ho : Given c s (Checked t l)) :
    Evolves c s (t.cycleEnd l) := by
  have step {u : State} (hu : Evolves c s u) (ho : Given c s (Checked u l)) (b : Bool) :
      Evolves c s (let u := u.modPsc l fun p => { p with recipe := none, attempts := 0, closingOwed := false }
        if b then u.cycle l closingRack else if u.machineIdles l then u.setMachine l .standby else u.setMachine l .ready) := by
    obtain ⟨h1, k1⟩ := hu.checkedTakes hc l (fun p => { p with recipe := none, attempts := 0, closingOwed := false })
      (fun _ => ⟨rfl, rfl, rfl⟩) ho
    dsimp only
    refine ite (fun _ => h1.cycle l _ (h1.given₂ l k1 fun o k => ?_)) fun _ =>
      ite (fun _ => h1.checkedEnters hc l _ _ _ k1) fun _ => h1.checkedEnters hc l _ _ _ k1
    have k0 := k.1
    exact ⟨by rw [k0]; simp, (rests o (by rw [k0]; simp)).2.1, k.2, .inl hc, .inr (by rw [k0]; simp)⟩
  unfold State.cycleEnd
  cases hrec : (t.psc.get l).recipe with
  | none => simpa [hrec] using step h ho false
  | some r => simpa [hrec] using step (h.writeDeck l r.target) ho ((t.psc.get l).closingOwed && !(decide (r.kind = .full)))

theorem resumeFails {s t : State} (h : Evolves c s t) (hc : c.checks = true) (l : Lane) (classes : List PointClass)
    (ho : Given c s (Checked t l)) : Evolves c s (t.resumeFails l classes) := by
  have h1 := h.checkedTakes hc l (fun p => { p with recipe := none }) (fun _ => ⟨rfl, rfl, rfl⟩) ho
  unfold State.resumeFails
  dsimp only
  have h2 := h1.1.modPdu l (fun p => { p with deck := p.deck.forget }) (.inr fun _ => id)
  exact (h2.checkedEnters hc l .service none none h1.2).tell _ _

theorem deckFault {s t : State} (h : Evolves c s t) (hc : c.checks = true) (l : Lane) (classes : List PointClass)
    (ho : Given c s (Checked t l)) : Evolves c s (t.deckFault l classes) := by
  have h1 := h.checkedTakes hc l (fun p => { p with recipe := none, closingOwed := false }) (fun _ => ⟨rfl, rfl, rfl⟩) ho
  unfold State.deckFault
  exact h1.1.checkedEnters hc l _ _ _ h1.2

theorem checkAnswer {s t : State} (h : Evolves c s t) (hc : c.checks = true) (l : Lane) (o : CheckOutcome)
    (classes : List PointClass) (ho : Given c s (Checked t l)) : Evolves c s (t.checkAnswer l o classes) := by
  unfold State.checkAnswer
  dsimp only
  split
  · exact h.cycleEnd hc l ho
  · refine (h.broadcast _).cycleEnd hc l ?_
    simpa [Checked, State.checkNeed] using ho
  · split
    · exact h
    · rename_i r hrec
      refine ite (fun _ => h.resumeFails hc l classes ho) fun _ => ite (fun _ => ?_) fun _ => h.deckFault hc l classes ho
      rw [layOut_eq]
      refine h.cycles l _ rfl (h.given₂ l ho fun o k => ?_)
      exact ⟨by simp [k.1], (rests o (by simp [k.1])).2.1, k.2, .inl hc, .inr (by simp [k.1])⟩

theorem raiseCheck {s t : State} (h : Evolves c s t) (hc : c.checks = true) (l : Lane) (expected : Pins)
    (ho : Given c s (Checked t l)) : Evolves c s (t.raiseCheck l expected) := by
  unfold State.raiseCheck
  refine ite (fun _ => h.checkAnswer hc l _ _ ho) fun _ => ?_
  refine h.steer l rfl (fun m hm => ⟨rfl, rfl, by simp [State.checkNeed, PerLane.get_set_of_ne _ hm]⟩)
    (h.given₂ l ho fun o k => ⟨{ o with checks := fun _ => k.1 }, .inl hc, .inr (.inl (by simp [k.1]))⟩)

theorem enterChecking {s t : State} (h : Evolves c s t) (hc : c.checks = true) (l : Lane)
    (ho : Given c s ((t.psc.get l).step = none ∧ (t.psc.get l).pitHold = false ∧ (t.psc.get l).state ≠ .off
      ∧ (t.psc.get l).state ≠ .ready ∧ t.checkNeed l = none)) : Evolves c s (t.enterChecking l) := by
  have h1 : Evolves c s ((t.modPsc l fun p => { p with attempts := p.attempts + 1 }).setMachine l .checking) := by
    refine h.enters l _ _ _ _ (h.given₂ l ho fun o k => ⟨?_, .inl hc, .inr (.inl k.2.2.2.1)⟩)
    exact still k.1 k.2.1 (o.told.trans k.2.1) (fun e => absurd (o.off e) k.2.2.1) (fun _ => rfl)
  have h2 : Given c s (Checked ((t.modPsc l fun p => { p with attempts := p.attempts + 1 }).setMachine l .checking) l) := by
    refine ho.map fun k => ⟨?_, ?_⟩
    · rw [setMachine_psc, if_pos rfl]
      rfl
    · rw [setMachine_checkNeed]
      exact k.2.2.2.2
  unfold State.enterChecking
  dsimp only
  split
  · exact h1.cycleEnd hc l h2
  · split
    · exact h1.cycleEnd hc l h2
    · exact ite (fun _ => h1.cycleEnd hc l h2) fun _ => h1.raiseCheck hc l _ h2

/-- A change of a machine's counters and timers: its state, its steps, its recipe and its hold stay. -/
theorem counts {s t : State} (h : Evolves c s t) (l : Lane) (f : Pinsetter → Pinsetter) (hs : (f (t.psc.get l)).state = (t.psc.get l).state)
    (hq : (f (t.psc.get l)).queue = (t.psc.get l).queue) (hk : (f (t.psc.get l)).step = (t.psc.get l).step)
    (hh : (f (t.psc.get l)).pitHold = (t.psc.get l).pitHold) (hp : (f (t.psc.get l)).recipe = (t.psc.get l).recipe)
    (hc : c.checks = true ∨ Given c s ((t.psc.get l).state ≠ .checking)) : Evolves c s (t.modPsc l f) := by
  have ho (o : OrderAt t l) (e : c.checks = true ∨ (t.psc.get l).state ≠ .checking) :
      Drives c t l (f (t.psc.get l)) (t.ret.holds.get l) (t.checkNeed l) := by
    refine ⟨⟨?_, ?_, ?_, ?_, ?_⟩, e.imp_right .inl, ?_⟩
    · rw [hs]; exact o.off
    · rw [hh]; exact o.told
    · rw [hh, hk, hq, hs, hp]; exact o.held
    · rw [hk, hs]; exact o.steps
    · rw [hs]; exact o.checks
    · rw [hs]; cases (t.psc.get l).state <;> simp
  rcases hc with e | e
  · exact h.modPsc l f (h.given l fun o => ho o (.inl e))
  · exact h.modPsc l f (h.given₂ l e fun o k => ho o (.inr k))

theorem stray {s t : State} (h : Evolves c s t) (hc : c.checks = true) (l : Lane) : Evolves c s (t.stray l) :=
  h.counts l _ rfl rfl rfl rfl rfl (.inl hc)

theorem stepResult {s t : State} (h : Evolves c s t) (l : Lane) (k : StepKind) (cause : Option FaultCause) : Evolves c s (t.stepResult l k cause) := by
  unfold State.stepResult
  repeat' with_reducible (first | exact h | apply tell)

theorem testCycleDone {s t : State} (h : Evolves c s t) (l : Lane) (r : Recipe)
    (ho : Given c s ((t.psc.get l).state = .service ∧ (t.psc.get l).pitHold = false)) : Evolves c s (t.testCycleDone l r) := by
  unfold State.testCycleDone
  dsimp only
  refine ((h.writeDeck l r.target).modPsc l _ ((h.writeDeck l r.target).given₂ l ho fun o k => ?_)).tell _ _
  have k1 : ((t.writeDeck l r.target).psc.get l).state = .service := k.1
  have k2 : ((t.writeDeck l r.target).psc.get l).pitHold = false := k.2
  exact ⟨⟨o.off, o.told, fun e => absurd (k2.symm.trans e) (by simp), o.steps, o.checks⟩, .inr (.inl (by rw [k1]; simp)), .inr (.inl (by rw [k1]; simp))⟩

theorem serviceDone {s t : State} (h : Evolves c s t) (l : Lane) (k : StepKind)
    (ho : Given c s ((t.psc.get l).state = .service ∧ (t.psc.get l).pitHold = false)) : Evolves c s (t.serviceDone l k) := by
  have e : (t.stepResult l k none).psc = t.psc := by simp [State.stepResult]
  unfold State.serviceDone
  dsimp only
  split
  · exact h.stepResult _ _ _
  · rename_i r hr
    refine ite (fun _ => (h.stepResult _ _ _).testCycleDone l r (by rw [e]; exact ho)) fun _ =>
      (h.stepResult _ _ _).nextStep l (ho.map fun k => .inr (.inr ?_))
    rw [hr, e]
    exact ⟨k.1, by simp⟩

theorem woundDown {s t : State} (h : Evolves c s t) (l : Lane)
    (ho : Given c s ((t.psc.get l).step = none ∧ (t.psc.get l).pitHold = false
      ∧ ((t.psc.get l).state = .cycling ∨ (t.psc.get l).state = .service))) : Evolves c s (t.woundDown l) := by
  have h1 : Evolves c s ((t.modPsc l fun p => { p with windingDown := false }).setMachine l .standby) := by
    refine h.enters l _ _ _ _ (h.given₂ l ho fun o k => ?_)
    have hs : (t.psc.get l).state ≠ .checking ∧ (t.psc.get l).state ≠ .ready ∧ (t.psc.get l).state ≠ .off := by
      rcases k.2.2 with e | e <;> simp [e]
    exact ⟨still k.1 k.2.1 (o.told.trans k.2.1) (fun e => absurd (o.off e) hs.2.2) (fun e => absurd (o.checks e) hs.1),
      .inr (.inl hs.1), .inr (.inl hs.2.1)⟩
  unfold State.woundDown
  dsimp only
  exact ite (fun _ => h1.startMachine l) fun _ => h1

theorem completeDone {s t : State} (h : Evolves c s t) (hc : c.checks = true) (l : Lane) : Evolves c s (t.completeDone l) := by
  unfold State.completeDone
  dsimp only
  split
  · exact h.stray hc l
  · rename_i k hk
    have ho : Given c s ((t.psc.get l).pitHold = false ∧ t.checkNeed l = none
        ∧ ((t.psc.get l).state = .cycling ∨ (t.psc.get l).state = .service)) :=
      h.given l fun o => by
        have e := o.steps (by simp [hk])
        exact ⟨unheld o (by simp [hk]), unchecked o (by rcases e with e | e <;> simp [e]), e⟩
    have h1 : Evolves c s (t.modPsc l fun p => { p with step := none, stepTimer := none }) := by
      refine h.modPsc l _ (h.given₂ l ho fun o k => ⟨⟨o.off, o.told, fun e => absurd (k.1.symm.trans e) (by simp),
        fun e => absurd rfl e, o.checks⟩, .inl hc, .inr (.inl ?_)⟩)
      rcases k.2.2 with e | e <;> simp [e]
    refine ite (fun _ => h1.woundDown l (ho.map fun k => by simpa using ⟨k.1, k.2.2⟩)) fun _ => ite (fun hs => ?_) fun hs =>
      ite (fun _ => ?_) fun _ => ?_
    · exact h1.serviceDone l _ (ho.map fun k => by simpa using ⟨hs, k.1⟩)
    · refine h1.enterChecking hc l (ho.map fun k => ?_)
      have e := k.2.2.resolve_right hs
      have k1 := k.1
      have k2 := k.2.1
      simp only [State.checkNeed] at k2
      simp [State.checkNeed, e, k1, k2]
    · refine h1.nextStep l (ho.map fun k => .inl ?_)
      simpa using k.2.2.resolve_right hs

theorem machineFails {s t : State} (h : Evolves c s t) (hc : c.checks = true) (l : Lane) (k : StepKind) (cause : FaultCause)
    (hk : (t.psc.get l).step ≠ none) : Evolves c s (t.machineFails l k cause) := by
  have ho : Given c s (t.checkNeed l = none ∧ ((t.psc.get l).state = .cycling ∨ (t.psc.get l).state = .service)) :=
    h.given l fun o => by
      have e := o.steps hk
      exact ⟨unchecked o (by rcases e with e | e <;> simp [e]), e⟩
  have h1 : Evolves c s ((t.modPsc l Pinsetter.emptied).setHold l false) := by
    refine h.setsHold l _ false (h.given₂ l ho fun o k => ⟨still rfl rfl rfl o.off o.checks, .inl hc, .inr (.inl ?_)⟩)
    rcases k.2 with e | e <;> simp [e]
  unfold State.machineFails
  dsimp only
  refine ite (fun _ => h1.stepResult _ _ _) fun hs => h1.enters l _ _ _ _ (h1.given₂ l ho fun o k => ?_)
  have e : (((t.modPsc l Pinsetter.emptied).setHold l false).psc.get l).state = .cycling := by
    simpa [State.setHold, Pinsetter.emptied] using k.2.resolve_right hs
  exact ⟨still (by simp [State.setHold, Pinsetter.emptied, Pinsetter.enter]) (by simp [State.setHold, Pinsetter.enter])
    (by simp [State.setHold]) (fun x => absurd (o.off x) (by rw [e]; simp)) (fun x => absurd (o.checks x) (by rw [e]; simp)), .inl hc,
    .inr (.inl (by rw [e]; simp))⟩

theorem completeRedo {s t : State} (h : Evolves c s t) (hc : c.checks = true) (l : Lane) : Evolves c s (t.completeRedo l) := by
  unfold State.completeRedo
  dsimp only
  split
  · exact h.stray hc l
  · rename_i k hk
    exact ite (fun _ => h.counts l _ rfl rfl rfl rfl rfl (.inl hc)) fun _ => h.machineFails hc l _ _ (by simp [hk])

theorem completeFault {s t : State} (h : Evolves c s t) (hc : c.checks = true) (l : Lane) (cause : FaultCause) :
    Evolves c s (t.completeFault l cause) := by
  unfold State.completeFault
  split
  · exact h.stray hc l
  · rename_i k hk
    exact h.machineFails hc l _ _ (by simp [hk])

theorem stepExpires {s t : State} (h : Evolves c s t) (hc : c.checks = true) (l : Lane) : Evolves c s (t.stepExpires l) := by
  unfold State.stepExpires
  dsimp only
  split
  · exact h
  · rename_i k hk
    exact ite (fun _ => h.machineFails hc l _ _ (by simp [hk])) fun _ => h

theorem startExpires {s t : State} (h : Evolves c s t) (l : Lane) : Evolves c s (t.startExpires l) := by
  unfold State.startExpires
  dsimp only
  refine ite (fun hs => ?_) fun _ => h
  simp only [Bool.and_eq_true, decide_eq_true_eq] at hs
  replace hs := hs.1
  have h1 : Evolves c s (t.modPsc l fun p => { p with startTimer := none }) :=
    h.counts l _ rfl rfl rfl rfl rfl (.inr (.inr fun _ => by simp [hs]))
  exact h1.cycleFrom l _ (.inr (.inr (by simpa using hs))) (.inr (by simp [hs]))

theorem pscCloseNow {s t : State} (h : Evolves c s t) (hc : c.checks = true) (hr : c.rearms = true) (l : Lane) :
    Evolves c s (t.pscCloseNow l) := by
  unfold State.pscCloseNow
  dsimp only
  split
  · rename_i hs
    exact h.cycleFrom l _ (.inr (.inl hs)) (.inl hr)
  · rename_i hs
    exact h.cycleFrom l _ (.inl hs) (.inl hr)
  · exact h.counts l _ rfl rfl rfl rfl rfl (.inl hc)
  · exact h.counts l _ rfl rfl rfl rfl rfl (.inl hc)
  · exact h.counts l _ rfl rfl rfl rfl rfl (.inl hc)
  · rename_i hs
    refine h.setMachine l _ _ _ (h.given l fun o => ⟨?_, .inl hc, .inl hr⟩)
    have i := rests o (by simp [hs])
    exact still i.1 i.2.1 i.2.2 (fun e => absurd (o.off e) (by simp [hs])) (fun e => absurd (o.checks e) (by simp [hs]))
  all_goals exact h

theorem clearDeck {s t : State} (h : Evolves c s t) (l : Lane) : Evolves c s (t.clearDeck l) := by
  unfold State.clearDeck
  repeat' with_reducible (first | exact h | apply writeDeck | split)

theorem clearTest {s t : State} (h : Evolves c s t) (l : Lane) (hs : (t.psc.get l).state = .service) :
    Evolves c s (t.clearTest l) := by
  unfold State.clearTest
  refine ite (fun _ => h.setsHold l _ false (h.given l fun o => ⟨?_, .inr (.inl (by simp [hs])), .inr (.inl (by simp [hs]))⟩)) fun _ => h
  exact ⟨o.off, rfl, fun e => (nomatch e), fun _ => .inr hs, o.checks⟩

theorem clearPlay {s t : State} (h : Evolves c s t) (hc : c.checks = true) (hr : c.rearms = true) (l : Lane)
    (hs : (t.psc.get l).state ≠ .off) : Evolves c s (t.clearPlay l) := by
  have h1 : Evolves c s (((t.modPsc l fun p => { p with
      queue := [], remainder := none, recipe := none, attempts := 0, closingOwed := false, startTimer := none }).setHold l
        false).withdrawCheck l) := by
    refine withdrawCheck (h.setsHold l _ false (h.given l fun o => ⟨?_, .inl hc, .inl hr⟩)) hc l
    exact ⟨o.off, rfl, fun e => (nomatch e), o.steps, o.checks⟩
  unfold State.clearPlay
  dsimp only
  refine ite (fun hn => h1.setMachine l _ _ _ (h1.given l fun o => ⟨?_, .inl hc, .inl hr⟩)) fun _ =>
    h1.counts l _ rfl rfl rfl rfl rfl (.inl hc)
  refine still (by simpa [Pinsetter.enter] using hn) (by simp [State.withdrawCheck, State.setHold, Pinsetter.enter]) (by simp [State.withdrawCheck, State.setHold])
    (fun e => absurd (o.off e) ?_) (fun e => absurd ?_ e)
  · simpa [State.withdrawCheck, State.setHold] using hs
  · simp [State.withdrawCheck, State.checkNeed]

theorem pscClear {s t : State} (h : Evolves c s t) (hc : c.checks = true) (hr : c.rearms = true) (l : Lane) :
    Evolves c s (t.pscClear l) := by
  have h1 := h.clearDeck l
  unfold State.pscClear
  dsimp only
  split
  · exact h1
  · exact h1
  · rename_i hs
    exact h1.clearTest l hs
  all_goals
    rename_i hs
    exact h1.clearPlay hc hr l (by rw [hs]; simp)


theorem handleReRack {s t : State} (h : Evolves c s t) (hr : c.rearms = true) (lane : Nat) :
    Evolves c s (handleReRack lane t).1 := by
  unfold Machine.handleReRack
  dsimp only [accept, refuse]
  split
  · exact h
  · split
    · rename_i hs
      exact h.cycleFrom _ _ (.inr (.inl hs)) (.inl hr)
    · exact h

theorem handleIssueStep {s t : State} (h : Evolves c s t) (lane step : Nat) : Evolves c s (handleIssueStep lane step t).1 := by
  unfold Machine.handleIssueStep
  dsimp only [accept, refuse]
  split
  · rename_i l k _ _
    split
    · exact h
    · rename_i hs
      split
      · exact h
      · rename_i hb
        split
        · exact h
        · unfold State.issue
          dsimp only
          refine h.modPsc l _ (h.given l fun o => ?_)
          have hs := Decidable.not_not.1 hs
          simp only [Bool.or_eq_true, not_or, Option.not_isSome_iff_eq_none] at hb
          have hh := unheldTest o hs hb.2
          exact ⟨⟨o.off, o.told, fun e => absurd e (by simp [hh]), fun _ => .inr hs, o.checks⟩, .inr (.inl (by simp [hs])),
            .inr (.inl (by simp [hs]))⟩
  · exact h

theorem handleResumeMachine {s t : State} (h : Evolves c s t) (hc : c.checks = true) (lane choice : Nat) :
    Evolves c s (handleResumeMachine lane choice t).1 := by
  unfold Machine.handleResumeMachine
  dsimp only [accept, refuse]
  split
  · rename_i l rack _ _
    split
    · exact h
    · rename_i hs
      split
      · exact h
      · rename_i hb
        have hs := Decidable.not_not.1 hs
        simp only [Bool.or_eq_true, not_or, Option.not_isSome_iff_eq_none] at hb
        have hh : Given c s ((t.psc.get l).pitHold = false ∧ t.checkNeed l = none) :=
          h.given l fun o => ⟨unheldTest o hs hb.2, unchecked o (by simp [hs])⟩
        split
        · split
          · exact h.cycle l _ (hh.map fun k => ⟨by simp [hs], k.1, k.2, .inr (by simp [hs]), .inr (by simp [hs])⟩)
          · exact h
        · refine enterChecking (h.modPsc l _ (h.given₂ l hh fun o k => ⟨⟨o.off, o.told,
            fun e => absurd (k.1.symm.trans e) (by simp), o.steps, o.checks⟩, .inl hc, .inr (.inl (by simp [hs]))⟩)) hc l ?_
          exact hh.map fun k => by
            have k2 := k.2
            simp only [State.checkNeed] at k2
            simp [State.checkNeed, hb.1, k.1, hs, k2]
  · exact h

theorem tellReturn {s t : State} (h : Evolves c s t) (n : Notice) : Evolves c s (t.tellReturn n) := by
  unfold State.tellReturn
  repeat' with_reducible (first | exact h | apply broadcast | apply markFeeds)

theorem setReturn {s t : State} (h : Evolves c s t) (ht : c.returns = true) (st : ReturnState) (cause : Option ReturnCause) :
    Evolves c s (t.setReturn st cause) := by
  unfold State.setReturn
  dsimp only
  refine pauseEvals (tellReturn ?_ _)
  exact h.quietReturn _ (fun _ => rfl) (.inl ht)

theorem returnIdleEval {s t : State} (h : Evolves c s t) (ht : c.returns = true) : Evolves c s (t.returnIdleEval) := by
  unfold State.returnIdleEval
  repeat' with_reducible (first | exact h | exact ht | apply setReturn | split)

/-- A take changes neither the holds nor the state of the return. -/
theorem take_same (r : BallReturn) (capacity timeout : Nat) :
    (r.take capacity timeout).holds = r.holds ∧ (r.take capacity timeout).state = r.state := by
  unfold BallReturn.take BallReturn.takeFrom
  repeat' split
  all_goals exact ⟨rfl, rfl⟩

theorem takeBall {s t : State} (h : Evolves c s t) : Evolves c s t.takeBall :=
  h.modReturn (fun r => r.take t.settings.rackCapacity t.settings.carryTimeout) (.take _ _) (take_same _ _ _).1
    (.inr (take_same _ _ _).2)

/-- What a machine that changes state leaves as it was, for the return: its balls and the settings. -/
def KeepsReturn (s t : State) : Prop := t.ret.inLift = s.ret.inLift ∧ t.settings = s.settings

theorem keeps_refl (s : State) : KeepsReturn s s := ⟨rfl, rfl⟩

theorem keeps_of_eq {s t u : State} (h : KeepsReturn s t) (hr : u.ret.inLift = t.ret.inLift) (hs : u.settings = t.settings) :
    KeepsReturn s u := ⟨hr.trans h.1, hs.trans h.2⟩

theorem enterSession_keeps {s t : State} (h : KeepsReturn s t) (l : Lane) (x : SessionState) (p : Option SessionState) :
    KeepsReturn s (t.enterSession l x p) :=
  keeps_of_eq h (by simp [State.enterSession, State.bannerEval]) (by simp [State.enterSession, State.bannerEval])

theorem pauseEval_keeps {s t : State} (h : KeepsReturn s t) (l : Lane) : KeepsReturn s (t.pauseEval l) := by
  unfold State.pauseEval
  dsimp only
  repeat' with_reducible (first | exact h | apply enterSession_keeps | split)

theorem opens_keeps {s t : State} (h : KeepsReturn s t) (l : Lane) : KeepsReturn s (t.opens l) := by
  unfold State.opens
  repeat' with_reducible (first | exact h | apply pauseEval_keeps | apply enterSession_keeps | split)

theorem modPsc_keeps {s t : State} (h : KeepsReturn s t) (l : Lane) (f : Pinsetter → Pinsetter) :
    KeepsReturn s (t.modPsc l f) := keeps_of_eq h rfl rfl

theorem modSensing_keeps {s t : State} (h : KeepsReturn s t) (l : Lane) (f : SensingLane → SensingLane) :
    KeepsReturn s (t.modSensing l f) := keeps_of_eq h rfl rfl

theorem markFeed_keeps {s t : State} (h : KeepsReturn s t) (l : Lane) (a b : Bool) : KeepsReturn s (t.markFeed l a b) :=
  keeps_of_eq h (by simp) (by simp)

theorem broadcast_keeps {s t : State} (h : KeepsReturn s t) (n : Notice) : KeepsReturn s (t.broadcast n) :=
  keeps_of_eq h (by simp) (by simp)

theorem setHold_keeps {s t : State} (h : KeepsReturn s t) (l : Lane) (on : Bool) : KeepsReturn s (t.setHold l on) :=
  keeps_of_eq h rfl rfl

theorem bannerEval_keeps {s t : State} (h : KeepsReturn s t) (l : Lane) : KeepsReturn s (t.bannerEval l) :=
  keeps_of_eq h (by simp [State.bannerEval]) (by simp [State.bannerEval])

theorem modPdu_keeps {s t : State} (h : KeepsReturn s t) (l : Lane) (f : Pdu → Pdu) : KeepsReturn s (t.modPdu l f) :=
  keeps_of_eq h rfl rfl

theorem leaveService_keeps {s t : State} (h : KeepsReturn s t) (l : Lane) : KeepsReturn s (t.leaveService l) := by
  unfold State.leaveService State.endContinuous State.dropRunNeed
  dsimp only
  repeat' with_reducible (first | exact h | exact fun _ => rfl | with_unfolding_all exact .inr fun _ e => e | (refine .inr fun _ e => ?_; cases e; done) | exact dropped_idle | exact finished_final | apply modSensing_keeps | apply modPdu_keeps | split)

theorem machineChanged_keeps {s t : State} (h : KeepsReturn s t) (l : Lane) (b : MachineState) (c : Option (List PointClass)) :
    KeepsReturn s (t.machineChanged l b c) := by
  unfold State.machineChanged
  dsimp only
  refine bannerEval_keeps (pauseEval_keeps (opens_keeps ?_ l) l) l
  repeat' with_reducible (first | exact h | apply leaveService_keeps | apply markFeed_keeps | apply broadcast_keeps | split)

theorem setMachine_keeps {s t : State} (h : KeepsReturn s t) (l : Lane) (m : MachineState) (c : Option FaultCause)
    (k : Option (List PointClass)) : KeepsReturn s (t.setMachine l m c k) := by
  unfold State.setMachine
  dsimp only
  repeat' with_reducible (first | exact h | apply machineChanged_keeps | apply modPsc_keeps | split)

theorem releaseHold_keeps {s t : State} (h : KeepsReturn s t) (l : Lane) : KeepsReturn s (t.releaseHold l) := by
  unfold State.releaseHold State.nextStep State.holdSweep State.issueHead State.issue
  dsimp only
  repeat' with_reducible (first | exact h | apply setMachine_keeps | apply setHold_keeps | apply modPsc_keeps | split)

theorem passPits {s t : State} (h : Evolves c s t) : Evolves c s t.passPits := (h.releaseHold .left).releaseHold .right

theorem returnPump {s t : State} (h : Evolves c s t) (ht : c.returns = true) : Evolves c s (t.returnPump) :=
  (h.returnIdleEval ht).takeBall.passPits

theorem stopCarry {s t : State} (h : Evolves c s t) : Evolves c s (t.modReturn fun r => { r with carryTimer := none }) :=
  h.quietReturn _ (fun _ => rfl) (.inr fun _ => rfl)

theorem pitEvent {s t : State} (h : Evolves c s t) (ht : c.returns = true) (l : Lane) : Evolves c s (t.pitEvent l) := by
  unfold State.pitEvent
  dsimp only
  split
  · rename_i hl
    exact h.modReturn _ (.enter _ l hl) rfl (.inr rfl)
  · repeat' with_reducible (first | exact h | exact ht | apply setReturn | apply stopCarry | apply broadcast | split)

theorem liftTop {s t : State} (h : Evolves c s t) : Evolves c s t.liftTop := by
  unfold State.liftTop
  dsimp only
  split
  · rename_i hl
    have h0 := h.modReturn (fun r => { r with lift := none, carryTimer := none, rack := r.rack + 1 }) (.delivered _ hl) rfl (.inr rfl)
    split
    · exact h0.tellReturn _
    · exact h0
  · exact h.modReturn _ (.liftGlitch _) rfl (.inr rfl)

theorem rackTaken {s t : State} (h : Evolves c s t) : Evolves c s t.rackTaken := by
  unfold State.rackTaken
  dsimp only
  split
  · have h0 := h.modReturn (fun r => { r with rack := r.rack - 1 }) (.taken _) rfl (.inr rfl)
    split
    · exact h0.tellReturn _
    · exact h0
  · exact h.modReturn _ (.rackGlitch _) rfl (.inr rfl)

theorem carryExpires {s t : State} (h : Evolves c s t) (ht : c.returns = true) : Evolves c s t.carryExpires := by
  unfold State.carryExpires
  dsimp only
  split
  · exact h.stopCarry.setReturn ht _ _
  · exact h

theorem rackMoved {s t : State} (h : Evolves c s t) (before : LiftCondition) : Evolves c s (t.rackMoved before) := by
  unfold State.rackMoved
  try dsimp only [accept, refuse]
  repeat' with_reducible (first | exact h | apply tellReturn | split)

theorem restartCarry {s t : State} (h : Evolves c s t) : Evolves c s (t.modReturn fun r =>
    if r.state = .running && r.lift.isSome then { r with carryTimer := some (seconds t.settings.carryTimeout) } else r) :=
  h.quietReturn _ (fun r => by split <;> rfl) (.inr fun r => by split <;> rfl)

theorem removedBalls {s t : State} (h : Evolves c s t) (lift left right : Nat) :
    Evolves c s (t.modReturn fun r => r.removed lift left right) := h.modReturn _ (.removed _ _ _ _) rfl (.inr rfl)

/-- Passing the pit counts moves no ball and changes no setting. -/
theorem passPits_keeps (s : State) : s.passPits.ret.inLift = s.ret.inLift ∧ s.passPits.settings = s.settings :=
  releaseHold_keeps (releaseHold_keeps (keeps_refl s) .left) .right

theorem clearReturn {s t : State} (h : Evolves c s t) (ht : c.returns = true) (lift left right : Nat) (rack : Option Nat)
    (hr : rack.getD 0 ≤ t.settings.rackCapacity - (t.ret.removed lift left right).inLift) :
    Evolves c s (t.clearReturn lift left right rack) := by
  unfold State.clearReturn
  cases rack with
  | none =>
    have h0 := (h.removedBalls lift left right).passPits
    dsimp only
    repeat' with_reducible (first | exact h0 | exact ht | apply tellReturn | apply returnPump | apply restartCarry | apply returnIdleEval | apply setReturn | split)
  | some n =>
    have hk := passPits_keeps (t.modReturn fun r => r.removed lift left right)
    have h0 := ((h.removedBalls lift left right).passPits.modReturn (fun r => { r with rack := n })
      (.counted _ n (by rw [hk.1, hk.2]; exact hr)) rfl (.inr rfl)).rackMoved
      (liftCondition (t.modReturn fun r => r.removed lift left right).passPits.ret
        (t.modReturn fun r => r.removed lift left right).passPits.settings.rackCapacity)
    dsimp only
    repeat' with_reducible (first | exact h0 | exact ht | apply tellReturn | apply returnPump | apply restartCarry | apply returnIdleEval | apply setReturn | split)

theorem inLift_removed (r : BallReturn) (lift left right : Nat) (hl : lift ≤ 1) (h1 : ¬ (lift = 1 ∧ r.lift = none)) :
    (r.removed lift left right).inLift = r.inLift - lift := by
  unfold BallReturn.removed BallReturn.inLift
  obtain rfl | rfl : lift = 0 ∨ lift = 1 := by omega
  · simp
  · cases hr : r.lift with
    | none => exact absurd ⟨rfl, hr⟩ h1
    | some b => simp

theorem handleClearReturn {s t : State} (h : Evolves c s t) (ht : c.returns = true) (lift left right : Nat) (rack : Option Nat) :
    Evolves c s (handleClearReturn lift left right rack t).1 := by
  unfold Machine.handleClearReturn
  dsimp only [refuse]
  split
  · exact h
  · rename_i h1
    split
    · exact h
    · rename_i h2
      split
      · exact h
      · rename_i h3
        refine h.clearReturn ht _ _ _ _ ?_
        simp at h1 h2 h3
        rw [inLift_removed _ _ _ _ h1.1.1 (by simpa using h2)]
        omega

theorem placePosition {s t : State} (h : Evolves c s t) (g : Slot) : Evolves c s (t.placePosition g) := by
  unfold State.placePosition
  repeat' with_reducible (first | exact h | apply modGroup | split)

theorem announceGroup {s t : State} (h : Evolves c s t) (before : State) (g : Slot) (refused : Option Code) : Evolves c s (t.announceGroup before g refused) := by
  unfold State.announceGroup
  try dsimp only [accept, refuse]
  repeat' with_reducible (first | exact h | apply broadcast | apply markShowing | split)

theorem announceLane {s t : State} (h : Evolves c s t) (before : State) (l : Lane) : Evolves c s (t.announceLane before l) := by
  unfold State.announceLane
  try dsimp only [accept, refuse]
  repeat' with_reducible (first | exact h | apply markFeed | apply startMachine | split)

theorem announce {s t : State} (h : Evolves c s t) (before : State) (refused : Option (Slot × Code)) : Evolves c s (t.announce before refused) := by
  unfold State.announce
  try dsimp only [accept, refuse]
  repeat' with_reducible (first | exact h | apply bannersEval | apply placePosition | apply announceGroup | apply announceLane | split)

theorem becomes {s t : State} (h : Evolves c s t) (g : Slot) (state : GroupState) : Evolves c s (t.becomes g state) := by
  unfold State.becomes
  repeat' with_reducible (first | exact h | apply modGroup)

theorem releaseLane {s t : State} (h : Evolves c s t) (g : Slot) (l : Lane) : Evolves c s (t.releaseLane g l) := by
  unfold State.releaseLane
  try dsimp only [accept, refuse]
  repeat' with_reducible (first | exact h | apply modLane | apply becomes | split)

theorem releaseLanes {s t : State} (h : Evolves c s t) (g : Slot) : Evolves c s (t.releaseLanes g) := by
  unfold State.releaseLanes
  repeat' with_reducible (first | exact h | apply releaseLane)

theorem askLane {s t : State} (h : Evolves c s t) (g : Slot) (l : Lane) : Evolves c s (t.askLane g l) := by
  unfold State.askLane
  repeat' with_reducible (first | exact h | apply modLane | apply becomes | split)

theorem handOff {s t : State} (h : Evolves c s t) (g : Slot) (l : Lane) : Evolves c s (t.handOff g l) := by
  unfold State.handOff
  repeat' with_reducible (first | exact h | apply releaseLanes | apply askLane)

theorem placeBall {s t : State} (h : Evolves c s t) (b : BallRecord) : Evolves c s (t.placeBall b) := by
  unfold State.placeBall
  split
  · refine h.changeLine _ _ fun l => ?_
    unfold Line.placeBall
    split <;> exact ⟨rfl, rfl⟩
  · exact h

theorem removeBall {s t : State} (h : Evolves c s t) (b : BallRecord) : Evolves c s (t.removeBall b) := by
  unfold State.removeBall
  split
  · exact h.changeLine _ _ fun l => ⟨rfl, rfl⟩
  · exact h

theorem permitStart {s t : State} (h : Evolves c s t) (g : Slot) : Evolves c s (t.permitStart g).1 := by
  unfold State.permitStart
  try dsimp only [accept, refuse]
  repeat' with_reducible (first | exact h | apply permitGame | split)

theorem startGame {s t : State} (h : Evolves c s t) (g : Slot) : Evolves c s (t.startGame g) := by
  unfold State.startGame
  dsimp only
  refine askLane (modGroup (voidCorrections (h.trans (foldl (fun u i => ?_) _ _)) _ _) _ _) _ _
  exact (Evolves.refl u).changeLine i _ fun _ => ⟨rfl, rfl⟩

theorem gameEnd {s t : State} (h : Evolves c s t) (before : State) (g : Slot) : Evolves c s (t.gameEnd before g) := by
  have h0 := (((h.trans (foldl (f := fun s (e : LineId × GameEntry) =>
      s.changeLine e.1 fun l => { l with games := appendGame l.games e.2 })
    (fun u e => (Evolves.refl u).changeLine e.1 _ fun _ => ⟨rfl, rfl⟩) (t.gameEntries g) t)).releaseLanes g).modGroup
      g (fun r => { r with inProgress := false, position := none })).becomes g .idle
  unfold State.gameEnd
  dsimp only
  split
  · have h1 := h0.permitStart g
    split
    · rename_i heq
      rw [heq] at h1
      exact (h1.announce _ _).broadcast _
    · rename_i heq
      rw [heq] at h1
      exact (((h1.announce _ _).broadcast _).startGame g).announce _ _
  · exact (h0.announce _ _).broadcast _

theorem advance {s t : State} (h : Evolves c s t) (before : State) (g : Slot) : Evolves c s (t.advance before g) := by
  unfold State.advance
  try dsimp only [accept, refuse]
  repeat' with_reducible (first | exact h | apply modGroup | apply announce | apply handOff | apply gameEnd | split)

theorem advanceFor {s t : State} (h : Evolves c s t) (b : BallRecord) : Evolves c s (t.advanceFor b) := by
  unfold State.advanceFor
  repeat' with_reducible (first | exact h | apply advance | split)

theorem abandonGame {s t : State} (h : Evolves c s t) (g : Slot) : Evolves c s (t.abandonGame g) := by
  unfold State.abandonGame
  try dsimp only [accept, refuse]
  repeat' with_reducible (first | exact h | apply modGroup | apply releaseLanes | split | apply withOutbound)

theorem turnOpen {s t : State} (h : Evolves c s t) (g : Slot) : Evolves c s (t.turnOpen g) := by
  unfold State.turnOpen
  try dsimp only [accept, refuse]
  repeat' with_reducible (first | exact h | apply modGroup | apply handOff | split)

theorem gtCloseNow {s t : State} (h : Evolves c s t) (l : Lane) : Evolves c s (t.gtCloseNow l) := by
  unfold State.gtCloseNow
  try dsimp only [accept, refuse]
  repeat' with_reducible (first | exact h | apply announce | apply abandonGame | apply turnOpen | split)

theorem addLines {s t : State} (h : Evolves c s t) (new : List (LineId × Line))
    (hn : ∀ e ∈ new, e.2.copies = ⟨.none, .none, .none⟩ ∧ e.2.claimTimer = none) : Evolves c s (t.addLines new) := by
  unfold State.addLines
  induction new generalizing t with
  | nil => exact h
  | cons e rest ih =>
    have he := hn e (List.mem_cons_self ..)
    exact ih (h.setLine e.1 (some e.2) (.born _ _ he.1 he.2)) fun e' h' => hn e' (List.mem_cons_of_mem _ h')

theorem handleCreateGroup {s t : State} (h : Evolves c s t) (slot : Nat) (name : Name) (lane : Nat)
    (bowlers : List BowlerSpec) : Evolves c s (handleCreateGroup slot name lane bowlers t).1 := by
  unfold Machine.handleCreateGroup
  split
  · rename_i g l _ _
    have h0 := h.addLines ((t.freeLines.take bowlers.length).zip (bowlers.map fun b => newLine t.handicap g b [])) (by
      intro e he
      obtain ⟨b, -, hb⟩ := List.mem_map.1 (List.of_mem_zip he).2
      rw [← hb]
      exact ⟨rfl, rfl⟩)
    dsimp only [refuse]
    repeat' with_reducible (first | exact h | exact h0 | apply announce | apply modGroup | split)
  · exact h

theorem removeLines {s t : State} (h : Evolves c s t) (order : List LineId) (home : Lane) :
    Evolves c s (order.foldl (fun t i => t.removeLine home i) t) :=
  h.trans (foldl (fun u i => (Evolves.refl u).removeLine home i) _ _)

theorem handleDismissGroup {s t : State} (h : Evolves c s t) (slot : Nat) : Evolves c s (handleDismissGroup slot t).1 := by
  unfold Machine.handleDismissGroup
  try dsimp only [accept, refuse]
  repeat' with_reducible (first | exact h | apply announce | apply dropHighlights | apply modGroup | apply removeLines | split)

theorem handleAddBowler {s t : State} (h : Evolves c s t) (slot : Nat) (b : BowlerSpec) :
    Evolves c s (handleAddBowler slot b t).1 := by
  unfold Machine.handleAddBowler
  dsimp only [refuse]
  repeat' with_reducible (first | exact h | exact .born _ _ rfl rfl | apply announce | apply refreshTotals | apply modGroup | apply setLine | split)

theorem handleSetPlayMode {s t : State} (h : Evolves c s t) (slot mode : Nat) : Evolves c s (handleSetPlayMode slot mode t).1 := by
  unfold Machine.handleSetPlayMode
  try dsimp only [accept, refuse]
  repeat' with_reducible (first | exact h | apply modGroup | apply announce | split)

theorem handleNewGame {s t : State} (h : Evolves c s t) (slot : Nat) : Evolves c s (handleNewGame slot t).1 := by
  unfold Machine.handleNewGame
  split
  · exact h
  · rename_i g _
    have h1 := h.permitStart g
    split
    · rename_i heq
      rw [heq] at h1
      exact h1
    · rename_i heq
      rw [heq] at h1
      dsimp only at h1 ⊢
      refine announce (startGame h1 g) _ _

theorem handleMoveGroup {s t : State} (h : Evolves c s t) (slot lane : Nat) : Evolves c s (handleMoveGroup slot lane t).1 := by
  unfold Machine.handleMoveGroup
  try dsimp only [accept, refuse]
  repeat' with_reducible (first | exact h | apply modGroup | apply announce | apply handOff | split)

theorem editLine {s t : State} (h : Evolves c s t) (k : Link) (i : LineId) (l : Line) (d : LineChanges)
    (hl : t.line i = some l) (hk : l.copies.get k = .edit) : Evolves c s (t.editLine k i l d) := by
  have h0 : Evolves c s (t.changeLine i fun l => { l.edited d with claimTimer := some (seconds t.settings.claimExpiry) }) := by
    unfold State.changeLine
    rw [hl]
    exact touch (refreshTotals (h.setLine i _ (by rw [hl]; exact .step _ _ (.restart _ _ k _ hk rfl rfl))) _) _
  unfold State.editLine
  dsimp only
  repeat' with_reducible (first | exact h0 | apply flushLines | apply advance | apply announce | apply modGroup | split)

theorem handleEditLine {s t : State} (h : Evolves c s t) (k : Link) (line base : Nat) (d : LineChanges) :
    Evolves c s (handleEditLine k line base d t).1 := by
  unfold Machine.handleEditLine
  split
  · exact h
  · rename_i i l hl
    have hl := namedLine_some hl
    split
    · exact h
    · rename_i hr
      have hk : l.copies.get k = .edit := by
        unfold State.editRefused at hr
        dsimp only at hr
        repeat' split at hr
        all_goals first | cases hr; done | (rename_i h3 _ _ _; exact Decidable.not_not.1 h3)
      dsimp only
      repeat' split
      all_goals first
        | exact h.editLine k i l d hl hk
        | exact h.setLine i _ (by rw [hl]; exact .step l _ (.restart l _ k _ hk rfl rfl))

theorem arm {s t : State} (h : Evolves c s t) (hr : c.rearms = true) (l : Lane) (b : Binding) (d : Deck) : Evolves c s (t.arm l b d) := by
  unfold State.arm
  try dsimp only [accept, refuse]
  repeat' with_reducible (first | exact h | exact .inl hr | with_unfolding_all exact .inr fun _ e => e | (refine .inr fun _ e => ?_; cases e; done) | exact dropped_idle | exact finished_final | apply modPdu | apply showBall)

theorem disarm {s t : State} (h : Evolves c s t) (l : Lane) : Evolves c s (t.disarm l) := by
  unfold State.disarm
  repeat' with_reducible (first | exact h | with_unfolding_all exact .inr fun _ e => e | (refine .inr fun _ e => ?_; cases e; done) | exact dropped_idle | exact finished_final | apply modPdu)

theorem rebind {s t : State} (h : Evolves c s t) (l : Lane) (b : Binding) (d : Deck) : Evolves c s (t.rebind l b d) := by
  unfold State.rebind
  repeat' with_reducible (first | exact h | with_unfolding_all exact .inr fun _ e => e | (refine .inr fun _ e => ?_; cases e; done) | exact dropped_idle | exact finished_final | apply modPdu | split)

theorem pduSync {s t : State} (h : Evolves c s t) (hr : c.rearms = true) (l : Lane) : Evolves c s (t.pduSync l) := by
  unfold State.pduSync
  try dsimp only [accept, refuse]
  repeat' with_reducible (first | exact h | exact hr | apply arm | apply disarm | apply rebind | split)

theorem pdusSync {s t : State} (h : Evolves c s t) (hr : c.rearms = true) : Evolves c s (t.pdusSync) := by
  unfold State.pdusSync
  repeat' with_reducible (first | exact h | exact hr | apply pduSync)

theorem publish {s t : State} (h : Evolves c s t) (l : Lane) (b : BallRecord) (kind : BallRecord → Option Mark → Notice) : Evolves c s (t.publish l b kind) := by
  unfold State.publish
  try dsimp only [accept, refuse]
  repeat' with_reducible (first | exact h | with_unfolding_all exact .inr fun _ e => e | (refine .inr fun _ e => ?_; cases e; done) | exact dropped_idle | exact finished_final | apply modPdu | apply broadcast | apply showBall | apply placeBall)

theorem highlightBall {s t : State} (h : Evolves c s t) (l : Lane) (b : BallRecord) : Evolves c s (t.highlightBall l b) := by
  unfold State.highlightBall
  repeat' with_reducible (first | exact h | apply setOneShot | split)

theorem publishFinal {s t : State} (h : Evolves c s t) (l : Lane) (b : BallRecord) : Evolves c s (t.publishFinal l b) := by
  unfold State.publishFinal
  repeat' with_reducible (first | exact h | apply publish | apply highlightBall)

theorem handRecipe {s t : State} (h : Evolves c s t) (l : Lane) (kind : RecipeKind) (target : Deck) :
    Evolves c s (t.handRecipe l kind target) := by
  unfold State.handRecipe
  dsimp only
  split
  · rename_i hs
    exact h.cycleFrom l _ (.inl hs) (.inr (by simp [hs]))
  · rename_i hs
    split
    · exact h.tell _ _
    · rename_i hb
      simp only [Bool.or_eq_true, not_or, Option.not_isSome_iff_eq_none] at hb
      exact h.takeRecipe l _ hs hb.2
  all_goals exact h

theorem finalize {s t : State} (h : Evolves c s t) (l : Lane) (r : BallRecord) : Evolves c s (t.finalize l r) := by
  unfold State.finalize
  try dsimp only [accept, refuse]
  repeat' with_reducible (first | exact h | with_unfolding_all exact .inr fun _ e => e | (refine .inr fun _ e => ?_; cases e; done) | exact dropped_idle | exact finished_final | apply modPdu | apply dropRunNeed | apply advanceFor | apply disarm | apply publishFinal | apply handRecipe | split)

theorem cycleExpires {s t : State} (h : Evolves c s t) (l : Lane) : Evolves c s (t.cycleExpires l) := by
  unfold State.cycleExpires
  try dsimp only [accept, refuse]
  repeat' with_reducible (first | exact h | apply finalize | split)

theorem settle {s t : State} (h : Evolves c s t) (l : Lane) : Evolves c s (t.settle l) := by
  unfold State.settle
  try dsimp only [accept, refuse]
  repeat' with_reducible (first | exact h | with_unfolding_all exact .inr fun _ e => e | (refine .inr fun _ e => ?_; cases e; done) | exact dropped_idle | exact finished_final | apply modPdu | apply publish | apply cycleExpires | split)

theorem settleScan {s t : State} (h : Evolves c s t) (l : Lane) (r : ResultSet) : Evolves c s (t.settleScan l r) := by
  unfold State.settleScan
  try dsimp only [accept, refuse]
  repeat' with_reducible (first | exact h | with_unfolding_all exact .inr fun _ e => e | (refine .inr fun _ e => ?_; cases e; done) | exact dropped_idle | exact finished_final | apply modPdu | apply settle | split)

theorem lateScan {s t : State} (h : Evolves c s t) (l : Lane) (r : ResultSet) : Evolves c s (t.lateScan l r) := by
  unfold State.lateScan
  try dsimp only [accept, refuse]
  repeat' with_reducible (first | exact h | apply publish | split)

theorem pduTakes {s t : State} (h : Evolves c s t) (l : Lane) (r : ResultSet) : Evolves c s (t.pduTakes l r) := by
  unfold State.pduTakes
  try dsimp only [accept, refuse]
  repeat' with_reducible (first | exact h | with_unfolding_all exact .inr fun _ e => e | (refine .inr fun _ e => ?_; cases e; done) | exact dropped_idle | exact finished_final | apply modPdu | apply settleScan | apply lateScan | split)

theorem windowExpires {s t : State} (h : Evolves c s t) (l : Lane) : Evolves c s (t.windowExpires l) := by
  unfold State.windowExpires
  try dsimp only [accept, refuse]
  repeat' with_reducible (first | exact h | apply settle | split)

theorem stallCheck {s t : State} (h : Evolves c s t) (l : Lane) : Evolves c s (t.stallCheck l) := by
  unfold State.stallCheck
  try dsimp only [accept, refuse]
  repeat' with_reducible (first | exact h | with_unfolding_all exact .inr fun _ e => e | (refine .inr fun _ e => ?_; cases e; done) | exact dropped_idle | exact finished_final | apply modPdu | apply broadcast | split)

theorem startRun {s t : State} (h : Evolves c s t) (l : Lane) : Evolves c s (t.startRun l) := by
  unfold State.startRun
  repeat' with_reducible (first | exact h | exact fun _ => rfl | apply modSensing)

theorem raiseRunNeed {s t : State} (h : Evolves c s t) (l : Lane) : Evolves c s (t.raiseRunNeed l) := by
  unfold State.raiseRunNeed
  repeat' with_reducible (first | exact h | exact fun _ => rfl | apply modSensing)

theorem delayOver {s t : State} (h : Evolves c s t) (l : Lane) : Evolves c s (t.delayOver l) := by
  unfold State.delayOver
  try dsimp only [accept, refuse]
  repeat' with_reducible (first | exact h | with_unfolding_all exact .inr fun _ e => e | (refine .inr fun _ e => ?_; cases e; done) | exact dropped_idle | exact finished_final | apply modPdu | apply stallCheck | apply startRun | apply raiseRunNeed)

theorem delayExpires {s t : State} (h : Evolves c s t) (l : Lane) : Evolves c s (t.delayExpires l) := by
  unfold State.delayExpires
  try dsimp only [accept, refuse]
  repeat' with_reducible (first | exact h | apply delayOver | split)

theorem enterDelay {s t : State} (h : Evolves c s t) (l : Lane) : Evolves c s (t.enterDelay l) := by
  unfold State.enterDelay
  try dsimp only [accept, refuse]
  repeat' with_reducible (first | exact h | with_unfolding_all exact .inr fun _ e => e | (refine .inr fun _ e => ?_; cases e; done) | exact dropped_idle | exact finished_final | apply modPdu | apply delayOver | split)

theorem arrive {s t : State} (h : Evolves c s t) (l : Lane) (hr : c.rearms = true ∨ (t.pdu.get l).run ≠ .armed)
    (ha : Given c s ((t.pdu.get l).run = .armed → (t.psc.get l).state = .ready)) : Evolves c s (t.arrive l) := by
  unfold State.arrive
  dsimp only
  split
  · rename_i hp
    have h1 : Evolves c s (t.setMachine l .inPlay) := by
      refine h.setMachine l _ _ _ (h.given₂ l ha fun o k => ?_)
      have k := k hp
      have i := rests o (by simp [k])
      exact ⟨still i.1 i.2.1 i.2.2 (fun e => absurd (o.off e) (by simp [k])) (fun e => absurd (o.checks e) (by simp [k])),
        .inr (.inl (by simp [k])), .inl (hr.resolve_right (not_not_intro hp))⟩
    split
    · refine enterDelay (h1.modPdu l _ (.inr fun _ e => ?_)) l
      unfold Pdu.startGrace at e
      split at e <;> exact e
    · exact h1.modPdu l _ (.inr fun _ e => by cases e)
  · exact h.broadcast _

theorem scanExpires {s t : State} (h : Evolves c s t) (l : Lane) : Evolves c s (t.scanExpires l) := by
  unfold State.scanExpires
  try dsimp only [accept, refuse]
  repeat' with_reducible (first | exact h | with_unfolding_all exact .inr fun _ e => e | (refine .inr fun _ e => ?_; cases e; done) | exact dropped_idle | exact finished_final | apply modPdu | apply raiseRunNeed | split)

theorem graceExpires {s t : State} (h : Evolves c s t) (l : Lane) : Evolves c s (t.graceExpires l) := by
  unfold State.graceExpires
  try dsimp only [accept, refuse]
  repeat' with_reducible (first | exact h | with_unfolding_all exact .inr fun _ e => e | (refine .inr fun _ e => ?_; cases e; done) | exact dropped_idle | exact finished_final | apply modPdu | split)

theorem foulBroken {s t : State} (h : Evolves c s t) (l : Lane) : Evolves c s (t.foulBroken l) := by
  unfold State.foulBroken
  try dsimp only [accept, refuse]
  repeat' with_reducible (first | exact h | with_unfolding_all exact .inr fun _ e => e | (refine .inr fun _ e => ?_; cases e; done) | exact dropped_idle | exact finished_final | apply modPdu | apply publish | split)

theorem dropRun {s t : State} (h : Evolves c s t) (l : Lane) : Evolves c s (t.dropRun l) := by
  unfold State.dropRun
  repeat' with_reducible (first | exact h | with_unfolding_all exact .inr fun _ e => e | (refine .inr fun _ e => ?_; cases e; done) | exact dropped_idle | exact finished_final | apply modPdu | apply dropRunNeed | split)

theorem stopRun {s t : State} (h : Evolves c s t) (l : Lane) : Evolves c s (t.stopRun l) := by
  unfold State.stopRun
  try dsimp only [accept, refuse]
  repeat' with_reducible (first | exact h | apply broadcast | apply showBall | apply removeBall | apply dropRun | split)

theorem closeRun {s t : State} (h : Evolves c s t) (l : Lane) : Evolves c s (t.closeRun l) := by
  unfold State.closeRun
  try dsimp only [accept, refuse]
  repeat' with_reducible (first | exact h | apply advanceFor | apply publishFinal | apply dropRun | split)

theorem setManual {s t : State} (h : Evolves c s t) (l : Lane) : Evolves c s (t.setManual l) := by
  unfold State.setManual
  try dsimp only [accept, refuse]
  repeat' with_reducible (first | exact h | with_unfolding_all exact .inr fun _ e => e | (refine .inr fun _ e => ?_; cases e; done) | exact dropped_idle | exact finished_final | apply modPdu | apply dropRunNeed | split)

theorem handleSetScoringSource {s t : State} (h : Evolves c s t) (lane source : Nat) : Evolves c s (handleSetScoringSource lane source t).1 := by
  unfold Machine.handleSetScoringSource
  try dsimp only [accept, refuse]
  repeat' with_reducible (first | exact h | with_unfolding_all exact .inr fun _ e => e | (refine .inr fun _ e => ?_; cases e; done) | exact dropped_idle | exact finished_final | apply modPdu | apply broadcast | apply setManual | split)

theorem handleManualBall {s t : State} (h : Evolves c s t) (lane count : Nat) (foul : Bool) : Evolves c s (handleManualBall lane count foul t).1 := by
  unfold Machine.handleManualBall
  try dsimp only [accept, refuse]
  repeat' with_reducible (first | exact h | apply finalize | split)

theorem handleArmTest {s t : State} (h : Evolves c s t) (lane pins : Nat) : Evolves c s (handleArmTest lane pins t).1 := by
  unfold Machine.handleArmTest
  try dsimp only [accept, refuse]
  repeat' with_reducible (first | exact h | with_unfolding_all exact .inr fun _ e => e | (refine .inr fun _ e => ?_; cases e; done) | exact dropped_idle | exact finished_final | apply modPdu | apply enterDelay | split)

theorem setHead {s t : State} (h : Evolves c s t) (st : HeadState) : Evolves c s (t.setHead st) := by
  unfold State.setHead
  try dsimp only [accept, refuse]
  repeat' with_reducible (first | exact h | apply modHead | apply broadcast | split)

theorem warmHead {s t : State} (h : Evolves c s t) : Evolves c s (t.warmHead) := by
  unfold State.warmHead
  try dsimp only [accept, refuse]
  repeat' with_reducible (first | exact h | apply modHead | apply setHead | split)

theorem headWake {s t : State} (h : Evolves c s t) : Evolves c s (t.headWake) := by
  unfold State.headWake
  repeat' with_reducible (first | exact h | apply warmHead | split)

theorem headStandby {s t : State} (h : Evolves c s t) : Evolves c s (t.headStandby) := by
  unfold State.headStandby
  repeat' with_reducible (first | exact h | apply setHead | split)

theorem warmExpires {s t : State} (h : Evolves c s t) : Evolves c s (t.warmExpires) := by
  unfold State.warmExpires
  repeat' with_reducible (first | exact h | apply setHead | split)

/-- A result set served to its needs: a waiting check need among them is that of a machine in CHECKING (R16, R60). -/
theorem serve {s t : State} (h : Evolves c s t) (hc : c.checks = true) (l : Lane) (n : Needs) (injected : Bool) (raws : List Nat)
    (hn : n.check = none ∨ n.check = t.checkNeed l) : Evolves c s (t.serve l n injected raws) := by
  have h0 (f : SensingLane → SensingLane)
      (hf : (f (t.sensing.get l)).needs.check = if n.check.isSome then none else (t.sensing.get l).needs.check) :
      Evolves c s (t.modSensing l f) ∧ (n.check.isSome → Given c s (Checked (t.modSensing l f) l)) := by
    have e : (t.modSensing l f).checkNeed l = if n.check.isSome then none else t.checkNeed l := by
      simpa [State.checkNeed] using hf
    refine ⟨h.steer l rfl (fun m hm => ⟨rfl, rfl, by simp [State.checkNeed, PerLane.get_set_of_ne _ hm]⟩)
      (h.given l fun o => ⟨{ o with checks := fun x => o.checks ?_ }, .inl hc, ?_⟩), fun hs => h.given l fun o => ⟨o.checks ?_, ?_⟩⟩
    · rw [e] at x
      split at x
      · exact absurd rfl x
      · exact x
    · cases hr : (t.psc.get l).state <;> simp [hr]
    · rcases hn with e | e <;> rw [e] at hs
      · cases hs
      · exact Option.isSome_iff_ne_none.1 hs
    · rw [e, if_pos hs]
  have h1 {u : State} (hu : Evolves c s u) (r : ResultSet) : Evolves c s (if n.run then u.pduTakes l r else u)
      ∧ (Given c s (Checked u l) → Given c s (Checked (if n.run then u.pduTakes l r else u) l)) := by
    refine ⟨ite (fun _ => hu.pduTakes l r) fun _ => hu, fun hk => ?_⟩
    split
    · cases hd : c.disorder with
      | true => exact .inl hd
      | false =>
        refine .inr fun hs => ?_
        have k := hk.resolve_left (by simp [hd]) hs
        have e := ((Evolves.refl (c := { c with checks := false }) u).pduTakes l r).checking rfl hd (hu.controls hd hs) k.1
        exact ⟨by rw [e.1]; exact k.1, e.2.trans k.2⟩
    · exact hk
  unfold State.serve
  dsimp only
  have h2 := h0 (fun x => { x with
    slots := (readSlots (n.run || n.cont) (t.sensing.get l).slots raws).map (·.1)
      ++ x.slots.drop (readSlots (n.run || n.cont) (t.sensing.get l).slots raws).length
    needs := { run := x.needs.run && !n.run, check := if n.check.isSome then none else x.needs.check
               cont := x.needs.cont && !n.cont } }) rfl
  have h3 := h1 h2.1 (resultSet l injected (readSlots (n.run || n.cont) (t.sensing.get l).slots raws))
  have h4 : ∀ {u : State}, Evolves c s u → Evolves c s (if n.cont then u.tell .service
      (.scanResult (resultSet l injected (readSlots (n.run || n.cont) (t.sensing.get l).slots raws))) else u) :=
    fun hu => ite (fun _ => hu.tell _ _) fun _ => hu
  refine h4 ?_
  split
  · rename_i hx
    exact h3.1.checkAnswer hc l _ _ (h3.2 (h2.2 (by simp [hx])))
  · exact h3.1

theorem deliver {s t : State} (h : Evolves c s t) (hc : c.checks = true) (l : Lane) (injected checkPresent : Bool)
    (raws : List Nat) : Evolves c s (t.deliver l injected checkPresent raws) := by
  unfold State.deliver
  dsimp only
  refine ite (fun _ => h.serve hc l _ _ _ ?_) fun _ => h
  unfold State.servable State.checkNeed
  dsimp only
  split
  · exact .inl rfl
  · exact .inr rfl

theorem fly {s t : State} (h : Evolves c s t) (l : Lane) : Evolves c s (t.fly l) := by
  unfold State.fly
  try dsimp only [accept, refuse]
  repeat' with_reducible (first | exact h | exact fun _ => rfl | apply modSensing)

theorem nextSerial {s t : State} (h : Evolves c s t) : Evolves c s t.nextSerial :=
  h.trans (.other ⟨rfl, rfl, rfl, rfl, rfl, rfl, rfl, rfl, rfl, rfl, fun _ => rfl, id, fun _ _ => id⟩)

theorem requestLane {s t : State} (h : Evolves c s t) (hc : c.checks = true) (l : Lane) : Evolves c s (t.requestLane l) := by
  unfold State.requestLane
  try dsimp only [accept, refuse]
  repeat' with_reducible (first | exact h | exact hc | apply deliver | apply fly | apply nextSerial | split)

theorem requestPair {s t : State} (h : Evolves c s t) (hc : c.checks = true) : Evolves c s (t.requestPair) := by
  unfold State.requestPair
  try dsimp only [accept, refuse]
  repeat' with_reducible (first | exact h | exact hc | apply deliver | apply fly | apply nextSerial | split)

theorem requestScans {s t : State} (h : Evolves c s t) (hc : c.checks = true) : Evolves c s (t.requestScans) := by
  unfold State.requestScans
  repeat' with_reducible (first | exact h | exact hc | apply requestLane | apply requestPair | split)

theorem serveInjection {s t : State} (h : Evolves c s t) (hc : c.checks = true) (l : Lane) : Evolves c s (t.serveInjection l) := by
  unfold State.serveInjection
  try dsimp only [accept, refuse]
  repeat' with_reducible (first | exact h | exact hc | exact fun _ => rfl | apply modSensing | apply deliver | split)

theorem dsuPump {s t : State} (h : Evolves c s t) (hc : c.checks = true) : Evolves c s (t.dsuPump) := by
  unfold State.dsuPump
  repeat' with_reducible (first | exact h | exact hc | apply headWake | apply requestScans | apply serveInjection)

theorem endScan {s t : State} (h : Evolves c s t) (l : Lane) : Evolves c s (t.endScan l) := by
  unfold State.endScan
  repeat' with_reducible (first | exact h | exact fun _ => rfl | apply modSensing)

theorem faultLane {s t : State} (h : Evolves c s t) (l : Lane) : Evolves c s (t.faultLane l) := by
  unfold State.faultLane
  try dsimp only [accept, refuse]
  repeat' with_reducible (first | exact h | exact fun _ => rfl | apply modSensing | apply broadcast | split)

theorem answerFaulted {s t : State} (h : Evolves c s t) (hc : c.checks = true) (l : Lane) : Evolves c s (t.answerFaulted l) := by
  unfold State.answerFaulted
  refine ite (fun hs => (h.withdrawCheck hc l).checkAnswer hc l _ _ (h.given l fun o => ⟨o.checks ?_, ?_⟩)) fun _ => h
  · exact Option.isSome_iff_ne_none.1 hs
  · simp [State.withdrawCheck, State.checkNeed]

theorem failRequest {s t : State} (h : Evolves c s t) (hc : c.checks = true) (request : Nat) : Evolves c s (t.failRequest request) := by
  unfold State.failRequest
  try dsimp only [accept, refuse]
  repeat' with_reducible (first | exact h | exact hc | apply stallCheck | apply faultLane | apply answerFaulted | split)

theorem land {s t : State} (h : Evolves c s t) (hc : c.checks = true) (l : Lane) (scan : Option Scan) (raws : List Nat) : Evolves c s (t.land l scan raws) := by
  unfold State.land
  repeat' with_reducible (first | exact h | exact hc | apply deliver | split)

theorem readout {s t : State} (h : Evolves c s t) (hc : c.checks = true) (request : Nat) (left right : List Nat) : Evolves c s (t.readout request left right) := by
  unfold State.readout
  try dsimp only [accept, refuse]
  repeat' with_reducible (first | exact h | exact hc | apply endScan | apply failRequest | apply land | split)

theorem readoutExpires {s t : State} (h : Evolves c s t) (hc : c.checks = true) (l : Lane) : Evolves c s (t.readoutExpires l) := by
  unfold State.readoutExpires
  repeat' with_reducible (first | exact h | exact hc | apply failRequest | split)

theorem contExpires {s t : State} (h : Evolves c s t) (l : Lane) : Evolves c s (t.contExpires l) := by
  unfold State.contExpires
  repeat' with_reducible (first | exact h | exact fun _ => rfl | apply modSensing | split)

theorem trimInjection {s t : State} (h : Evolves c s t) (l : Lane) : Evolves c s (t.trimInjection l) := by
  unfold State.trimInjection
  try dsimp only [accept, refuse]
  repeat' with_reducible (first | exact h | exact fun _ => rfl | apply modSensing | split)

theorem handleSetSlot {s t : State} (h : Evolves c s t) (slot lane point : Nat) (enabled : Bool) (baseline : Nat) (high low : Int) (wobble : Bool) : Evolves c s (handleSetSlot slot lane point enabled baseline high low wobble t).1 := by
  unfold Machine.handleSetSlot
  try dsimp only [accept, refuse]
  repeat' with_reducible (first | exact h | exact fun _ => rfl | apply modSensing | apply trimInjection | split | apply withSensing)
  rename_i l p _ _ _ _ _ _
  intro m
  unfold State.checkNeed
  by_cases hm : m = l
  · subst hm
    simp [SensingLane.setSlot]
  · rw [PerLane.get_set_of_ne _ hm]

theorem handleSetScanMode {s t : State} (h : Evolves c s t) (mode : Nat) : Evolves c s (handleSetScanMode mode t).1 := by
  unfold Machine.handleSetScanMode
  try dsimp only [accept, refuse]
  repeat' with_reducible (first | exact h | apply modHead | apply trimInjection | split)

theorem handleSetRunMode {s t : State} (h : Evolves c s t) (lane mode : Nat) : Evolves c s (handleSetRunMode lane mode t).1 := by
  unfold Machine.handleSetRunMode
  try dsimp only [accept, refuse]
  repeat' with_reducible (first | exact h | exact fun _ => rfl | apply modSensing | apply endContinuous | apply startRun | split)

theorem handleRestartHead {s t : State} (h : Evolves c s t) : Evolves c s (handleRestartHead t).1 := by
  unfold Machine.handleRestartHead
  try dsimp only [accept, refuse]
  repeat' with_reducible (first | exact h | exact fun _ => rfl | apply modSensing | apply warmHead | split)

theorem handleInjectReadings {s t : State} (h : Evolves c s t) (lane : Nat) (readings : List Nat) : Evolves c s (handleInjectReadings lane readings t).1 := by
  unfold Machine.handleInjectReadings
  try dsimp only [accept, refuse]
  repeat' with_reducible (first | exact h | exact fun _ => rfl | apply modSensing | split)

theorem setOutbound {s t : State} (h : Evolves c s t) (g : Slot) (o : Option Outbound) : Evolves c s (t.setOutbound g o) :=
  h.trans (.other ⟨rfl, rfl, rfl, rfl, rfl, rfl, rfl, rfl, rfl, rfl, fun _ => rfl, id, fun _ _ => id⟩)

theorem revokeClaims {s t : State} (h : Evolves c s t) (order : List LineId) : Evolves c s (order.foldl State.revokeClaim t) :=
  h.trans (foldl (fun u i => (Evolves.refl u).revokeClaim i) _ _)

theorem handleSaveGroup {s t : State} (h : Evolves c s t) (slot : Nat) : Evolves c s (handleSaveGroup slot t).1 := by
  unfold Machine.handleSaveGroup
  dsimp only [refuse]
  repeat' with_reducible (first | exact h | apply broadcast | apply announce | apply revokeClaims | apply setOutbound | apply modGroup | split)

theorem sendPart {s t : State} (h : Evolves c s t) (g : Slot) (o : Outbound) (sent : Nat) : Evolves c s (t.sendPart g o sent).1 := by
  unfold State.sendPart
  try dsimp only [accept, refuse]
  repeat' with_reducible (first | exact h | apply modGroup | apply broadcast | apply announce | apply setOutbound | split)

theorem handleSavePart {s t : State} (h : Evolves c s t) (slot : Nat) (restart : Bool) : Evolves c s (handleSavePart slot restart t).1 := by
  unfold Machine.handleSavePart
  try dsimp only [accept, refuse]
  repeat' with_reducible (first | exact h | apply sendPart | split)

theorem abandonLoad {s t : State} (h : Evolves c s t) (reason : AbandonReason) : Evolves c s (t.abandonLoad reason) := by
  unfold State.abandonLoad
  repeat' with_reducible (first | exact h | apply broadcast | split | apply withStaging)

theorem handleLoadBegin {s t : State} (h : Evolves c s t) (id slot lane count : Nat) : Evolves c s (handleLoadBegin id slot lane count t).1 := by
  unfold Machine.handleLoadBegin
  try dsimp only [accept, refuse]
  repeat' with_reducible (first | exact h | apply broadcast | split | apply withStaging)

theorem handleLoadPart {s t : State} (h : Evolves c s t) (id : Nat) (entries : List EntryContent) : Evolves c s (handleLoadPart id entries t).1 := by
  unfold Machine.handleLoadPart
  try dsimp only [accept, refuse]
  repeat' with_reducible (first | exact h | apply abandonLoad | split | apply withStaging)

theorem gapExpires {s t : State} (h : Evolves c s t) : Evolves c s (t.gapExpires) := by
  unfold State.gapExpires
  repeat' with_reducible (first | exact h | apply abandonLoad | split)

theorem loadLines_fresh (g : Slot) (home : Lane) (game : Option Nat) (ids : List LineId) (es : List EntryContent) :
    ∀ e ∈ loadLines g home game ids es, e.2.copies = ⟨.none, .none, .none⟩ ∧ e.2.claimTimer = none := by
  induction ids generalizing es with
  | nil => intro e he; simp [loadLines] at he
  | cons i ids ih =>
    intro e he
    unfold loadLines at he
    split at he
    · rename_i heq
      cases heq
      cases he with
      | head => exact ⟨rfl, rfl⟩
      | tail _ he => exact ih _ e he
    · cases he

theorem commit {s t : State} (h : Evolves c s t) (x : Staging) (d : LoadHeader) : Evolves c s (t.commit x d).1 := by
  have h0 := (h.withStaging none none).addLines
    ((loadLines x.slot x.lane d.game t.freeLines (x.entries.drop 1)).map fun e => (e.1, computeLine t.handicap e.2)) (by
      intro e he
      obtain ⟨a, ha, rfl⟩ := List.mem_map.1 he
      exact loadLines_fresh _ _ _ _ _ a ha)
  unfold State.commit
  dsimp only
  repeat' with_reducible (first | exact h0 | apply broadcast | apply announce | apply askLane | apply refreshTotals | apply modGroup | split)

theorem handleLoadEnd {s t : State} (h : Evolves c s t) (id : Nat) (entries : List EntryContent) :
    Evolves c s (handleLoadEnd id entries t).1 := by
  unfold Machine.handleLoadEnd
  dsimp only [refuse]
  repeat' with_reducible (first | exact h | apply abandonLoad | apply commit | split)

theorem unfreeze {s t : State} (h : Evolves c s t) (g : Slot) : Evolves c s (t.unfreeze g) := by
  unfold State.unfreeze
  try dsimp only [accept, refuse]
  repeat' with_reducible (first | exact h | apply modGroup | apply broadcast | apply announce | apply setOutbound)

theorem handleResumeGroup {s t : State} (h : Evolves c s t) (slot : Nat) : Evolves c s (handleResumeGroup slot t).1 := by
  unfold Machine.handleResumeGroup
  try dsimp only [accept, refuse]
  repeat' with_reducible (first | exact h | apply unfreeze | split)

theorem handleReleaseMoved {s t : State} (h : Evolves c s t) (slot : Nat) : Evolves c s (handleReleaseMoved slot t).1 := by
  unfold Machine.handleReleaseMoved
  try dsimp only [accept, refuse]
  repeat' with_reducible (first | exact h | apply broadcast | apply announce | apply dropHighlights | apply setOutbound | apply modGroup | apply removeLines | apply releaseLanes | split)

theorem unfreezeMoving {s t : State} (h : Evolves c s t) (g : Slot) : Evolves c s (t.unfreezeMoving g) := by
  unfold State.unfreezeMoving
  repeat' with_reducible (first | exact h | apply unfreeze | split)

theorem deskReset {s t : State} (h : Evolves c s t) : Evolves c s (t.deskReset) := by
  unfold State.deskReset
  repeat' with_reducible (first | exact h | apply abandonLoad | apply unfreezeMoving)

theorem setLaneNumber {s t : State} (h : Evolves c s t) (value : Nat) : Evolves c s (setLaneNumber value t).1 := by
  unfold Machine.setLaneNumber
  dsimp only [refuse]
  repeat' split
  · exact h
  · exact h
  · exact h.others ⟨rfl, rfl, rfl, rfl, rfl, rfl, rfl, rfl, rfl, rfl, fun _ => rfl, id, fun _ _ => id⟩

theorem setRackCapacity {s t : State} (h : Evolves c s t) (value : Nat) : Evolves c s (setRackCapacity value t).1 := by
  unfold Machine.setRackCapacity
  dsimp only [refuse]
  split
  · exact h
  · rename_i h1
    split
    · exact h
    · rename_i h2
      simp only [Bool.not_eq_true', Bool.not_eq_false, Bool.and_eq_true, decide_eq_true_eq] at h1
      exact (h.trans (.capacity t { t.settings with rackCapacity := value } (by simpa using Nat.le_of_not_lt h2) h1.1 h1.2)).rackMoved _

theorem plainItem_capacity {t : Settings} {item value : Nat} {k : Option StepKind} {x : PlainItem}
    (h : plainItem t item value k = some x) : x.after.rackCapacity = t.rackCapacity := by
  unfold plainItem at h
  repeat' split at h
  all_goals first | cases h; rfl | cases h

theorem handleSetConfig {s t : State} (h : Evolves c s t) (item value : Nat) (step : Option Nat) :
    Evolves c s (handleSetConfig item value step t).1 := by
  unfold Machine.handleSetConfig
  dsimp only [refuse]
  split
  · exact h.setLaneNumber value
  · split
    · exact h.setRackCapacity value
    · split
      · exact h
      · rename_i x hx
        split
        · exact h.others ⟨rfl, rfl, rfl, rfl, rfl, plainItem_capacity hx, rfl, rfl, rfl, rfl, fun _ => rfl, id, fun _ _ => id⟩
        · exact h

theorem setHead_control (t : State) (st : HeadState) : KeepsControl t (t.setHead st) := by
  unfold State.setHead
  dsimp only
  split
  · exact (same t).next rfl rfl rfl
  · exact KeepsControl.broadcast ((same t).next rfl rfl rfl) (.headState st)

theorem handleConfigDone {s t : State} (h : Evolves c s t) : Evolves c s (handleConfigDone t).1 := by
  unfold Machine.handleConfigDone
  dsimp only [accept, refuse]
  split
  · exact h
  · split
    · exact h
    · rename_i hu
      have ho (l : Lane) : Given c s ((t.psc.get l).state = .off) := h.given l fun o => o.off (by simpa using hu)
      have step {v : State} (hv : Evolves c s v) (l : Lane) (he : v.psc.get l = t.psc.get l) (hf : v.configured = true) :
          Evolves c s (v.setMachine l .standby) := by
        refine hv.setMachine l _ _ _ (hv.given₂ l (ho l) fun o k => ?_)
        rw [← he] at k
        have i := rests o (by simp [k])
        exact ⟨still i.1 i.2.1 i.2.2 (fun e => absurd (hf.symm.trans e) (by simp)) (fun e => absurd (o.checks e) (by simp [k])),
          .inr (.inl (by simp [k])), .inr (.inl (by simp [k]))⟩
      have both {u : State} (hv : Evolves c s u) (he : u.psc = t.psc) (hf : u.configured = true) :
          Evolves c s (((u.setMachine .left .standby).setMachine .right .standby).bannersEval.headWake) := by
        have h1 := step hv .left (by rw [he]) hf
        refine headWake (bannersEval (step h1 .right ?_ ?_))
        · rw [setMachine_psc, if_neg (by decide), he]
        · exact (setMachine_control u .left .standby none none).2.2.trans hf
      split
      · have k := setHead_control { t with configured := true } .standby
        exact both (h.withConfigured.setHead _) k.1 k.2.2
      · exact both h.withConfigured rfl rfl

theorem open_pause (x : Session) (m : BillingMode) (a b f d : Bool) (o : OverflowMode) (n : Nat) (w : Option Nat) :
    PauseStep x (x.open m a b f d o n w) := by
  cases m <;> exact .kept _ _ rfl rfl

theorem extend_pause (x : Session) (m : BillingMode) (n : Nat) : PauseStep x (x.extend m n) := by
  cases m <;> exact .kept _ _ rfl rfl

theorem extend_meter (x : Session) (m : BillingMode) (n : Nat) : MeterStep x.meter (x.extend m n).meter := by
  cases m <;> exact .same _

theorem handleOpenSession {s t : State} (h : Evolves c s t) (lane mode : Nat) (league autoNext foulDetect meterDisplay : Bool)
    (overflow allowance : Nat) :
    Evolves c s (handleOpenSession lane mode league autoNext foulDetect meterDisplay overflow allowance t).1 := by
  unfold Machine.handleOpenSession
  dsimp only [accept, refuse]
  repeat' with_reducible (first | exact h | apply startMachine | apply leavePause | decide | apply modSession | split)
  · exact fun _ => .zero _
  · exact fun _ => open_pause ..

theorem handleUnlock {s t : State} (h : Evolves c s t) (lane mode allowance : Nat) :
    Evolves c s (handleUnlock lane mode allowance t).1 := by
  unfold Machine.handleUnlock
  dsimp only [accept, refuse]
  repeat' with_reducible (first | exact h | apply pauseEval | apply startMachine | apply leavePause | decide | apply modSession | split)
  · exact fun _ => extend_meter ..
  · exact fun _ => extend_pause ..

theorem closeAfterGame {s t : State} (h : Evolves c s t) (l : Lane) : Evolves c s (closeAfterGame l t).1 := by
  unfold Machine.closeAfterGame
  try dsimp only [accept, refuse]
  repeat' with_reducible (first | exact h | apply leavePause | decide | apply closeSession | split)

theorem closeNow {s t : State} (h : Evolves c s t) (hc : c.checks = true) (hr : c.rearms = true) (l : Lane) : Evolves c s (closeNow l t).1 := by
  unfold Machine.closeNow
  try dsimp only [accept, refuse]
  repeat' with_reducible (first | exact h | exact hc | exact hr | apply closeSession | apply pscCloseNow | apply gtCloseNow | apply closeRun)

theorem handleCloseSession {s t : State} (h : Evolves c s t) (hc : c.checks = true) (hr : c.rearms = true) (lane manner : Nat) : Evolves c s (handleCloseSession lane manner t).1 := by
  unfold Machine.handleCloseSession
  try dsimp only [accept, refuse]
  repeat' with_reducible (first | exact h | exact hc | exact hr | apply closeAfterGame | apply closeNow | split)

theorem clearSession {s t : State} (h : Evolves c s t) (l : Lane) : Evolves c s (t.clearSession l) := by
  unfold State.clearSession
  repeat' with_reducible (first | exact h | apply closeSession | split)

theorem clearTables {s t : State} (h : Evolves c s t) : Evolves c s t.clearTables :=
  (((h.trans (.lines t (Vector.replicate 16 none) fun i => by
    have e : (Vector.replicate 16 (none : Option Line)).get i = none := by simp [Vector.get]
    rw [e]
    exact .gone _)).trans (.empty _)).others ⟨rfl, rfl, rfl, rfl, rfl, rfl, rfl, rfl, rfl, rfl, fun _ => rfl, id, fun _ _ => id⟩)

theorem clearFeed {s t : State} (h : Evolves c s t) (l : Lane) : Evolves c s (t.clearFeed l) := h.modFeed l _ fun x => .clear x _ _

theorem clearSensing {s t : State} (h : Evolves c s t) (hc : c.checks = true) (l : Lane) :
    Evolves c s (t.modSensing l SensingLane.clear) := by
  refine h.steer l rfl (fun m hm => ⟨rfl, rfl, by simp [State.checkNeed, PerLane.get_set_of_ne _ hm]⟩)
    (h.given l fun o => ⟨{ o with checks := fun e => ?_ }, .inl hc, ?_⟩)
  · exact absurd (by simp [State.checkNeed, SensingLane.clear]) e
  · cases hr : (t.psc.get l).state <;> simp [hr]

theorem handlePairClear {s t : State} (h : Evolves c s t) (hc : c.checks = true) (hr : c.rearms = true) :
    Evolves c s (handlePairClear t).1 := by
  unfold Machine.handlePairClear
  dsimp only
  repeat' with_reducible (first | exact h | exact hc | exact hr | apply clearSensing | apply pscClear | apply dropRun | apply abandonLoad | apply clearSession | apply clearTables | apply clearFeed)

theorem stopDeck {s t : State} (h : Evolves c s t) (l : Lane) : Evolves c s (t.stopDeck l) := by
  unfold State.stopDeck
  exact (h.stopRun l).modPdu l _ (.inr fun _ => id)

theorem KeepsControl.dropRun {s t : State} (h : KeepsControl s t) (l : Lane) : KeepsControl s (t.dropRun l) := by
  unfold State.dropRun
  repeat' with_reducible (first | exact h | apply KeepsControl.modPdu | apply KeepsControl.dropRunNeed | split)

theorem KeepsControl.removeBall {s t : State} (h : KeepsControl s t) (b : BallRecord) : KeepsControl s (t.removeBall b) := by
  unfold State.removeBall State.changeLine
  repeat' with_reducible (first | exact h | exact h.next rfl rfl rfl | split)

theorem KeepsControl.showBall {s t : State} (h : KeepsControl s t) (l : Lane) (b : Option BallRecord) :
    KeepsControl s (t.showBall l b) :=
  h.next (by simp [State.showBall]) (by simp [State.showBall]) (by simp [State.showBall])

theorem stopDeck_control (t : State) (l : Lane) : KeepsControl t (t.stopDeck l) := by
  unfold State.stopDeck State.stopRun
  dsimp only
  refine KeepsControl.modPdu ?_ l _
  repeat' split
  · exact (same t).dropRun l
  · exact ((((same t).removeBall _).broadcast _).showBall l none).dropRun l
  · exact (same t).dropRun l

theorem serviceStop {s t : State} (h : Evolves c s t) (hc : c.checks = true) (hr : c.rearms = true) (l : Lane)
    (hs : (t.psc.get l).state ≠ .off) : Evolves c s (t.serviceStop l) := by
  have h1 : Evolves c s ((((t.modPsc l fun p => { p.emptied with
      attempts := 0, closingOwed := false, windingDown := false, startTimer := none }).setHold l false).withdrawCheck l).stopDeck l) := by
    refine stopDeck (withdrawCheck (h.setsHold l _ false (h.given l fun o => ⟨still rfl rfl rfl o.off o.checks, .inl hc, .inl hr⟩)) hc l) l
  unfold State.serviceStop
  dsimp only
  refine h1.setMachine l _ _ _ (h1.given l fun o => ?_)
  have e := stopDeck_control (((t.modPsc l fun p => { p.emptied with
      attempts := 0, closingOwed := false, windingDown := false, startTimer := none }).setHold l false).withdrawCheck l) l
  have e1 : ((((t.modPsc l fun p => { p.emptied with
      attempts := 0, closingOwed := false, windingDown := false, startTimer := none }).setHold l false).withdrawCheck l).stopDeck
        l).psc.get l = { (t.psc.get l).emptied with
          attempts := 0, closingOwed := false, windingDown := false, startTimer := none, pitHold := false } := by
    rw [e.1]
    simp [State.withdrawCheck, State.setHold]
  have e2 : ((((t.modPsc l fun p => { p.emptied with
      attempts := 0, closingOwed := false, windingDown := false, startTimer := none }).setHold l false).withdrawCheck l).stopDeck
        l).checkNeed l = none := by
    rw [e.2.1]
    simp [State.withdrawCheck, State.checkNeed]
  refine ⟨still (by rw [e1]; rfl) (by rw [e1]; rfl) (o.told.trans (by rw [e1])) (fun x => absurd (o.off x) ?_) (fun x => absurd e2 x),
    .inl hc, .inl hr⟩
  rw [e1]
  exact hs

theorem handleStopMachine {s t : State} (h : Evolves c s t) (hc : c.checks = true) (hr : c.rearms = true) (lane : Nat) :
    Evolves c s (handleStopMachine lane t).1 := by
  unfold Machine.handleStopMachine
  dsimp only [accept, refuse]
  split
  · exact h
  · split
    all_goals first
      | exact h
      | (rename_i hs; exact h.serviceStop hc hr _ (by rw [hs]; simp))

theorem handleClearFault {s t : State} (h : Evolves c s t) (lane : Nat) : Evolves c s (handleClearFault lane t).1 := by
  unfold Machine.handleClearFault
  dsimp only [accept, refuse]
  split
  · exact h
  · rename_i l _
    split
    · rename_i hs
      have h1 := h.stopDeck l
      have e := congrArg (fun p : PerLane Pinsetter => p.get l) (stopDeck_control t l).1
      have hs : ((t.stopDeck l).psc.get l).state = .fault := (congrArg Pinsetter.state e).trans hs
      refine h1.setMachine l _ _ _ (h1.given l fun o => ?_)
      have i := rests o (by simp [hs])
      exact ⟨still i.1 i.2.1 i.2.2 (fun x => absurd (o.off x) (by simp [hs])) (fun x => absurd (o.checks x) (by simp [hs])),
        .inr (.inl (by simp [hs])), .inr (.inl (by simp [hs]))⟩
    · exact h

theorem handleSetHighlight {s t : State} (h : Evolves c s t) (lane : Nat) (positions : List Nat) :
    Evolves c s (handleSetHighlight lane positions t).1 := by
  unfold Machine.handleSetHighlight
  try dsimp only [accept, refuse]
  repeat' with_reducible (first | exact h | exact .highlights _ _ | intro _ | apply markFeed | apply modFeed | split)

/-- The requests that may take a machine out of READY; the end of their event arms the PDUs anew. -/
def leavesReady : Request → Bool
  | .pairClear | .closeSession .. | .reRack _ | .stopMachine _ => true
  | _ => false

/-- The owning block of a request, but for set-mask, which sets a mask and touches nothing else. -/
theorem handle {s t : State} (h : Evolves c s t) (hc : c.checks = true) (ht : c.returns = true) (k : Link) (r : Request)
    (hr : c.rearms = true ∨ leavesReady r = false) (hm : ∀ m, r ≠ .setMask m) : Evolves c s (handle k r t).1 := by
  cases r with
  | setMask m => exact absurd rfl (hm m)
  | _ =>
    dsimp only [Machine.handle, reading, accept]
    first
      | exact h
      | with_reducible first
        | apply handleReadLine h
        | apply handleClaimLine h
        | apply handleReleaseLine h
        | apply handleCorrectBall h
        | apply handleApprove h
        | apply handleDeny h
        | apply handleSetHandicap h
        | apply handleSetTime h
        | apply handleSetRates h
        | apply handleSetSessionFlags h
        | exact handleReRack h (hr.resolve_right (by simp [leavesReady])) _
        | apply handleIssueStep h
        | exact handleResumeMachine h hc _ _
        | exact handleClearReturn h ht _ _ _ _
        | apply handleCreateGroup h
        | apply handleDismissGroup h
        | apply handleAddBowler h
        | apply handleSetPlayMode h
        | apply handleNewGame h
        | apply handleMoveGroup h
        | apply handleEditLine h
        | apply handleSetScoringSource h
        | apply handleManualBall h
        | apply handleArmTest h
        | apply handleSetSlot h
        | apply handleSetScanMode h
        | apply handleSetRunMode h
        | apply handleRestartHead h
        | apply handleInjectReadings h
        | apply handleSaveGroup h
        | apply handleSavePart h
        | apply handleLoadBegin h
        | apply handleLoadPart h
        | apply handleLoadEnd h
        | apply handleResumeGroup h
        | apply handleReleaseMoved h
        | apply handleSetConfig h
        | apply handleConfigDone h
        | apply handleOpenSession h
        | apply handleUnlock h
        | exact handleCloseSession h hc (hr.resolve_right (by simp [leavesReady])) _ _
        | exact handlePairClear h hc (hr.resolve_right (by simp [leavesReady]))
        | exact handleStopMachine h hc (hr.resolve_right (by simp [leavesReady])) _
        | apply handleClearFault h
        | apply handleSetHighlight h

theorem finishLines {s t : State} (h : Evolves c s t) : Evolves c s (t.finishLines) := by
  unfold State.finishLines
  repeat' with_reducible (first | exact h | apply feedLoads | apply flushLines)

theorem finish {s t : State} (h : Evolves c s t) (hc : c.checks = true) (ht : c.returns = true) (hr : c.rearms = true) : Evolves c s (t.finish) := by
  unfold State.finish
  repeat' with_reducible (first | exact h | exact hc | exact ht | exact hr | apply bannersEval | apply sessionsFollow | apply machinesStandby | apply returnPump | apply pdusSync | apply headStandby | apply dsuPump | apply finishLines)

theorem finishReturn {s t : State} (h : Evolves c s t) (ht : c.returns = true) : Evolves c s (t.finishReturn) := by
  unfold State.finishReturn
  repeat' with_reducible (first | exact h | exact ht | apply feedLoads | apply returnPump)

theorem finishRequest {s t : State} (h : Evolves c s t) (hc : c.checks = true) (ht : c.returns = true) (hr : c.rearms = true) (r : Request) : Evolves c s (finishRequest r t) := by
  unfold Machine.finishRequest
  repeat' with_reducible (first | exact h | exact h.finishReturn ht | exact h.feedLoads | exact h.finishLines | exact h.finish hc ht hr | split)

theorem finishStep {s t : State} (h : Evolves c s t) (hc : c.checks = true) (ht : c.returns = true) (hr : c.rearms = true) (before : State) (l : Lane) : Evolves c s (t.finishStep before l) := by
  unfold State.finishStep
  repeat' with_reducible (first | exact h | exact hc | exact ht | exact hr | apply finish | split)

theorem finishDone {s t : State} (h : Evolves c s t) (hc : c.checks = true) (ht : c.returns = true) (hr : c.rearms = true) (before : State) (l : Lane) : Evolves c s (t.finishDone before l) := by
  unfold State.finishDone
  repeat' with_reducible (first | exact h | exact hc | exact ht | exact hr | apply finish | split)

theorem finishArrival {s t : State} (h : Evolves c s t) (hc : c.checks = true) (ht : c.returns = true) (hr : c.rearms = true) (before : State) (l : Lane) : Evolves c s (t.finishArrival before l) := by
  unfold State.finishArrival
  repeat' with_reducible (first | exact h | exact hc | exact ht | exact hr | apply finish | split)

theorem finishPit {s t : State} (h : Evolves c s t) (hc : c.checks = true) (ht : c.returns = true) (hr : c.rearms = true) (before : State) : Evolves c s (t.finishPit before) := by
  unfold State.finishPit
  repeat' with_reducible (first | exact h | exact hc | exact ht | exact hr | apply finish | apply finishReturn | split)

theorem claimExpiry {s t : State} (h : Evolves c s t) (line : Nat) : Evolves c s (t.claimExpiry line) := by
  unfold State.claimExpiry
  repeat' with_reducible (first | exact h | apply claimExpires | split)

theorem minuteExpires {s t : State} (h : Evolves c s t) : Evolves c s (t.minuteExpires) := by
  unfold State.minuteExpires
  repeat' with_reducible (first | exact h | apply tick | split)

theorem pullRow {s t : State} (h : Evolves c s t) (l : Lane) : Evolves c s (t.pullRow l) := h.modFeed l _ fun x => .pull x

end Sys2Proof.Machine.Evolves
end

