-- ==== Sys2Proof/Laws/Events.lean ====
section
/-! SUPPORT. What a whole command can do: but for POWER_ON, it is a chain of the steps of `Evolves` and of changes of link
ports. -/
namespace Sys2Proof.Machine

/-- A notice queue only grows at its end while an event runs. -/
theorem Evolves.notices {c : Scope} {s t : State} (h : Evolves c s t) (k : Link) :
    ∃ new, (t.port k).notices = (s.port k).notices ++ new := by
  induction h with
  | trans _ _ h h' =>
    obtain ⟨a, ha⟩ := h
    obtain ⟨b, hb⟩ := h'
    exact ⟨a ++ b, by rw [hb, ha, List.append_assoc]⟩
  | other h => exact ⟨[], by simp [State.port, h.ports]⟩
  | control _ hu _ ih =>
    obtain ⟨a, ha⟩ := ih
    have e := (congrArg State.ports hu :)
    exact ⟨a, by rw [← ha]; simp only [State.port]; rw [e]⟩
  | offer s j n =>
    by_cases hk : k = j
    · subst hk
      simp only [State.tell, State.port_modPort, Port.offer]
      split
      · exact ⟨_, rfl⟩
      · exact ⟨[], by simp⟩
    · exact ⟨[], by simp [State.tell, State.port_modPort_of_ne _ hk]⟩
  | refl | feed | session | ret | capacity | lines | fewer | empty | overwrite | append => exact ⟨[], by simp [State.port, State.modFeed, State.modSession, State.modReturn]⟩

/-- A notice queue that holds at most 16 notices still does after an event (R190). -/
theorem Evolves.notices_le {c : Scope} {s t : State} (h : Evolves c s t) (k : Link) (hs : (s.port k).notices.length ≤ 16) :
    (t.port k).notices.length ≤ 16 := by
  induction h with
  | trans _ _ h h' => exact h' (h hs)
  | other h => simpa [State.port, h.ports] using hs
  | control _ hu _ ih =>
    have e := (congrArg State.ports hu :)
    have i := ih hs
    simp only [State.port] at i ⊢
    rw [e]
    exact i
  | offer s j n =>
    by_cases hk : k = j
    · subst hk
      simp only [State.tell, State.port_modPort, Port.offer]
      split
      · simp
        omega
      · exact hs
    · simpa [State.tell, State.port_modPort_of_ne _ hk] using hs
  | refl | feed | session | ret | capacity | lines | fewer | empty | overwrite | append => exact hs

/-! ### The links -/

/-- A relation between states that the links cannot break: chains of it, changes of a port, served requests, and what a link
reset does behind the ports all belong to it. -/
structure Linked (R : State → State → Prop) : Prop where
  refl  (s : State) : R s s
  trans {s t u : State} : R s t → R t u → R s u
  port  (s : State) (k : Link) (f : Port → Port) : R s (s.modPort k f)
  serve (s : State) (k : Link) (r : Request) : R s (finishRequest r (handle k r s).1)
  ties  (s : State) (k : Link) : R s (s.linkTies k)

namespace Linked

variable {R : State → State → Prop}

theorem modPort (L : Linked R) {s t : State} (h : R s t) (k : Link) (f : Port → Port) : R s (t.modPort k f) :=
  L.trans h (L.port t k f)

theorem pump (L : Linked R) {s t : State} (h : R s t) : R s t.pump :=
  L.modPort (L.modPort (L.modPort h .desk Port.pump) .service Port.pump) .console Port.pump

theorem answer (L : Linked R) {s t : State} (h : R s t) (k : Link) (q : Queued) : R s (t.answer k q).1 := by
  unfold State.answer
  dsimp only [refuse]
  repeat' with_reducible (first | exact h | split)
  exact L.trans h (L.serve t k _)

theorem serveFront (L : Linked R) {s t : State} (h : R s t) (k : Link) : R s (t.serveFront k) := by
  unfold State.serveFront
  split
  · exact h
  · exact L.modPort (L.answer h k _) k _

theorem resetLink (L : Linked R) {s t : State} (h : R s t) (k : Link) : R s (t.resetLink k) :=
  L.trans (L.modPort h k _) (L.ties _ k)

theorem takeRequest (L : Linked R) {s t : State} (h : R s t) (k : Link) (q : Queued) : R s (t.takeRequest k q) := by
  unfold State.takeRequest State.resetByRequest
  dsimp only
  repeat' with_reducible (first | exact h | exact L.modPort (L.resetLink h k) k _ | exact L.serveFront (L.modPort h k _) k | exact L.modPort h k _ | split)

theorem request (L : Linked R) {s t : State} (h : R s t) (k : Link) (tag : Tag) (r : Request) : R s (t.request k tag r) :=
  L.pump (L.takeRequest h k _)

theorem receive (L : Linked R) {s t : State} (h : R s t) (k : Link) (lenHi lenLo kind tag : Byte) (body : List Byte)
    (check : Byte) : R s (t.receive k lenHi lenLo kind tag body check) := by
  unfold State.receive
  repeat' with_reducible (first | exact h | exact L.takeRequest h k _ | exact L.modPort h k _ | split)

theorem transmitted (L : Linked R) {s t : State} (h : R s t) (k : Link) : R s (t.transmitted k) := by
  unfold State.transmitted
  dsimp only
  repeat' with_reducible (first | exact h | exact L.serveFront (L.modPort h k _) k | exact L.modPort h k _ | split)

theorem frameGap (L : Linked R) {s t : State} (h : R s t) (k : Link) : R s (t.frameGap k) := by
  unfold State.frameGap
  split
  · exact h
  · exact L.modPort h k _

theorem breakBegins (L : Linked R) {s t : State} (h : R s t) (k : Link) : R s (t.breakBegins k) := by
  unfold State.breakBegins
  split
  · exact h
  · exact L.resetLink (L.modPort h k _) k

end Linked

/-- A chain of the steps of `Evolves` and of changes of link ports. -/
inductive Event : State → State → Prop
  | evolves {s t : State} (h : Evolves .all s t) : Event s t
  | port (s : State) (k : Link) (f : Port → Port) : Event s (s.modPort k f)
  | trans {s t u : State} (h : Event s t) (h' : Event t u) : Event s u

namespace Event

theorem modPort {s t : State} (h : Event s t) (k : Link) (f : Port → Port) : Event s (t.modPort k f) := h.trans (.port t k f)

theorem served {s t : State} (h : Event s t) (k : Link) (r : Request) : Event s (finishRequest r (Machine.handle k r t).1) := by
  cases r with
  | setMask m => exact h.modPort k fun p => { p with mask := m }
  | _ => exact h.trans (.evolves (((Evolves.refl t).handle rfl rfl k _ (.inl rfl) (fun m hm => by cases hm)).finishRequest rfl rfl rfl _))

theorem linkTies {s t : State} (h : Event s t) (k : Link) : Event s (t.linkTies k) := by
  refine h.trans (.evolves ?_)
  unfold State.linkTies
  have h0 := (Evolves.refl (c := .all) t).forgetLink k
  cases k with
  | desk => exact h0.deskReset.finish rfl rfl rfl
  | service => exact ((h0.endContinuous .left).endContinuous .right).headStandby
  | console => exact h0

theorem linked : Linked Event where
  refl s := .evolves (.refl s)
  trans := .trans
  port := .port
  serve s := (Event.evolves (.refl s)).served
  ties s := (Event.evolves (.refl s)).linkTies

theorem pump {s t : State} (h : Evolves .all s t) : Event s t.pump := linked.pump (.evolves h)

end Event

/-- Every command but POWER_ON is such a chain. -/
theorem exec_event {i : Instr} {s t : State} (h : exec i s = .next t) (hp : i ≠ .powerOn) : Event s t := by
  have r := Evolves.refl (c := .all) s
  have e : Event s s := .evolves r
  have L := Event.linked
  cases i with
  | powerOn => exact absurd rfl hp
  | frameReceived k a b c d body f => cases h; exact L.pump (L.receive e k a b c d body f)
  | frameGapTimeout k => cases h; exact L.pump (L.frameGap e k)
  | transmitComplete k => cases h; exact L.pump (L.transmitted e k)
  | breakBegin k => cases h; exact L.pump (L.breakBegins e k)
  | breakEnd k => cases h; exact L.pump (L.modPort e k _)
  | readout n a b => cases h; exact Event.pump ((r.readout rfl n a b).finish rfl rfl rfl)
  | readoutTimeout l => cases h; exact Event.pump ((r.readoutExpires rfl l).finish rfl rfl rfl)
  | warmUpExpiry => cases h; exact Event.pump (r.warmExpires.finish rfl rfl rfl)
  | continuousScanExpiry l => cases h; exact Event.pump ((r.contExpires l).finish rfl rfl rfl)
  | arrival l => cases h; exact Event.pump ((r.arrive l (.inl rfl) (.inl rfl)).finishArrival rfl rfl rfl s l)
  | foulBreak l => cases h; exact Event.pump (r.foulBroken l).finishLines
  | pinActionDelayExpiry l => cases h; exact Event.pump ((r.delayExpires l).finish rfl rfl rfl)
  | scanTimerExpiry l => cases h; exact Event.pump ((r.scanExpires l).finish rfl rfl rfl)
  | settleWindowExpiry l => cases h; exact Event.pump ((r.windowExpires l).finish rfl rfl rfl)
  | foulGraceExpiry l => cases h; exact Event.pump (r.graceExpires l)
  | cycleDelayExpiry l => cases h; exact Event.pump ((r.cycleExpires l).finish rfl rfl rfl)
  | startTimerExpiry l => cases h; exact Event.pump (r.startExpires l).feedLoads
  | done l => cases h; exact Event.pump ((r.completeDone rfl l).finishDone rfl rfl rfl s l)
  | redo l => cases h; exact Event.pump ((r.completeRedo rfl l).finishStep rfl rfl rfl s l)
  | faultCompletion l c => cases h; exact Event.pump ((r.completeFault rfl l (causeOf c)).finishStep rfl rfl rfl s l)
  | stepTimerExpiry l => cases h; exact Event.pump ((r.stepExpires rfl l).finishStep rfl rfl rfl s l)
  | pitDetector l => cases h; exact Event.pump ((r.pitEvent rfl l).finishPit rfl rfl rfl s)
  | liftTopSensor => cases h; exact Event.pump (r.liftTop.finishReturn rfl)
  | rackTake => cases h; exact Event.pump (r.rackTaken.finishReturn rfl)
  | carryTimerExpiry => cases h; exact Event.pump ((r.carryExpires rfl).finishPit rfl rfl rfl s)
  | claimTimerExpiry n => cases h; exact Event.pump (r.claimExpiry n)
  | minuteTimerExpiry => cases h; exact Event.pump (r.minuteExpires.finish rfl rfl rfl)
  | gapTimerExpiry => cases h; exact Event.pump r.gapExpires
  | rowPull l => cases h; exact Event.pump (r.pullRow l).feedLoads
  | _ => cases h; exact L.request e _ _ _

/-! ### The order of the lanes' control -/

/-- Both orders of a lane's control are kept. -/
def Ordered (s t : State) : Prop := ControlsOk s ∧ ArmedOk s → ControlsOk t ∧ ArmedOk t

/-- The chains that keep `ControlsOk`, and those that also keep `ArmedOk`. -/
def Scope.orderly : Scope := ⟨true, true, true, false⟩

def Scope.quiet : Scope := ⟨true, true, false, false⟩

namespace Ordered

theorem of_quiet {s t : State} (h : Evolves .quiet s t) : Ordered s t := fun hs => ⟨h.controls rfl hs.1, h.armed rfl rfl hs.1 hs.2⟩

/-- A PDU is not ARMED but on a READY machine once it follows that machine (R26, R27). -/
theorem pduSync_armed (t : State) (l : Lane) (h : ((t.pduSync l).pdu.get l).run = .armed) : (t.psc.get l).state = .ready := by
  by_contra hn
  unfold State.pduSync at h
  simp only [hn, decide_false, Bool.false_eq_true, if_false] at h
  split at h <;> simp_all [State.disarm]

theorem pduSync_psc (t : State) (l : Lane) : (t.pduSync l).psc = t.psc := by
  unfold State.pduSync State.arm State.disarm State.rebind
  dsimp only
  repeat' split
  all_goals simp [State.showBall]

theorem pduSync_other (t : State) {l m : Lane} (h : m ≠ l) : (t.pduSync l).pdu.get m = t.pdu.get m := by
  unfold State.pduSync State.arm State.disarm State.rebind
  dsimp only
  repeat' split
  all_goals simp [State.showBall, PerLane.get_set_of_ne _ h]

theorem pdusSync_armed (t : State) : ArmedOk t.pdusSync := by
  intro l h
  unfold State.pdusSync at h ⊢
  rw [pduSync_psc, pduSync_psc]
  cases l with
  | left =>
    rw [pduSync_other _ (by decide)] at h
    exact pduSync_armed t .left h
  | right =>
    have e := pduSync_armed _ .right h
    rwa [pduSync_psc] at e

/-- The end of an event keeps both orders, whatever machines its commands took out of READY (R27). -/
theorem of_finish {s t : State} (h : Evolves .orderly s t) : Ordered s t.finish := by
  intro hs
  refine ⟨(h.finish rfl rfl rfl).controls rfl hs.1, ?_⟩
  have hp := ((((h.dsuPump rfl).sessionsFollow).machinesStandby rfl).returnPump rfl).pdusSync rfl
  exact (((Evolves.refl (c := .quiet) _).headStandby).bannersEval).finishLines.armed rfl rfl (hp.controls rfl hs.1) (pdusSync_armed _)

theorem linked : Linked Ordered where
  refl _ := id
  trans h h' := h' ∘ h
  port _ _ _ := id
  serve s k r := by
    have q := Evolves.refl (c := .quiet) s
    have o := Evolves.refl (c := .orderly) s
    have ho (hm : ∀ m, r ≠ .setMask m) : Ordered s (Machine.handle k r s).1.finish :=
      of_finish (o.handle rfl rfl k r (.inl rfl) hm)
    have hq (hm : ∀ m, r ≠ .setMask m) (h : Evolves.leavesReady r = false) : Evolves .quiet s (Machine.handle k r s).1 :=
      q.handle rfl rfl k r (.inr h) hm
    cases r with
    | setMask => exact id
    | setConfig =>
      have h := hq (fun m hm => by cases hm) rfl
      dsimp only [finishRequest]
      split
      · exact of_quiet (h.finishReturn rfl)
      · exact of_quiet h
    | _ =>
      dsimp only [finishRequest]
      with_reducible first
        | exact ho fun m hm => by cases hm
        | exact of_quiet (hq (fun m hm => by cases hm) rfl)
        | exact of_quiet (hq (fun m hm => by cases hm) rfl).feedLoads
        | exact of_quiet (hq (fun m hm => by cases hm) rfl).finishLines
  ties s k := by
    unfold State.linkTies
    cases k with
    | desk => exact of_finish ((Evolves.refl s).forgetLink .desk).deskReset
    | service => exact of_quiet ((((Evolves.refl s).forgetLink .service).endContinuous .left).endContinuous .right).headStandby
    | console => exact of_quiet ((Evolves.refl s).forgetLink .console)

theorem finished {s t : State} (h : Evolves .orderly s t) : Ordered s t.finish.pump := linked.pump (of_finish h)

theorem quietly {s t : State} (h : Evolves .quiet s t) : Ordered s t.pump := linked.pump (of_quiet h)

theorem ite {s t u : State} {p : Prop} [Decidable p] (ht : p → Ordered s t) (hu : ¬ p → Ordered s u) :
    Ordered s (if p then t else u) := by
  split
  · exact ht ‹_›
  · exact hu ‹_›

end Ordered

/-- What one command does keeps the states that sessions are PAUSED from. -/
theorem Event.pauses {s t : State} (h : Event s t) (hs : PausesOk s) : PausesOk t := by
  induction h with
  | evolves h => exact h.pauses hs
  | port => exact hs
  | trans _ _ h h' => exact h' (h hs)

end Sys2Proof.Machine
end

