-- ==== Sys2Proof/Laws/Fields.lean ====
section
/-! SUPPORT. The laws of the signed field that may be absent (R196): its length, and that every bit set means absent alone. -/
namespace Sys2Proof

@[simp] theorem be_length (k n : Nat) : (be k n).length = k := by
  induction k with
  | zero => rfl
  | succ k ih => simp [be, ih]

/-- A value and its absence take the same room. -/
@[simp] theorem beIntOpt_length (k : Nat) (o : Option Int) : (beIntOpt k o).length = k + 1 := by
  cases o <;> simp [beIntOpt, beInt]

/-- Every bit set means absent alone, -1 included (R196). -/
theorem beIntOpt_absent_iff (k : Nat) (o : Option Int) : beIntOpt k o = List.replicate (k + 1) 255#8 ↔ o = none := by
  cases o <;> simp [beIntOpt, List.replicate_succ]

@[simp] theorem beOpt_length (k : Nat) (o : Option Nat) : (beOpt k o).length = k := by
  cases o <;> simp [beOpt]

namespace Machine

/-- In the fields of a slot the three bytes from byte 11 on are all FF exactly when the slot has no last result (R22, R196). -/
theorem slotField_result_absent_iff (k : ScanSlot) :
    ((slotField k).drop 11).take 3 = absentBytes 3 ↔ k.obs.result = none := by
  have e : ((slotField k).drop 11).take 3 = beIntOpt 2 k.obs.result := by
    simp [slotField, yesNo, beInt, List.drop_append, List.drop_of_length_le]
  rw [e]
  exact beIntOpt_absent_iff 2 _

end Machine
end Sys2Proof
end

