-- ==== Sys2Proof/Laws/PerInstr.lean ====
section
/-! SUPPORT. A law of every command as syntax: the request it carries, if it carries one, has a type number of the rights
table. -/
namespace Sys2Proof.Laws.KindInRange

/-- The request a command carries has a type number 1 to 60 (11_links_messages_and_configuration.md, Rights). -/
def Statement (i : Instr) : Prop := ∀ k t r, i.request = some (k, t, r) → 1 ≤ r.kind ∧ r.kind ≤ 60

/-- Every request has a type number of the rights table. -/
theorem of_any (i : Instr) : Statement i := fun _ _ r _ => Machine.kind_range r

theorem powerOn : Statement (.powerOn) := of_any _
theorem frameReceived (link : Link) (lenHi lenLo kind tag : Byte) (body : List Byte) (check : Byte) : Statement (.frameReceived link lenHi lenLo kind tag body check) := of_any _
theorem frameGapTimeout (link : Link) : Statement (.frameGapTimeout link) := of_any _
theorem transmitComplete (link : Link) : Statement (.transmitComplete link) := of_any _
theorem breakBegin (link : Link) : Statement (.breakBegin link) := of_any _
theorem breakEnd (link : Link) : Statement (.breakEnd link) := of_any _
theorem setConfig (link : Link) (tag : Tag) (item value : Nat) (stepKind : Option Nat) : Statement (.setConfig link tag item value stepKind) := of_any _
theorem configDone (link : Link) (tag : Tag) : Statement (.configDone link tag) := of_any _
theorem setHandicap (link : Link) (tag : Tag) (basis percent cap noAverage : Nat) : Statement (.setHandicap link tag basis percent cap noAverage) := of_any _
theorem setTime (link : Link) (tag : Tag) (minute : Nat) : Statement (.setTime link tag minute) := of_any _
theorem setRates (link : Link) (tag : Tag) (bands : List Band) : Statement (.setRates link tag bands) := of_any _
theorem readRates (link : Link) (tag : Tag) : Statement (.readRates link tag) := of_any _
theorem pairClear (link : Link) (tag : Tag) : Statement (.pairClear link tag) := of_any _
theorem openSession (link : Link) (tag : Tag) (lane mode : Nat) (league autoNext foulDetect meterDisplay : Bool) (overflow allowance : Nat) : Statement (.openSession link tag lane mode league autoNext foulDetect meterDisplay overflow allowance) := of_any _
theorem setSessionFlags (link : Link) (tag : Tag) (lane : Nat) (league autoNext foulDetect meterDisplay : Bool) (overflow : Nat) : Statement (.setSessionFlags link tag lane league autoNext foulDetect meterDisplay overflow) := of_any _
theorem closeSession (link : Link) (tag : Tag) (lane manner : Nat) : Statement (.closeSession link tag lane manner) := of_any _
theorem unlock (link : Link) (tag : Tag) (lane mode allowance : Nat) : Statement (.unlock link tag lane mode allowance) := of_any _
theorem readMeter (link : Link) (tag : Tag) (lane : Nat) : Statement (.readMeter link tag lane) := of_any _
theorem approve (link : Link) (tag : Tag) (entry : Nat) : Statement (.approve link tag entry) := of_any _
theorem deny (link : Link) (tag : Tag) (entry : Nat) : Statement (.deny link tag entry) := of_any _
theorem moveGroup (link : Link) (tag : Tag) (slot lane : Nat) : Statement (.moveGroup link tag slot lane) := of_any _
theorem dismissGroup (link : Link) (tag : Tag) (slot : Nat) : Statement (.dismissGroup link tag slot) := of_any _
theorem saveGroup (link : Link) (tag : Tag) (slot : Nat) : Statement (.saveGroup link tag slot) := of_any _
theorem savePart (link : Link) (tag : Tag) (slot : Nat) (restart : Bool) : Statement (.savePart link tag slot restart) := of_any _
theorem loadBegin (link : Link) (tag : Tag) (transfer slot lane count : Nat) : Statement (.loadBegin link tag transfer slot lane count) := of_any _
theorem loadPart (link : Link) (tag : Tag) (transfer : Nat) (entries : List EntryContent) : Statement (.loadPart link tag transfer entries) := of_any _
theorem loadEnd (link : Link) (tag : Tag) (transfer : Nat) (entries : List EntryContent) : Statement (.loadEnd link tag transfer entries) := of_any _
theorem resumeGroup (link : Link) (tag : Tag) (slot : Nat) : Statement (.resumeGroup link tag slot) := of_any _
theorem releaseMoved (link : Link) (tag : Tag) (slot : Nat) : Statement (.releaseMoved link tag slot) := of_any _
theorem createGroup (link : Link) (tag : Tag) (slot : Nat) (name : Name) (lane : Nat) (bowlers : List BowlerSpec) : Statement (.createGroup link tag slot name lane bowlers) := of_any _
theorem addBowler (link : Link) (tag : Tag) (slot : Nat) (bowler : BowlerSpec) : Statement (.addBowler link tag slot bowler) := of_any _
theorem setPlayMode (link : Link) (tag : Tag) (slot mode : Nat) : Statement (.setPlayMode link tag slot mode) := of_any _
theorem newGame (link : Link) (tag : Tag) (slot : Nat) : Statement (.newGame link tag slot) := of_any _
theorem readLine (link : Link) (tag : Tag) (line : Nat) : Statement (.readLine link tag line) := of_any _
theorem claimLine (link : Link) (tag : Tag) (line : Nat) : Statement (.claimLine link tag line) := of_any _
theorem releaseLine (link : Link) (tag : Tag) (line : Nat) : Statement (.releaseLine link tag line) := of_any _
theorem editLine (link : Link) (tag : Tag) (line base : Nat) (changes : LineChanges) : Statement (.editLine link tag line base changes) := of_any _
theorem correctBall (link : Link) (tag : Tag) (line game frame ball count : Nat) (foul : Bool) (base : Nat) : Statement (.correctBall link tag line game frame ball count foul base) := of_any _
theorem manualBall (link : Link) (tag : Tag) (lane count : Nat) (foul : Bool) : Statement (.manualBall link tag lane count foul) := of_any _
theorem reRack (link : Link) (tag : Tag) (lane : Nat) : Statement (.reRack link tag lane) := of_any _
theorem setScoringSource (link : Link) (tag : Tag) (lane source : Nat) : Statement (.setScoringSource link tag lane source) := of_any _
theorem setHighlight (link : Link) (tag : Tag) (lane : Nat) (positions : List Nat) : Statement (.setHighlight link tag lane positions) := of_any _
theorem setSlot (link : Link) (tag : Tag) (slot lane point : Nat) (enabled : Bool) (baseline : Nat) (high low : Int) (wobble : Bool) : Statement (.setSlot link tag slot lane point enabled baseline high low wobble) := of_any _
theorem setScanMode (link : Link) (tag : Tag) (mode : Nat) : Statement (.setScanMode link tag mode) := of_any _
theorem setRunMode (link : Link) (tag : Tag) (lane mode : Nat) : Statement (.setRunMode link tag lane mode) := of_any _
theorem restartHead (link : Link) (tag : Tag) : Statement (.restartHead link tag) := of_any _
theorem injectReadings (link : Link) (tag : Tag) (lane : Nat) (readings : List Nat) : Statement (.injectReadings link tag lane readings) := of_any _
theorem armTest (link : Link) (tag : Tag) (lane pins : Nat) : Statement (.armTest link tag lane pins) := of_any _
theorem stopMachine (link : Link) (tag : Tag) (lane : Nat) : Statement (.stopMachine link tag lane) := of_any _
theorem issueStep (link : Link) (tag : Tag) (lane step : Nat) : Statement (.issueStep link tag lane step) := of_any _
theorem clearFault (link : Link) (tag : Tag) (lane : Nat) : Statement (.clearFault link tag lane) := of_any _
theorem resumeMachine (link : Link) (tag : Tag) (lane choice : Nat) : Statement (.resumeMachine link tag lane choice) := of_any _
theorem clearReturn (link : Link) (tag : Tag) (lift left right : Nat) (rack : Option Nat) : Statement (.clearReturn link tag lift left right rack) := of_any _
theorem readLinks (link : Link) (tag : Tag) : Statement (.readLinks link tag) := of_any _
theorem readStatus (link : Link) (tag : Tag) : Statement (.readStatus link tag) := of_any _
theorem readSensing (link : Link) (tag : Tag) (lane : Nat) : Statement (.readSensing link tag lane) := of_any _
theorem readPinfall (link : Link) (tag : Tag) (lane : Nat) : Statement (.readPinfall link tag lane) := of_any _
theorem readMachine (link : Link) (tag : Tag) (lane : Nat) : Statement (.readMachine link tag lane) := of_any _
theorem readReturn (link : Link) (tag : Tag) : Statement (.readReturn link tag) := of_any _
theorem readPlay (link : Link) (tag : Tag) : Statement (.readPlay link tag) := of_any _
theorem readScores (link : Link) (tag : Tag) (slot : Nat) : Statement (.readScores link tag slot) := of_any _
theorem readCorrections (link : Link) (tag : Tag) : Statement (.readCorrections link tag) := of_any _
theorem readFeed (link : Link) (tag : Tag) (lane : Nat) : Statement (.readFeed link tag lane) := of_any _
theorem readTransfer (link : Link) (tag : Tag) : Statement (.readTransfer link tag) := of_any _
theorem setMask (link : Link) (tag : Tag) (mask : BitVec 10) : Statement (.setMask link tag mask) := of_any _
theorem linkReset (link : Link) (tag : Tag) : Statement (.linkReset link tag) := of_any _
theorem readout (request : Nat) (left right : List Nat) : Statement (.readout request left right) := of_any _
theorem readoutTimeout (lane : Lane) : Statement (.readoutTimeout lane) := of_any _
theorem warmUpExpiry : Statement (.warmUpExpiry) := of_any _
theorem continuousScanExpiry (lane : Lane) : Statement (.continuousScanExpiry lane) := of_any _
theorem arrival (lane : Lane) : Statement (.arrival lane) := of_any _
theorem foulBreak (lane : Lane) : Statement (.foulBreak lane) := of_any _
theorem pinActionDelayExpiry (lane : Lane) : Statement (.pinActionDelayExpiry lane) := of_any _
theorem scanTimerExpiry (lane : Lane) : Statement (.scanTimerExpiry lane) := of_any _
theorem settleWindowExpiry (lane : Lane) : Statement (.settleWindowExpiry lane) := of_any _
theorem foulGraceExpiry (lane : Lane) : Statement (.foulGraceExpiry lane) := of_any _
theorem cycleDelayExpiry (lane : Lane) : Statement (.cycleDelayExpiry lane) := of_any _
theorem startTimerExpiry (lane : Lane) : Statement (.startTimerExpiry lane) := of_any _
theorem done (lane : Lane) : Statement (.done lane) := of_any _
theorem redo (lane : Lane) : Statement (.redo lane) := of_any _
theorem faultCompletion (lane : Lane) (cause : CompletionFault) : Statement (.faultCompletion lane cause) := of_any _
theorem stepTimerExpiry (lane : Lane) : Statement (.stepTimerExpiry lane) := of_any _
theorem pitDetector (lane : Lane) : Statement (.pitDetector lane) := of_any _
theorem liftTopSensor : Statement (.liftTopSensor) := of_any _
theorem rackTake : Statement (.rackTake) := of_any _
theorem carryTimerExpiry : Statement (.carryTimerExpiry) := of_any _
theorem claimTimerExpiry (line : Nat) : Statement (.claimTimerExpiry line) := of_any _
theorem minuteTimerExpiry : Statement (.minuteTimerExpiry) := of_any _
theorem gapTimerExpiry : Statement (.gapTimerExpiry) := of_any _
theorem rowPull (lane : Lane) : Statement (.rowPull lane) := of_any _

end Sys2Proof.Laws.KindInRange
end

