-- ==== Sys2Proof/Laws/Requests.lean ====
section
/-! SUPPORT. Requests that meet an idle link: what is answered, and what is unchanged behind the links. `State.inside` and
`State.behind` leave out the parts of the state that notices and feed marks reach, so that an operation that only tells
and marks reduces away by simp. -/
set_option linter.unusedVariables false
namespace Sys2Proof.Machine
/-- Every request command hands its request to the link it arrives on. -/
theorem exec_request {i : Instr} {k : Link} {tag : Tag} {r : Request} (h : i.request = some (k, tag, r)) (s : State) :
    exec i s = .next (s.request k tag r) := by
  cases i <;> simp only [Instr.request, Option.some.injEq, Prod.mk.injEq, reduceCtorEq] at h <;>
    (obtain ⟨rfl, rfl, rfl⟩ := h; rfl)

/-- A pump changes the transmitter alone. -/
theorem Port.pump_keeps (p : Port) : p.pump.queue = p.queue ∧ p.pump.frontServed = p.frontServed ∧ p.pump.replies = p.replies
    ∧ p.pump.notices = p.notices ∧ p.pump.mask = p.mask ∧ p.pump.lost = p.lost ∧ p.pump.badFrames = p.badFrames
    ∧ p.pump.inBreak = p.inBreak ∧ p.pump.sent = p.sent := by
  unfold Port.pump
  split
  · exact ⟨rfl, rfl, rfl, rfl, rfl, rfl, rfl, rfl, rfl⟩
  · split
    · exact ⟨rfl, rfl, rfl, rfl, rfl, rfl, rfl, rfl, rfl⟩
    · split <;> exact ⟨rfl, rfl, rfl, rfl, rfl, rfl, rfl, rfl, rfl⟩

theorem Event.pending {s t : State} (h : Event s t) : t.pending = s.pending := by
  induction h with
  | evolves h => exact h.pending
  | port => rfl
  | trans _ _ a b => exact b.trans a

/-- A reply on a link whose port but for its notices is that of the queued request. -/
theorem State.replied_of_same {s u : State} {k : Link} (hi : LinkIdle s k) (tag : Tag) (r : Request) (a : Answer)
    (hu : Evolves.SamePort ((s.queuedUp k tag r).port k) ((finishRequest r u).port k)) :
    Replied (u.answered k tag r a) k tag r a := by
  obtain ⟨hb, hq, hl, ht⟩ := hi
  obtain ⟨h1, h2, h3, h4, h5, h6, h7, h8⟩ := hu
  simp only [State.queuedUp, Port.enqueue, State.port_modPort, hb, hq, hl, ht, List.nil_append] at h1 h2 h3 h4 h5 h6 h7 h8
  simp only [Replied, State.answered, State.port_pump, State.port_modPort, Port.reply, Port.pump, h1, h3, h6, h7]
  simp [queuedOf]

/-- The reply to a served request. -/
theorem State.replied {s : State} {k : Link} (hi : LinkIdle s k) (tag : Tag) (r : Request) (hr : ∀ m, r ≠ .setMask m) :
    Replied ((handle k r (s.queuedUp k tag r)).1.answered k tag r (handle k r (s.queuedUp k tag r)).2) k tag r
      (handle k r (s.queuedUp k tag r)).2 :=
  State.replied_of_same hi tag r _
    ((((Evolves.refl (c := .all) _).handle rfl rfl k r (.inl rfl) (fun m hm => absurd hm (hr m))).finishRequest rfl rfl rfl r).port k)

/-- The same, with what the owning block does named. -/
theorem State.served {i : Instr} {s u : State} {k : Link} {tag : Tag} {r : Request} {a : Answer} (hi : i.request = some (k, tag, r))
    (hl : LinkIdle s k) (ha : admits k r.kind = true) (hr : ∀ m, r ≠ .setMask m) (hn : r ≠ .linkReset)
    (h : handle k r (s.queuedUp k tag r) = (u, a)) :
    exec i s = .next (u.answered k tag r a) ∧ Replied (u.answered k tag r a) k tag r a := by
  have e := State.replied hl tag r hr
  rw [h] at e
  rw [exec_request hi, State.request_of_idle hl tag hn ha, h]
  exact ⟨rfl, e⟩

/-- Every other link after a request whose effect sent no notice. -/
theorem State.others_of_same {s u : State} {k : Link} (tag : Tag) (r : Request) (a : Answer)
    (hu : (finishRequest r u).ports = (s.queuedUp k tag r).ports) : OthersIdle s (u.answered k tag r a) k := by
  intro j hj
  have e : (finishRequest r u).port j = s.port j := by
    simp only [State.port, hu]
    exact State.port_modPort_of_ne s hj _
  simp [State.answered, State.port_modPort_of_ne _ hj, e]

theorem sameInside_iff (t u : State) : SameInside t u ↔
    t.pending = u.pending ∧ t.configured = u.configured ∧ t.settings = u.settings ∧ t.handicap = u.handicap ∧ t.head = u.head
    ∧ t.sensing = u.sensing ∧ t.scanSerial = u.scanSerial ∧ t.pdu = u.pdu ∧ t.psc = u.psc ∧ t.ret = u.ret ∧ t.groups = u.groups
    ∧ t.lines = u.lines ∧ t.lanes = u.lanes ∧ t.corrections = u.corrections ∧ t.nextEntry = u.nextEntry ∧ t.sessions = u.sessions
    ∧ t.rates = u.rates ∧ t.timeOfDay = u.timeOfDay ∧ t.minuteTimer = u.minuteTimer ∧ t.outbound = u.outbound
    ∧ t.staging = u.staging ∧ t.gapTimer = u.gapTimer ∧ t.dirty = u.dirty := by
  cases t; cases u; simp [SameInside]

theorem SameInside.refl (s : State) : SameInside s s := rfl

/-- Everything but the link ports and the monitor feeds. -/
def State.inside (s : State) : State := { s with ports := State.reset.ports, feeds := State.reset.feeds }

theorem sameInside_iff_inside (t u : State) : SameInside t u ↔ State.inside t = State.inside u := by
  rw [sameInside_iff]; cases t; cases u; simp [State.inside]

theorem SameInside.trans {s t u : State} (h : SameInside t u) (h' : SameInside s t) : SameInside s u := by
  rw [sameInside_iff_inside] at *
  exact h'.trans h

section
variable (s : State)
@[simp] theorem inside_modPort (k f) : State.inside (s.modPort k f) = State.inside s := rfl
@[simp] theorem inside_modFeed (k f) : State.inside (s.modFeed k f) = State.inside s := rfl
@[simp] theorem inside_tell (k n) : State.inside (s.tell k n) = State.inside s := rfl
@[simp] theorem inside_broadcast (n) : State.inside (s.broadcast n) = State.inside s := by simp [State.inside]
@[simp] theorem inside_tellDeskConsole (n) : State.inside (s.tellDeskConsole n) = State.inside s := by simp [State.inside, State.tellDeskConsole]
@[simp] theorem inside_markFeed (l a b) : State.inside (s.markFeed l a b) = State.inside s := rfl
@[simp] theorem inside_markFeeds (a b) : State.inside (s.markFeeds a b) = State.inside s := by simp [State.inside, State.markFeeds]
@[simp] theorem inside_markShowing (b a) : State.inside (s.markShowing b a) = State.inside s := by simp [State.inside, State.markShowing]
@[simp] theorem inside_bannerEval (l) : State.inside (s.bannerEval l) = State.inside s := rfl
@[simp] theorem inside_bannersEval : State.inside (s.bannersEval) = State.inside s := by simp [State.inside, State.bannersEval, State.bannerEval]
@[simp] theorem inside_markMeter (l) : State.inside (s.markMeter l) = State.inside s := by simp [State.inside, State.markMeter]
@[simp] theorem inside_feedLoads : State.inside (s.feedLoads) = State.inside s := by simp [State.inside, State.feedLoads]
@[simp] theorem inside_pump : State.inside (s.pump) = State.inside s := by simp [State.inside, State.pump]
@[simp] theorem inside_showBall (l b) : State.inside (s.showBall l b) = State.inside s := by simp [State.inside, State.showBall]
@[simp] theorem inside_setOneShot (l b) : State.inside (s.setOneShot l b) = State.inside s := rfl
@[simp] theorem inside_dropHighlights (l) : State.inside (s.dropHighlights l) = State.inside s := rfl
@[simp] theorem inside_queuedUp (k tag r) : State.inside (s.queuedUp k tag r) = State.inside s := rfl
@[simp] theorem inside_tellReturn (n) : State.inside (s.tellReturn n) = State.inside s := by simp [State.inside, State.tellReturn, State.markFeeds]
@[simp] theorem inside_markCorrection (i) : State.inside (s.markCorrection i) = State.inside s := by unfold State.markCorrection; split <;> rfl
@[simp] theorem inside_modSession (l f) : State.inside (s.modSession l f) = (State.inside s).modSession l f := rfl
@[simp] theorem inside_modPsc (l f) : State.inside (s.modPsc l f) = (State.inside s).modPsc l f := rfl
@[simp] theorem inside_modPdu (l f) : State.inside (s.modPdu l f) = (State.inside s).modPdu l f := rfl
@[simp] theorem inside_modSensing (l f) : State.inside (s.modSensing l f) = (State.inside s).modSensing l f := rfl
@[simp] theorem inside_modGroup (l f) : State.inside (s.modGroup l f) = (State.inside s).modGroup l f := rfl
@[simp] theorem inside_modReturn (f) : State.inside (s.modReturn f) = (State.inside s).modReturn f := rfl
@[simp] theorem inside_modHead (f) : State.inside (s.modHead f) = (State.inside s).modHead f := rfl
@[simp] theorem inside_modLane (l f) : State.inside (s.modLane l f) = (State.inside s).modLane l f := rfl
end

theorem admits_desk {r : Request} (h : r.kind ≤ 34 := by decide) : admits .desk r.kind = true := by
  have := kind_range r; simp [admits]; omega
section
variable (s : State) (k : Link) (tag : Tag) (r : Request)
@[simp] theorem State.queuedUp_pending : (s.queuedUp k tag r).pending = s.pending := rfl
@[simp] theorem State.queuedUp_configured : (s.queuedUp k tag r).configured = s.configured := rfl
@[simp] theorem State.queuedUp_settings : (s.queuedUp k tag r).settings = s.settings := rfl
@[simp] theorem State.queuedUp_handicap : (s.queuedUp k tag r).handicap = s.handicap := rfl
@[simp] theorem State.queuedUp_head : (s.queuedUp k tag r).head = s.head := rfl
@[simp] theorem State.queuedUp_sensing : (s.queuedUp k tag r).sensing = s.sensing := rfl
@[simp] theorem State.queuedUp_pdu : (s.queuedUp k tag r).pdu = s.pdu := rfl
@[simp] theorem State.queuedUp_psc : (s.queuedUp k tag r).psc = s.psc := rfl
@[simp] theorem State.queuedUp_ret : (s.queuedUp k tag r).ret = s.ret := rfl
@[simp] theorem State.queuedUp_groups : (s.queuedUp k tag r).groups = s.groups := rfl
@[simp] theorem State.queuedUp_lines : (s.queuedUp k tag r).lines = s.lines := rfl
@[simp] theorem State.queuedUp_line (i) : (s.queuedUp k tag r).line i = s.line i := rfl
@[simp] theorem State.queuedUp_lanes : (s.queuedUp k tag r).lanes = s.lanes := rfl
@[simp] theorem State.queuedUp_corrections : (s.queuedUp k tag r).corrections = s.corrections := rfl
@[simp] theorem State.queuedUp_nextEntry : (s.queuedUp k tag r).nextEntry = s.nextEntry := rfl
@[simp] theorem State.queuedUp_sessions : (s.queuedUp k tag r).sessions = s.sessions := rfl
@[simp] theorem State.queuedUp_rates : (s.queuedUp k tag r).rates = s.rates := rfl
@[simp] theorem State.queuedUp_timeOfDay : (s.queuedUp k tag r).timeOfDay = s.timeOfDay := rfl
@[simp] theorem State.queuedUp_minuteTimer : (s.queuedUp k tag r).minuteTimer = s.minuteTimer := rfl
@[simp] theorem State.queuedUp_feeds : (s.queuedUp k tag r).feeds = s.feeds := rfl
@[simp] theorem State.queuedUp_outbound : (s.queuedUp k tag r).outbound = s.outbound := rfl
@[simp] theorem State.queuedUp_staging : (s.queuedUp k tag r).staging = s.staging := rfl
@[simp] theorem State.queuedUp_gapTimer : (s.queuedUp k tag r).gapTimer = s.gapTimer := rfl
@[simp] theorem State.queuedUp_dirty : (s.queuedUp k tag r).dirty = s.dirty := rfl
@[simp] theorem State.queuedUp_homeGroup (l) : (s.queuedUp k tag r).homeGroup l = s.homeGroup l := rfl
@[simp] theorem State.queuedUp_homeGameOn (l) : (s.queuedUp k tag r).homeGameOn l = s.homeGameOn l := rfl
@[simp] theorem State.queuedUp_coversTen (l) : (s.queuedUp k tag r).coversTen l = s.coversTen l := rfl
@[simp] theorem State.queuedUp_pauseHolds (l) : (s.queuedUp k tag r).pauseHolds l = s.pauseHolds l := rfl
@[simp] theorem State.queuedUp_timeOk (l) : (s.queuedUp k tag r).timeOk l = s.timeOk l := rfl
@[simp] theorem State.queuedUp_ratesOk (l) : (s.queuedUp k tag r).ratesOk l = s.ratesOk l := rfl
@[simp] theorem State.queuedUp_namedLine (l) : (s.queuedUp k tag r).namedLine l = s.namedLine l := rfl
@[simp] theorem State.queuedUp_groupFrozen (l) : (s.queuedUp k tag r).groupFrozen l = s.groupFrozen l := rfl
end
@[simp] theorem inside_enterSession (s : State) (l st pf) : State.inside (s.enterSession l st pf) = (State.inside s).modSession l fun x => { x with state := st, pausedFrom := pf } := by
  simp [State.enterSession]
@[simp] theorem inside_sessions (s : State) : (State.inside s).sessions = s.sessions := rfl
@[simp] theorem inside_psc (s : State) : (State.inside s).psc = s.psc := rfl
@[simp] theorem modSession_comp (s : State) (l) (f g) : (s.modSession l f).modSession l g = s.modSession l (fun x => g (f x)) := by
  simp [State.modSession]
@[simp] theorem modPsc_comp (s : State) (l) (f g) : (s.modPsc l f).modPsc l g = s.modPsc l (fun x => g (f x)) := by
  simp [State.modPsc]
@[simp] theorem enterSession_sessions (s : State) (l st pf) : (s.enterSession l st pf).sessions = s.sessions.set l { s.sessions.get l with state := st, pausedFrom := pf } := by
  simp [State.enterSession, State.bannerEval, State.modSession]
@[simp] theorem enterSession_psc (s : State) (l st pf) : (s.enterSession l st pf).psc = s.psc := by
  simp [State.enterSession, State.bannerEval]
@[simp] theorem enterSession_ret (s : State) (l st pf) : (s.enterSession l st pf).ret = s.ret := by
  simp [State.enterSession, State.bannerEval]
@[simp] theorem enterSession_settings (s : State) (l st pf) : (s.enterSession l st pf).settings = s.settings := by
  simp [State.enterSession, State.bannerEval]
theorem inside_startMachine (s : State) (l) (hx : (s.sessions.get l).state ≠ .opened ∧ (s.sessions.get l).state ≠ .overtime ∧ (s.sessions.get l).state ≠ .paused) :
  State.inside (s.startMachine l) = if (s.psc.get l).state = .standby then (State.inside s).modPsc l fun p => { p with
       state := .starting, cause := none, startTimer := some (100 * s.settings.startTime), stepTimer := none } else State.inside s := by
  unfold State.startMachine
  split
  · rename_i h
    obtain ⟨h1, h2, h3⟩ := hx
    simp [State.setMachine, h, State.machineChanged, State.opens, Pinsetter.enter, State.pauseEval, seconds, State.markFeed]
    split <;> simp_all
  · rfl
/-- A request whose effect is `w` but for ports and feeds, and whose event ends with nothing but loads of the feeds. -/
theorem State.serves_same' {i : Instr} {s : State} {k : Link} {tag : Tag} {r : Request} {a : Answer} {w : State} (hi : i.request = some (k, tag, r))
    (hl : LinkIdle s k) (ha : admits k r.kind = true) (hr : ∀ m, r ≠ .setMask m) (hn : r ≠ .linkReset)
    (hf : ∀ u, finishRequest r u = u.feedLoads ∨ finishRequest r u = u)
    (h : ∃ u, handle k r (s.queuedUp k tag r) = (u, a) ∧ SameInside u w) :
    ∃ t, exec i s = .next t ∧ Replied t k tag r a ∧ SameInside t w := by
  obtain ⟨u, h, hw⟩ := h
  have := State.served hi hl ha hr hn h
  refine ⟨_, this.1, this.2, ?_⟩
  rw [sameInside_iff_inside] at *
  rcases hf u with hf | hf <;> simp [State.answered, hf, hw]
/-- A request whose effect leaves a state with the property `P`, before what follows in other blocks. -/
theorem State.serves_with' {i : Instr} {s : State} {k : Link} {tag : Tag} {r : Request} {a : Answer} {P : State → Prop} (hi : i.request = some (k, tag, r))
    (hl : LinkIdle s k) (ha : admits k r.kind = true) (hr : ∀ m, r ≠ .setMask m) (hn : r ≠ .linkReset)
    (h : ∃ u, handle k r (s.queuedUp k tag r) = (u, a) ∧ P u) :
    ∃ u : State, exec i s = .next (u.answered k tag r a) ∧ P u := by
  obtain ⟨u, h, hp⟩ := h
  exact ⟨u, (State.served hi hl ha hr hn h).1, hp⟩
@[simp] theorem inside_withSessions (s : State) (x) : State.inside { s with sessions := x } = { State.inside s with sessions := x } := rfl
@[simp] theorem inside_withPsc (s : State) (x) : State.inside { s with psc := x } = { State.inside s with psc := x } := rfl
theorem State.serves_same {i : Instr} {s : State} {k : Link} {tag : Tag} {r : Request} {a : Answer} {w : State} (hi : i.request = some (k, tag, r))
    (hl : LinkIdle s k) (ha : admits k r.kind = true) (hr : ∀ m, r ≠ .setMask m) (hn : r ≠ .linkReset)
    (hf : ∀ u, finishRequest r u = u.feedLoads ∨ finishRequest r u = u)
    (h : (handle k r (s.queuedUp k tag r)).2 = a) (h' : SameInside (handle k r (s.queuedUp k tag r)).1 w) :
    ∃ t, exec i s = .next t ∧ Replied t k tag r a ∧ SameInside t w :=
  State.serves_same' hi hl ha hr hn hf ⟨_, Prod.ext rfl h, h'⟩
theorem State.serves_with {i : Instr} {s : State} {k : Link} {tag : Tag} {r : Request} {a : Answer} {P : State → Prop} (hi : i.request = some (k, tag, r))
    (hl : LinkIdle s k) (ha : admits k r.kind = true) (hr : ∀ m, r ≠ .setMask m) (hn : r ≠ .linkReset)
    (h : (handle k r (s.queuedUp k tag r)).2 = a) (h' : P (handle k r (s.queuedUp k tag r)).1) :
    ∃ u : State, exec i s = .next (u.answered k tag r a) ∧ P u :=
  State.serves_with' hi hl ha hr hn ⟨_, Prod.ext rfl h, h'⟩
/-- Everything but the link ports, the monitor feeds and the sessions. -/
def State.behind (s : State) : State := { s with ports := State.reset.ports, feeds := State.reset.feeds, sessions := State.reset.sessions }
theorem behind_of_inside {s t : State} (h : State.inside s = State.inside t) : State.behind s = State.behind t := by
  have e : ∀ s, State.behind s = State.behind (State.inside s) := fun _ => rfl
  rw [e s, e t, h]
theorem sameInside_iff_behind (u w : State) : SameInside u { w with sessions := u.sessions } ↔ State.behind u = State.behind w := by
  rw [sameInside_iff]; cases u; cases w; simp [State.behind]
section
variable (s : State)
@[simp] theorem behind_modPort (k f) : State.behind (s.modPort k f) = State.behind s := rfl
@[simp] theorem behind_modFeed (k f) : State.behind (s.modFeed k f) = State.behind s := rfl
@[simp] theorem behind_modSession (k f) : State.behind (s.modSession k f) = State.behind s := rfl
@[simp] theorem behind_tell (k n) : State.behind (s.tell k n) = State.behind s := rfl
@[simp] theorem behind_broadcast (n) : State.behind (s.broadcast n) = State.behind s := behind_of_inside (by simp)
@[simp] theorem behind_markFeed (l a b) : State.behind (s.markFeed l a b) = State.behind s := rfl
@[simp] theorem behind_markFeeds (a b) : State.behind (s.markFeeds a b) = State.behind s := behind_of_inside (by simp)
@[simp] theorem behind_bannerEval (l) : State.behind (s.bannerEval l) = State.behind s := rfl
@[simp] theorem behind_bannersEval : State.behind (s.bannersEval) = State.behind s := behind_of_inside (by simp)
@[simp] theorem behind_feedLoads : State.behind (s.feedLoads) = State.behind s := behind_of_inside (by simp)
@[simp] theorem behind_pump : State.behind (s.pump) = State.behind s := behind_of_inside (by simp)
@[simp] theorem behind_showBall (l b) : State.behind (s.showBall l b) = State.behind s := behind_of_inside (by simp)
@[simp] theorem behind_queuedUp (k tag r) : State.behind (s.queuedUp k tag r) = State.behind s := rfl
@[simp] theorem behind_enterSession (l st pf) : State.behind (s.enterSession l st pf) = State.behind s := by simp [State.enterSession]
@[simp] theorem behind_pauseEval (l) : State.behind (s.pauseEval l) = State.behind s := by
  unfold State.pauseEval; dsimp only; repeat' split
  all_goals simp
@[simp] theorem behind_pauseEvals : State.behind (s.pauseEvals) = State.behind s := by simp [State.pauseEvals]
@[simp] theorem behind_opens (l) : State.behind (s.opens l) = State.behind s := by unfold State.opens; split <;> simp
@[simp] theorem behind_tellReturn (n) : State.behind (s.tellReturn n) = State.behind s := behind_of_inside (by simp)
@[simp] theorem behind_modPsc (l f) : State.behind (s.modPsc l f) = (State.behind s).modPsc l f := rfl
@[simp] theorem behind_modPdu (l f) : State.behind (s.modPdu l f) = (State.behind s).modPdu l f := rfl
@[simp] theorem behind_modSensing (l f) : State.behind (s.modSensing l f) = (State.behind s).modSensing l f := rfl
@[simp] theorem behind_modGroup (l f) : State.behind (s.modGroup l f) = (State.behind s).modGroup l f := rfl
@[simp] theorem behind_modReturn (f) : State.behind (s.modReturn f) = (State.behind s).modReturn f := rfl
@[simp] theorem behind_modHead (f) : State.behind (s.modHead f) = (State.behind s).modHead f := rfl
@[simp] theorem behind_psc : (State.behind s).psc = s.psc := rfl
@[simp] theorem behind_pdu : (State.behind s).pdu = s.pdu := rfl
@[simp] theorem behind_sensing : (State.behind s).sensing = s.sensing := rfl
@[simp] theorem behind_settings : (State.behind s).settings = s.settings := rfl
@[simp] theorem inside_pdu : (State.inside s).pdu = s.pdu := rfl
@[simp] theorem inside_sensing : (State.inside s).sensing = s.sensing := rfl
@[simp] theorem inside_ret : (State.inside s).ret = s.ret := rfl
@[simp] theorem inside_head : (State.inside s).head = s.head := rfl
@[simp] theorem behind_ret : (State.behind s).ret = s.ret := rfl
end
theorem behind_machineChanged (s : State) (l b c) (h : b ≠ .service) : State.behind (s.machineChanged l b c) = State.behind s := by
  simp [State.machineChanged, h]
theorem behind_setMachine (s : State) (l st c k) (h : (s.psc.get l).state ≠ .service) :
    State.behind (s.setMachine l st c k) = (State.behind s).modPsc l fun p => p.enter st c := by
  unfold State.setMachine; dsimp only
  split
  · simp
  · rw [behind_machineChanged _ _ _ _ h]; simp
theorem modPsc_eq (s : State) (l f) : s.modPsc l f = { s with psc := s.psc.set l (f (s.psc.get l)) } := rfl
theorem modPdu_eq (s : State) (l f) : s.modPdu l f = { s with pdu := s.pdu.set l (f (s.pdu.get l)) } := rfl
theorem modSensing_eq (s : State) (l f) : s.modSensing l f = { s with sensing := s.sensing.set l (f (s.sensing.get l)) } := rfl
theorem modReturn_eq (s : State) (f) : s.modReturn f = { s with ret := f s.ret } := rfl
theorem modHead_eq (s : State) (f) : s.modHead f = { s with head := f s.head } := rfl
@[simp] theorem State.queuedUp_scanSerial (s : State) (k tag r) : (s.queuedUp k tag r).scanSerial = s.scanSerial := rfl
@[simp] theorem State.queuedUp_effectiveLength (s : State) (k tag r l) : (s.queuedUp k tag r).effectiveLength l = s.effectiveLength l := rfl
@[simp] theorem State.queuedUp_laneIsFree (s : State) (k tag r l) : (s.queuedUp k tag r).laneIsFree l = s.laneIsFree l := rfl
@[simp] theorem State.queuedUp_expectedDeck (s : State) (k tag r l) : (s.queuedUp k tag r).expectedDeck l = s.expectedDeck l := rfl
@[simp] theorem State.queuedUp_pitFull (s : State) (k tag r l) : (s.queuedUp k tag r).pitFull l = s.pitFull l := rfl
@[simp] theorem State.queuedUp_laneNumber (s : State) (k tag r l) : (s.queuedUp k tag r).laneNumber l = s.laneNumber l := rfl

end Sys2Proof.Machine
end

