-- ==== Sys2Proof/Tests/Slice0.lean ====
section
/-! SUPPORT. Tests: well-formedness refuses each ill-formed field; the spec's own examples; and for every statement for the
provers that has hypotheses, a witness that meets them. -/
namespace Sys2Proof.Tests
open Sys2Proof Sys2Proof.Machine

-- One theorem at a time: each of these proofs waits for the whole package before it, and their threads would pile up.
set_option Elab.async false

/-! ### Helpers -/

theorem lanes_iff {p : Lane → Prop} : (∀ l, p l) ↔ p .left ∧ p .right :=
  ⟨fun h => ⟨h .left, h .right⟩, fun h l => by cases l; exacts [h.1, h.2]⟩

theorem slots_iff {p : Slot → Prop} : (∀ g, p g) ↔ p .g1 ∧ p .g2 :=
  ⟨fun h => ⟨h .g1, h .g2⟩, fun h g => by cases g; exacts [h.1, h.2]⟩

theorem links_iff {p : Link → Prop} : (∀ k, p k) ↔ p .desk ∧ p .service ∧ p .console :=
  ⟨fun h => ⟨h .desk, h .service, h .console⟩, fun h k => by cases k; exacts [h.1, h.2.1, h.2.2]⟩

/-- A configured pair: lanes 1 and 2, the head ACTIVE, both machines in STANDBY, the time set and one band. -/
def pair : State :=
  { State.reset with
    configured := true, settings := { Config.defaults with laneNumber := some 1 }
    head := { state := .active, mode := .paired, warmTimer := none }
    psc := ⟨{ Pinsetter.reset with state := .standby }, { Pinsetter.reset with state := .standby }⟩
    timeOfDay := some 1439, minuteTimer := some 6000, rates := [⟨0, 300, 1200⟩] }

/-- A bowler of G1 with average 150. -/
def bowler : Line :=
  { group := .g1, name := [65#8], average := some 150, mode := .computed, status := .active, frames := [], games := []
    handicap := 0, scratch := none, gameTotal := none, version := 65535, copies := ⟨.none, .none, .none⟩, claimTimer := none }

/-- An IDLE group of one bowler at home on LEFT, its session OPEN and its machine READY. -/
def idle : State :=
  ((({ pair with groups := ⟨{ Group.empty with state := .idle, name := [71#8], order := [0] }, .empty⟩ }).setLine 0
    (some bowler)).modSession .left fun x => { x with state := .opened }).modPsc .left fun p => { p with state := .ready }

/-- The ball record of ball `n` of frame 1 of that bowler. -/
def ball (n count : Nat) (state : BallState) : BallRecord :=
  { lane := .left, line := some 0, game := some 1, frame := some 1, ball := some n, pinsUp := some allPins
    standing := some (if count = 10 then 0#10 else 1#10), count := count, foul := false, split := false, source := .sensed
    state := state }

/-- The binding of that bowler's first ball. -/
def firstBall : Binding := ⟨some 0, some 1, some 1, some 1, true, false⟩

/-- The group in play on LEFT, with the first ball bound. -/
def playing : State :=
  ((idle.modGroup .g1 fun r => { r with
    state := .playing, game := some 1, inProgress := true, position := some 1 }).modLane .left fun r => { r with
    occupant := some .g1 }).modPdu .left fun p => { p with
    run := .armed, deck := .known allPins, upAtArming := some allPins, binding := some firstBall, foulOpen := true }

/-- A state with the LEFT machine changed. -/
def psc (s : State) (f : Pinsetter → Pinsetter) : State := s.modPsc .left f

/-- The pair with the LEFT machine in a state. -/
def machine (state : MachineState) : State := psc pair fun p => { p with state := state }

/-- A state in which a step of the LEFT machine executes. -/
def stepping (state : MachineState) (k : StepKind) (queue : List StepKind) : State :=
  psc pair fun p => { p with state := state, step := some k, queue := queue, stepTimer := some 800 }

/-- A frame record with the balls given and no figures yet. -/
def frame (number : Nat) (balls : List BallRecord) : FrameRecord :=
  { number := number, missed := false, balls := balls, score := none, running := none, state := none, marks := [] }

/-- A port with as much on it as R188 and R190 let it hold. -/
def fullPort : Port :=
  { Port.reset with
    queue := List.replicate 4 (queuedOf 15#4 .readLinks), frontServed := true, tx := .reply
    replies := ⟨.served, 48, 15#4, .ok []⟩ :: List.replicate 4 ⟨.busy, 48, 15#4, ⟨.busy, []⟩⟩
    notices := List.replicate 16 ⟨false, .rackFull⟩, lost := true, badFrames := 65535 }

/-- The pair with a desk port. -/
def desk (p : Port) : State := pair.modPort .desk fun _ => p

/-- A RUNNING return with balls. -/
def returning (left right : List Nat) (lift : Option LiftBall) (rack : Nat) : State :=
  { pair with ret := { BallReturn.reset with
    state := .running, pits := ⟨left, right⟩, stampCounter := 65535, lift := lift, rack := rack
    carryTimer := lift.map fun _ => 800, rackGlitches := 65535 } }

/-- The pair with a load in progress: transfer 255 to G2 on an OPEN RIGHT session, its entries so far, and 3 expected. -/
def loading (entries : List EntryContent) : State :=
  { pair.modSession .right fun x => { x with state := .opened } with
    staging := some ⟨255, .g2, .right, 3, entries⟩, gapTimer := some 500 }

/-- The LEFT machine in HELD(PIT) with two balls in its pit, and an older ball in the RIGHT pit. -/
def held : State :=
  psc { returning [70, 71] [68] none 0 with
    ret := { (returning [70, 71] [68] none 0).ret with holds := ⟨true, false⟩ } } fun p => { p with
      state := .heldPit, pitHold := true, queue := [.sweep, .respot] }

/-- The IDLE group with a second bowler, who holds no frame. -/
def two : State := (playing.modGroup .g1 fun r => { r with order := [0, 1] }).setLine 1 (some bowler)

/-! ### Well-formedness: one ill-formed term for each check -/

theorem test_wf_refuses_bytes :
    fits 1 256 = false ∧ fits 2 65536 = false ∧ fits 1 255 = true ∧ fitsOpt 2 (some 65535) = false
      ∧ fitsOpt 2 (some 65534) = true ∧ fitsInt 32768 = false ∧ fitsInt (-32769) = false ∧ fitsInt (-32768) = true
      ∧ fitsList (fits 1) [0, 256] = false ∧ fitsList (fits 1) (List.replicate 256 0) = false := by decide +kernel

theorem test_wf_refuses_specs :
    BowlerSpec.wf ⟨List.replicate 256 0#8, none, 0, none⟩ = false ∧ BowlerSpec.wf ⟨[], some 65535, 0, none⟩ = false
      ∧ BowlerSpec.wf ⟨[], none, 256, none⟩ = false ∧ BowlerSpec.wf ⟨[], none, 1, some 65535⟩ = false
      ∧ Band.wf ⟨65536, 0, 0⟩ = false ∧ Band.wf ⟨0, 65536, 0⟩ = false ∧ Band.wf ⟨0, 0, 65536⟩ = false
      ∧ LineChanges.wf ⟨some (List.replicate 256 0#8), none, none, none, false⟩ = false
      ∧ LineChanges.wf ⟨none, some (some 65535), none, none, false⟩ = false
      ∧ LineChanges.wf ⟨none, none, some (256, none), none, false⟩ = false
      ∧ LineChanges.wf ⟨none, none, some (1, some 65535), none, false⟩ = false
      ∧ LineChanges.wf ⟨none, none, none, some 256, false⟩ = false := by decide +kernel

theorem test_wf_refuses_entries :
    EntryBall.wf ⟨256, false, false, 0, none, none⟩ = false ∧ EntryBall.wf ⟨0, false, false, 256, none, none⟩ = false
      ∧ EntryBall.wf ⟨0, false, false, 0, some 65535, none⟩ = false
      ∧ EntryBall.wf ⟨0, false, false, 0, none, some 65535⟩ = false ∧ EntryFrame.wf ⟨256, false, []⟩ = false
      ∧ GameEntry.wf ⟨256, 0, 0⟩ = false ∧ GameEntry.wf ⟨0, 65536, 0⟩ = false ∧ GameEntry.wf ⟨0, 0, 256⟩ = false
      ∧ EntryContent.wf (.header [] 256 none false 1 none) = false
      ∧ EntryContent.wf (.header [] 0 (some 65535) false 1 none) = false
      ∧ EntryContent.wf (.header [] 0 none false 256 none) = false
      ∧ EntryContent.wf (.header [] 0 none false 1 (some 255)) = false
      ∧ EntryContent.wf (.line [] none 0 none 256 []) = false
      ∧ EntryContent.wf (.line [] none 0 none 0 [⟨256, 0, 0⟩]) = false
      ∧ EntryContent.wf (.frames [⟨256, false, []⟩]) = false ∧ EntryContent.wf (.malformed 256 []) = false := by decide +kernel

theorem test_wf_refuses_configuration :
    Instr.wf (.setConfig .desk 0#4 13 0 none) = false ∧ Instr.wf (.setConfig .desk 0#4 2 256 none) = false
      ∧ Instr.wf (.setConfig .desk 0#4 1 65536 none) = false ∧ Instr.wf (.setConfig .desk 0#4 9 8 none) = false
      ∧ Instr.wf (.setConfig .desk 0#4 8 4 (some 0)) = false ∧ Instr.wf (.setConfig .desk 0#4 9 8 (some 256)) = false
      ∧ Instr.wf (.setConfig .desk 0#4 9 8 (some 5)) = true ∧ Instr.wf (.setConfig .desk 0#4 1 65535 none) = true := by
  decide +kernel

theorem test_wf_refuses_requests :
    Instr.wf (.setHandicap .desk 0#4 65536 0 0 0) = false ∧ Instr.wf (.setTime .desk 0#4 65536) = false
      ∧ Instr.wf (.setRates .desk 0#4 [⟨0, 0, 65536⟩]) = false ∧ Instr.wf (.readLine .desk 0#4 256) = false
      ∧ Instr.wf (.createGroup .desk 0#4 0 [] 256 []) = false
      ∧ Instr.wf (.setSlot .service 0#4 0 0 0 true 65536 0 0 true) = false
      ∧ Instr.wf (.setSlot .service 0#4 0 0 0 true 0 32768 0 true) = false
      ∧ Instr.wf (.injectReadings .service 0#4 0 [65536]) = false ∧ Instr.wf (.armTest .service 0#4 0 65536) = false
      ∧ Instr.wf (.clearReturn .service 0#4 0 0 0 (some 255)) = false
      ∧ Instr.wf (.loadPart .desk 0#4 256 []) = false ∧ Instr.wf (.setHighlight .console 0#4 0 [256]) = false := by
  decide +kernel

theorem test_wf_refuses_events :
    Instr.wf (.frameReceived .desk 0 1 1 0 [] 0) = false ∧ Instr.wf (.frameReceived .desk 0 1 1 0 [7] 0) = true
      ∧ Instr.wf (.readout 0 [1024] []) = false ∧ Instr.wf (.readout 0 [] [1024]) = false
      ∧ Instr.wf (.readout 0 [1023] []) = true ∧ Instr.wf (.claimTimerExpiry 0) = false
      ∧ Instr.wf (.claimTimerExpiry 17) = false ∧ Instr.wf (.claimTimerExpiry 16) = true := by decide +kernel

/-! ### The spec's own examples -/

/-- R13: limits +400 and −400, +5 and −2, −1 and −4 have the centres 0, 1 and −3: a result one above is ABOVE, one below BELOW. -/
theorem test_centres :
    ([(400, -400, 0), (5, -2, 1), (-1, -4, -3)] : List (Int × Int × Int)).map (fun (high, low, centre) =>
      [centre + 101, centre + 100, centre + 99].map fun r =>
        let k : ScanSlot := { ScanSlot.reset .dl with cfg := ⟨.dl, true, 100, high, low, true⟩ }
        (k.read true r.toNat).1.obs.side)
      = [[some .above, none, some .below], [some .above, none, some .below], [some .above, none, some .below]] := by decide +kernel

/-- R37: 7-10, 3-10 and 4-7-10 are splits; 1-2-10 is none, nor is a single pin. -/
theorem test_splits :
    splitSet (pinSet [7, 10]) = true ∧ splitSet (pinSet [3, 10]) = true ∧ splitSet (pinSet [4, 7, 10]) = true
      ∧ splitSet (pinSet [1, 2, 10]) = false ∧ splitSet (pinSet [10]) = false := by decide +kernel

/-- R187, R196: set-time to minute 1081 (18:01) with tag 5: start 165, length 0 2, type 4, tag 5, body 4 57, check ~(2 + 4 + 5 + 4 + 57). -/
theorem test_set_time_frame :
    decodeRequest 4 [4#8, 57#8] = some (.setTime 1081)
      ∧ frameBytes 4#8 5#8 [4#8, 57#8] = [165#8, 0#8, 2#8, 4#8, 5#8, 4#8, 57#8, 183#8] := by decide +kernel

/-- R196: the lengths and the texts of a create-group body: G1, name "AB", LEFT, one bowler "C" with average 200 and FIXED 30. -/
theorem test_create_group_body :
    decodeRequest 23 [0#8, 2#8, 65#8, 66#8, 0#8, 1#8, 1#8, 67#8, 0#8, 200#8, 1#8, 0#8, 30#8]
      = some (.createGroup 0 [65#8, 66#8] 0 [⟨[67#8], some 200, 1, some 30⟩]) := by decide +kernel

/-- R196: signed limits in two's complement; a body too short or too long spells nothing. -/
theorem test_set_slot_body :
    decodeRequest 36 [11#8, 1#8, 11#8, 1#8, 2#8, 0#8, 1#8, 144#8, 254#8, 112#8, 0#8]
        = some (.setSlot 11 1 11 true 512 400 (-400) false)
      ∧ decodeRequest 36 [11#8, 1#8, 11#8, 1#8, 2#8, 0#8, 1#8, 144#8, 254#8, 112#8] = none
      ∧ decodeRequest 4 [4#8, 57#8, 0#8] = none := by decide +kernel

/-- R196: a last result of -1 is not all ones, an absent one is; R12: the results of a reading 0 against the baseline 1023, and
1023 against 0, are the ends of its range. -/
theorem test_results_of_a_slot :
    ([(1023, some 0), (1, some 0), (0, some 1023), (0, none)] : List (Nat × Option Nat)).map (fun (baseline, raw) =>
      let k : ScanSlot := { ScanSlot.reset .dl with cfg := ⟨.dl, true, baseline, 400, -400, true⟩ }
      ((slotField (match raw with | some n => (k.read true n).1 | none => k)).drop 11).take 3)
      = [[0#8, 252#8, 1#8], [0#8, 255#8, 255#8], [0#8, 3#8, 255#8], [255#8, 255#8, 255#8]] := by decide +kernel

/-- R117: basis 200, 90 percent, cap 50: an average of 150 has 45, one of 140 the cap. -/
theorem test_handicap :
    handicapFigure ⟨200, 90, 50, 20⟩ .computed (some 150) = 45 ∧ handicapFigure ⟨200, 90, 50, 20⟩ .computed (some 140) = 50
      ∧ handicapFigure ⟨200, 90, 50, 20⟩ .computed (some 200) = 0 ∧ handicapFigure ⟨200, 90, 50, 20⟩ .computed none = 20 := by
  decide +kernel

/-- R113, R114: a perfect game: every frame scores 30, and the scratch total is 300. -/
theorem test_perfect_game :
    let strike : BallRecord := ball 1 10 .final
    let frames := ((List.range 9).map fun n => frame (n + 1) [strike]) ++ [frame 10 [strike, strike, strike]]
    (computeLine ⟨0, 0, 0, 0⟩ { bowler with frames := frames }).scratch = some ⟨300, .final⟩ := by decide +kernel

/-- R121: an open frame with a miss, a spare, and a foul. -/
theorem test_marks :
    (markOf 1 2 [ball 1 7 .final, ball 2 0 .final] (ball 2 0 .final)).symbol = .miss
      ∧ (markOf 1 2 [ball 1 7 .final, ball 2 3 .final] (ball 2 3 .final)).symbol = .spare
      ∧ (markOf 1 1 [{ ball 1 0 .final with foul := true }] { ball 1 0 .final with foul := true }).symbol = .foul := by
  decide +kernel

/-- R153: at 00:30 the band in force is the one of the evening before. -/
theorem test_band_of_the_evening :
    ({ pair with rates := [⟨360, 300, 1200⟩, ⟨1080, 450, 1800⟩], timeOfDay := some 30 } : State).bandNow
      = some ⟨1080, 450, 1800⟩ := by decide +kernel

/-- R28: an arrival on the armed lane takes the machine into play and starts the pin action delay of 1500 ms. -/
theorem test_arrival :
    ∃ t, exec (.arrival .left) playing = .next t ∧ (t.psc.left.state, t.pdu.left.run, t.pdu.left.pinTimer)
      = (.inPlay, .delay, some 150) := ⟨_, rfl, by decide +kernel⟩

/-- R60 to R62, R51: a SWEEP that follows with 2 balls in the pit waits in HELD(PIT). -/
theorem test_sweep_is_held :
    ∃ t, exec (.done .left) { stepping .cycling .pick [.sweep, .respot] with ret := { BallReturn.reset with
        state := .fault, pits := ⟨[0, 1], []⟩ } } = .next t ∧ (t.psc.left.state, t.psc.left.pitHold) = (.heldPit, true) :=
  ⟨_, rfl, by decide +kernel⟩

/-- R74 to R76: a ball that meets a running return goes to the lift in the same event. -/
theorem test_ball_is_taken :
    ∃ t, exec (.pitDetector .right) { pair with
        ret := { BallReturn.reset with state := .running }
        sessions := ⟨{ Session.reset with state := .opened }, Session.reset⟩ } = .next t
      ∧ (t.ret.lift, t.ret.pits, t.ret.stampCounter) = (some ⟨0, .right⟩, ⟨[], []⟩, 1) := ⟨_, rfl, by decide +kernel⟩

/-- R58, R83: the clear of one ball from a held LEFT pit releases its sweep first, so the lift takes the oldest ball, the RIGHT
one. -/
theorem test_clear_releases_before_the_take :
    ∃ t, exec (.clearReturn .service 0#4 0 1 0 none) held = .next t
      ∧ (t.ret.lift, t.ret.pits, t.ret.holds, t.psc.left.step)
        = (some ⟨68, .right⟩, ⟨[71], []⟩, ⟨false, false⟩, some .sweep) := ⟨_, rfl, by decide +kernel⟩

/-- R191: a frame of type 60 resets the link whatever its body holds. -/
theorem test_reset_with_a_body :
    ∃ t, exec (.frameReceived .desk 0#8 1#8 60#8 2#8 [9#8] (~~~ (1#8 + 60#8 + 2#8 + 9#8))) (desk fullPort) = .next t
      ∧ ((t.port .desk).queue, (t.port .desk).replies.map (·.role)) = ([], [.reset]) := ⟨_, rfl, by decide +kernel⟩

/-- R88, R172: in CROSS play with the other slot EMPTY the upper half shows no group. -/
theorem test_cross_alone_shows_no_group :
    (idle.modGroup .g1 fun r => { r with playMode := .cross }).shownUpper .left = none := by decide +kernel

/-- R89: a fixed value above 255 is refused RANGE in every mode. -/
theorem test_fixed_values : (handicapOf 0 (some 256), handicapOf 2 (some 256), handicapOf 1 none) = (none, none, none) := by
  decide +kernel

/-- R121, R196: a kept record shows the mark that its line holds in its game, and none when the group is in another game. -/
theorem test_kept_record_marks :
    let s := playing.modLine 0 fun l => computeLine ⟨0, 0, 0, 0⟩ { l with frames := [frame 1 [ball 1 7 .final]] }
    (s.symbolOf (ball 1 7 .final), (s.modGroup .g1 fun r => { r with game := some 2 }).symbolOf (ball 1 7 .final))
      = (some (.pins 7), none) := by decide +kernel

/-- R187: a wrong check byte counts one bad frame. -/
theorem test_bad_frame :
    ∃ t, exec (.frameReceived .desk 0#8 2#8 4#8 5#8 [4#8, 57#8] 0#8) pair = .next t
      ∧ ((t.port .desk).badFrames, t.timeOfDay) = (1, some 1439) := ⟨_, rfl, by decide +kernel⟩

/-- R152: minute 1439 is followed by minute 0. -/
theorem test_midnight :
    ∃ t, exec .minuteTimerExpiry pair = .next t ∧ (t.timeOfDay, t.minuteTimer) = (some 0, some 6000) :=
  ⟨_, rfl, by decide +kernel⟩

/-! ### Witnesses: the hypotheses of each statement, met on concrete states, clause by clause -/

theorem witness_StepTakesFront : State.reset.pending = [] ∧ pair.pending = [] := by decide +kernel

theorem witness_RequestRoundTrip :
    (Request.setSlot 255 255 255 true 65535 32767 (-32768) true).wf = true
      ∧ (Request.loadPart 255 [.header [] 255 none true 255 none, .line [65#8] (some 0) 255 (some 255) 255 [⟨255, 65535, 255⟩],
          .frames [⟨255, true, [⟨255, true, false, 255, none, some 1023⟩]⟩], .malformed 3 [1#8]]).wf = true
      ∧ (Request.loadPart 255 [.header [] 255 none true 255 none, .line [65#8] (some 0) 255 (some 255) 255 [⟨255, 65535, 255⟩],
          .frames [⟨255, true, [⟨255, true, false, 255, none, some 1023⟩]⟩], .malformed 3 [1#8]]).carried = true := by
  decide +kernel

theorem witness_FrameRunsItsRequest :
    Instr.request (.setTime .desk 15#4 65535) = some (.desk, 15#4, .setTime 65535) ∧ (Request.setTime 65535).wf = true
      ∧ (Request.setTime 65535).carried = true ∧ (Request.setTime 65535).encode.length ≤ 1024 := by decide +kernel

theorem witness_BadFramesAreDropped :
    (List.replicate 1025 0#8).length = 256 * (4#8).toNat + (1#8).toNat ∧ 1024 < (List.replicate 1025 0#8).length
      ∧ ([] : List Byte).length = 256 * (0#8).toNat + (0#8).toNat ∧ 15 < (16#8).toNat
      ∧ 0#8 ≠ ~~~ (0#8 + 0#8 + 48#8 + 0#8 + ([] : List Byte).foldl (· + ·) 0#8) ∧ (pair.port .desk).inBreak = false
      ∧ ((desk { Port.reset with inBreak := true }).port .desk).inBreak = true := by decide +kernel

theorem witness_RightsAreEnforced :
    Instr.request (.clearReturn .desk 0#4 0 0 0 none) = some (.desk, 0#4, .clearReturn 0 0 0 none) ∧ LinkIdle pair .desk
      ∧ admits .desk (Request.clearReturn 0 0 0 none).kind = false ∧ 1 ∈ List.range' 1 22 ∧ 22 ∈ List.range' 1 22
      ∧ 33 ∈ List.range' 23 11 ∧ 47 ∈ List.range' 36 12 ∧ 60 ∈ List.range' 48 13 := by decide +kernel

theorem witness_RequestIsAnswered :
    Instr.request (.setMask .console 0#4 0#10) = some (.console, 0#4, .setMask 0#10) ∧ Request.setMask 0#10 ≠ .linkReset
      ∧ LinkIdle pair .console ∧ admits .console (Request.setMask 0#10).kind = true
      ∧ Instr.request (.readLinks .service 15#4) = some (.service, 15#4, .readLinks) ∧ Request.readLinks ≠ .linkReset
      ∧ LinkIdle pair .service ∧ admits .service Request.readLinks.kind = true ∧ (∀ m, Request.readLinks ≠ .setMask m) :=
  ⟨rfl, by decide, by decide +kernel, by decide, rfl, by decide, by decide +kernel, by decide, by simp⟩

theorem witness_QueueBounds :
    let busy (s : State) := ((s.port .desk).replies.filter fun x => x.role = .busy).length
    let short := desk { fullPort with queue := fullPort.queue.take 3 }
    let room := desk { fullPort with replies := fullPort.replies.take 4 }
    Instr.request (.readLinks .desk 1#4) = some (.desk, 1#4, .readLinks) ∧ Request.readLinks ≠ .linkReset
      ∧ ((short.port .desk).inBreak = false ∧ (short.port .desk).queue ≠ [] ∧ (short.port .desk).queue.length < 4)
      ∧ ((room.port .desk).inBreak = false ∧ (room.port .desk).queue ≠ [] ∧ 4 ≤ (room.port .desk).queue.length ∧ busy room < 4)
      ∧ ((desk fullPort).port .desk).inBreak = false ∧ ((desk fullPort).port .desk).queue ≠ []
      ∧ 4 ≤ ((desk fullPort).port .desk).queue.length ∧ 4 ≤ busy (desk fullPort) := by decide +kernel

theorem witness_TransmissionEnds :
    let q := queuedOf 15#4 .readLinks
    let r : Reply := ⟨.served, 48, 15#4, .ok []⟩
    let one := desk { Port.reset with queue := [q], frontServed := true, replies := [r], tx := .reply }
    let two := desk { Port.reset with queue := [q, q], frontServed := true, replies := [r], tx := .reply }
    let notice := desk { Port.reset with notices := [⟨false, .rackFull⟩], tx := .notice }
    ((one.port .desk).tx = .reply ∧ (one.port .desk).replies = r :: [] ∧ r.role = .served ∧ (one.port .desk).queue = [q])
      ∧ ((notice.port .desk).tx = .notice ∧ (notice.port .desk).notices = ⟨false, .rackFull⟩ :: [])
      ∧ (pair.port .desk).tx = .free
      ∧ (two.port .desk).tx = .reply ∧ (two.port .desk).replies = [r] ∧ (two.port .desk).queue = q :: queuedOf 15#4 .readLinks :: []
      ∧ (two.port .desk).inBreak = false := by decide +kernel

theorem witness_LinkResets :
    ((desk fullPort).port .desk).inBreak = false
      ∧ ((pair.modPort .console fun _ => fullPort).port .console).inBreak = false := by decide +kernel

theorem witness_LinkResets_ties :
    let moving := idle.modGroup .g1 fun r => { r with state := .moving, frozenFrom := some .idle }
    let off (x : SensingLane) : SensingLane :=
      { x with runMode := .normal, contTimer := none, needs := { x.needs with cont := false } }
    let quiet (s : State) : State := { s with sensing := ⟨off s.sensing.left, off s.sensing.right⟩ }
    [9#8].length = 256 * (0#8).toNat + (1#8).toNat ∧ [9#8].length ≤ 1024 ∧ (15#8).toNat ≤ 15
      ∧ (pair.head.state = .active ∧ (quiet pair).headIdles = true) ∧ (idle.head.state = .active ∧ (quiet idle).headIdles = false)
      ∧ (pair.staging = none ∧ (loading []).staging = some ⟨255, .g2, .right, 3, []⟩ ∧ ∀ g, ((loading []).groups.get g).state ≠ .moving)
      ∧ (moving.groups.get .g1).state = .moving := by simp only [slots_iff]; decide +kernel

theorem witness_MasksGovernNotices : LinkIdle pair .desk ∧ LinkIdle pair .console := by decide +kernel

theorem witness_ReadsChangeNothing :
    Instr.request (.readMeter .desk 0#4 1) = some (.desk, 0#4, .readMeter 1) ∧ LinkIdle pair .desk
      ∧ admits .desk (Request.readMeter 1).kind = true
      ∧ (∃ a, readAnswer (.readMeter 1) (pair.queuedUp .desk 0#4 (.readMeter 1)) = some a)
      ∧ Instr.request (.readFeed .console 0#4 2) = some (.console, 0#4, .readFeed 2) ∧ LinkIdle pair .console
      ∧ admits .console (Request.readFeed 2).kind = true
      ∧ (∃ a, readAnswer (.readFeed 2) (pair.queuedUp .console 0#4 (.readFeed 2)) = some a) :=
  ⟨rfl, by decide +kernel, by decide, ⟨_, rfl⟩, rfl, by decide +kernel, by decide, ⟨_, rfl⟩⟩

theorem witness_PortsStayInBounds :
    PortsOk (desk fullPort) ∧ ∃ t, exec (.readLinks .desk 0#4) (desk fullPort) = .next t :=
  ⟨by simp only [PortsOk, links_iff]; decide +kernel, _, rfl⟩

theorem witness_ConfigurationIsSet :
    (LinkIdle pair .desk ∧ 2 ≤ 12 ∧ (configRange 2).1 ≤ 20 ∧ 20 ≤ (configRange 2).2)
      ∧ (LinkIdle pair .desk ∧ (configRange 0).1 ≤ 97 ∧ 97 ≤ (configRange 0).2 ∧ 97 % 2 = 1
        ∧ pair.sessions.left.state = .closed ∧ pair.sessions.right.state = .closed)
      ∧ ((configRange 9).1 ≤ 1 ∧ 1 ≤ (configRange 9).2 ∧ (some 5).bind stepOf = some StepKind.guardUp)
      ∧ ((configRange 10).1 ≤ 6 ∧ 6 ≤ (configRange 10).2 ∧ pair.ret.rack + pair.ret.inLift ≤ 6) := by decide +kernel

theorem witness_ConfigurationIsSet_done :
    let s : State := { State.reset with settings := { Config.defaults with laneNumber := some 97 } }
    (LinkIdle s .desk ∧ s.settings.laneNumber ≠ none ∧ s.configured = false ∧ s.head.state = .off
      ∧ ∀ l, (s.psc.get l).state = .off ∧ (s.sessions.get l).state = .closed ∧ (s.feeds.get l).banner = .none
        ∧ (s.sensing.get l).needs = ⟨false, none, false⟩)
      ∧ (LinkIdle State.reset .desk ∧ State.reset.settings.laneNumber = none)
      ∧ LinkIdle pair .desk ∧ pair.settings.laneNumber ≠ none ∧ pair.configured = true := by
  simp only [lanes_iff]; decide +kernel

theorem witness_HandicapByMode :
    let p : HandicapParams := ⟨200, 90, 255, 255⟩
    p.basis ≤ 200 ∧ 199 < p.basis ∧ p.cap ≤ 255 ∧ p.noAverage ≤ 255
      ∧ ∀ v, HandicapMode.fixed 255 = .fixed v → v ≤ 255 := by
  refine ⟨by decide, by decide, by decide, by decide, fun v h => ?_⟩
  injection h with h
  omega

theorem witness_SetHandicapRecomputesLines :
    LinkIdle playing .desk ∧ 300 ≤ 300 ∧ 100 ≤ 100 ∧ 255 ≤ 255 ∧ playing.dirty = 0#16
      ∧ playing.handicap ≠ ⟨300, 100, 255, 255⟩ := by decide +kernel

theorem witness_TimeRatesAndFlags :
    let bands : List Band := [⟨1439, 65535, 65535⟩, ⟨0, 0, 0⟩]
    LinkIdle pair .desk ∧ 1439 ≤ 1439 ∧ 1439 < 1440 ∧ 1 ≤ bands.length ∧ bands.length ≤ 8
      ∧ (∀ b ∈ bands, b.start ≤ 1439 ∧ b.price ≤ 65535 ∧ b.hourly ≤ 65535) ∧ (bands.map (·.start)).Nodup
      ∧ ¬ 1 ≤ ([] : List Band).length ∧ ¬ (([⟨0, 1, 1⟩, ⟨0, 2, 2⟩] : List Band).map (·.start)).Nodup
      ∧ laneOf 1 = some .right ∧ overflowOf 1 = some .holdAndLock ∧ (pair.sessions.get .right).state = .closed
      ∧ LinkIdle idle .desk ∧ laneOf 0 = some .left ∧ (idle.sessions.get .left).state ≠ .closed := by decide +kernel

theorem witness_OpenSessionOpens :
    LinkIdle pair .desk ∧ laneOf 1 = some .right ∧ billingOf 1 = some .timed ∧ overflowOf 0 = some .hold ∧ 1440 ≤ 1440
      ∧ billingOf 2 = some .prepaidGames ∧ 999 ≤ 999 ∧ billingOf 0 = some .perGame ∧ pair.configured = true
      ∧ (pair.sessions.get .right).state = .closed ∧ pair.coversTen .right = true ∧ pair.timeOfDay ≠ none ∧ pair.rates ≠ [] := by
  decide +kernel

theorem witness_OpenSessionOpens_ready :
    let opening := (machine .checking).modSession .left fun x => { x with state := .opening }
    (opening.psc.get .left).state ≠ .ready ∧ (opening.sessions.get .left).state = .opening
      ∧ ((machine .checking).sessions.get .left).state = .closed := by decide +kernel

theorem witness_UnlockReopens :
    let locked := idle.modSession .left fun x => { x with state := .locked, mode := .prepaidGames, gamesGranted := 64536 }
    LinkIdle locked .desk ∧ laneOf 0 = some .left ∧ billingOf 2 = some .prepaidGames
      ∧ (locked.sessions.get .left).state = .locked ∧ (1 ≤ 999 ∧ 999 ≤ 999)
      ∧ (locked.sessions.get .left).mode = .prepaidGames ∧ (locked.sessions.get .left).prepaidGames + 999 ≤ 999
      ∧ (locked.sessions.get .left).gamesGranted + 999 ≤ 65535
      ∧ billingOf 1 = some .timed ∧ 1440 ≤ 1440 ∧ locked.timeOfDay ≠ none ∧ locked.rates ≠ [] := by decide +kernel

theorem witness_UnlockReopens_pause :
    let s (m : MachineState) (x : SessionState) (f : Option SessionState) : State :=
      (machine m).modSession .left fun y => { y with state := x, pausedFrom := f }
    (((s .fault .overtime none).psc.get .left).state = .fault ∧ ((s .fault .overtime none).sessions.get .left).state = .overtime)
      ∧ (((s .ready .paused (some .overtime)).psc.get .left).state ≠ .fault
        ∧ ((s .ready .paused (some .overtime)).psc.get .left).state ≠ .service ∧ pair.ret.state ≠ .fault
        ∧ ((s .ready .paused (some .overtime)).sessions.get .left).state = .paused
        ∧ ((s .ready .paused (some .overtime)).sessions.get .left).pausedFrom = some .overtime)
      ∧ (((s .ready .opened none).psc.get .left).state ≠ .service ∧ ((s .ready .opened none).sessions.get .left).state = .opened) := by
  decide +kernel

theorem witness_CloseAfterGame :
    let inGame := playing
    let cents := idle.modSession .left fun x => { x with meter := { x.meter with cents := 9999999, fraction := 30 } }
    (LinkIdle cents .desk ∧ laneOf 0 = some .left ∧ (cents.sessions.get .left).state ≠ .closed
      ∧ (cents.sessions.get .left).meter.cents ≤ 9999999 ∧ cents.homeGroup .right = none
      ∧ cents.homeGroup .left = some .g1 ∧ (cents.groups.get .g1).inProgress = false)
      ∧ LinkIdle inGame .desk ∧ (inGame.sessions.get .left).state ≠ .closed ∧ (inGame.sessions.get .left).meter.cents ≤ 9999999
      ∧ inGame.homeGroup .right = none ∧ inGame.homeGroup .left = some .g1 ∧ (inGame.groups.get .g1).inProgress = true
      ∧ (inGame.sessions.get .left).state ≠ .closing := by decide +kernel

theorem witness_CloseAfterGame_follow :
    let s (x : SessionState) (f : Option SessionState) := idle.modSession .left fun y => { y with
      state := x, pausedFrom := f, meter := { y.meter with cents := 9999999, fraction := 30 } }
    (idle.homeGroup .left = some .g1 ∧ (idle.groups.get .g1).inProgress = false ∧ pair.homeGroup .left = none)
      ∧ (((s .overtime none).sessions.get .left).state = .overtime ∧ ((s .overtime none).sessions.get .left).meter.cents ≤ 9999999)
      ∧ (((s .paused (some .overtime)).sessions.get .left).pausedFrom = some .overtime
        ∧ ((s .closing none).sessions.get .left).state = .closing)
      ∧ (playing.homeGroup .left = some .g1 ∧ (playing.groups.get .g1).inProgress = true) := by decide +kernel

/-- The pair with an OPEN session on RIGHT, no group, and the RIGHT machine in a state. -/
def openRight (f : Pinsetter → Pinsetter) : State :=
  (pair.modSession .right fun x => { x with state := .opened, meter := ⟨1, 1, 9999999, 30, false⟩ }).modPsc .right f

theorem witness_CloseNowSettlesTheMeter :
    let ready := openRight fun p => { p with state := .ready }
    LinkIdle ready .desk ∧ laneOf 1 = some .right ∧ (ready.sessions.get .right).state ≠ .closed
      ∧ (ready.sessions.get .right).meter.cents ≤ 9999999 ∧ (ready.pdu.get .right).run = .idle ∧ ready.homeGroup .right = none
      ∧ ready.homeGroup (otherLane .right) = none ∧ (∀ g, (ready.groups.get g).state ≠ .playing)
      ∧ (ready.psc.get .right).state = .ready
      ∧ ((openRight fun p => { p with state := .cycling, recipe := some ⟨.full, .known allPins, .start⟩ }).psc.get .right).recipe ≠ none
      ∧ ((openRight fun p => { p with state := .starting }).psc.get .right).state = .starting
      ∧ ((openRight fun p => { p with state := .fault }).psc.get .right).state = .fault := by
  simp only [slots_iff]; decide +kernel

/-- The group in play on LEFT with its session OPEN on RIGHT too, and its run in a state. -/
def closingPlay (run : RunState) (mode : PlayMode) : State :=
  ((playing.modPdu .left fun p => { p with run := run, record := some (ball 1 7 .provisional) }).modGroup .g1 fun r =>
    { r with playMode := mode }).modSession .right fun x => { x with state := .opened }

theorem witness_CloseNowSettlesTheMeter_play :
    let s := closingPlay .settled .openPlay
    let cross := closingPlay .idle .cross
    let away := cross.modLane .left fun _ => ⟨none, none⟩
    let busy := away.modLane .left fun _ => ⟨some .g2, none⟩
    let moved := idle.modGroup .g1 fun r => { r with state := .moved, frozenFrom := some .idle }
    (LinkIdle s .desk ∧ laneOf 0 = some .left ∧ (s.sessions.get .left).state ≠ .closed
        ∧ (s.pdu.get .left).run = .settled ∧ (s.pdu.get .left).record = some (ball 1 7 .provisional))
      ∧ (((closingPlay .armed .openPlay).pdu.get .left).run = .armed ∧ ((closingPlay .final .openPlay).pdu.get .left).run = .final
        ∧ (cross.pdu.get .left).run = .idle)
      ∧ (cross.homeGroup .left = some .g1 ∧ ((cross.groups.get .g1).inProgress || (cross.groups.get .g1).isFrozen) = true
        ∧ ((moved.groups.get .g1).inProgress || (moved.groups.get .g1).isFrozen) = true)
      ∧ (idle.homeGroup .left = some .g1 ∧ ((idle.groups.get .g1).inProgress || (idle.groups.get .g1).isFrozen) = false
        ∧ (idle.groups.get .g1).state ≠ .playing ∧ ∀ j, (idle.lanes.get j).waiter ≠ some .g1)
      ∧ (LinkIdle cross .desk ∧ laneOf 1 = some .right ∧ (cross.sessions.get .right).state ≠ .closed
        ∧ (cross.pdu.get .right).run = .idle ∧ cross.homeGroup .right = none ∧ cross.homeGroup (otherLane .right) = some .g1
        ∧ (cross.groups.get .g1).playMode = .cross ∧ (cross.groups.get .g1).inProgress = true
        ∧ (cross.lanes.get .left).occupant = some .g1)
      ∧ ((away.lanes.get .left).occupant ≠ some .g1 ∧ (away.lanes.get .left).occupant = none
        ∧ (busy.lanes.get .left).occupant = some .g2 ∧ (away.groups.get .g1).isFrozen = false)
      ∧ ((openRight fun p => { p with state := .checking, recipe := none }).psc.get .right).recipe.isSome = false := by
  simp only [lanes_iff]; decide +kernel

/-- The pair with a TIMED session on LEFT. -/
def timed (f : Session → Session) : State :=
  pair.modSession .left fun x => f { x with state := .opened, mode := .timed, meter := ⟨65535, 65535, 9999990, 59, false⟩ }

theorem witness_MinuteTickMeters :
    let s := timed fun x => { x with overflow := .holdAndLock }
    let spending := timed fun x => { x with minuteAllowance := true, prepaidMinutes := 2 }
    let last := timed fun x => { x with minuteAllowance := true, prepaidMinutes := 1 }
    (s.minuteTimer ≠ none ∧ s.timeOfDay = some 1439 ∧ 1439 ≤ 1439 ∧ s.rates.Pairwise (fun b c => b.start < c.start)
      ∧ BandInForce s.rates 1439 ⟨0, 300, 1200⟩
      ∧ (∀ l, (s.sessions.get l).meter.minutes ≤ 65535 ∧ (s.sessions.get l).meter.cents ≤ 9999999))
      ∧ ((s.sessions.get .left).mode = .timed ∧ (s.sessions.get .left).state = .opened
        ∧ (s.sessions.get .left).minuteAllowance = false)
      ∧ (s.sessions.get .right).state = .closed
      ∧ ((spending.sessions.get .left).minuteAllowance = true ∧ 1 < (spending.sessions.get .left).prepaidMinutes)
      ∧ (last.sessions.get .left).prepaidMinutes = 1 ∧ last.pauseHolds .left = false := by
  simp only [lanes_iff]; decide +kernel

theorem witness_GroupsAreMadeAndDismissed :
    let open' := pair.modSession .left fun x => { x with state := .opened }
    let bowlers : List BowlerSpec := List.replicate 8 ⟨List.replicate 12 65#8, some 300, 1, some 255⟩
    let free := lineIds.filter fun i => (open'.line i).isNone
    LinkIdle open' .console ∧ slotOf 1 = some .g2 ∧ laneOf 0 = some .left ∧ 1 ≤ (List.replicate 12 65#8).length
      ∧ (List.replicate 12 65#8).length ≤ 12 ∧ 1 ≤ bowlers.length ∧ bowlers.length ≤ 8
      ∧ (∀ b ∈ bowlers, 1 ≤ b.name.length ∧ b.name.length ≤ 12 ∧ (∀ a, b.average = some a → a ≤ 300)
        ∧ ∃ m, handicapOf b.mode b.fixed = some m)
      ∧ (open'.groups.get .g2).state = .empty ∧ (open'.groups.get (otherSlot .g2)).state = .empty
      ∧ (open'.sessions.get .left).state ≠ .closed ∧ (open'.sessions.get .left).state ≠ .closing
      ∧ bowlers.length ≤ free.length := by
  refine ⟨by decide +kernel, rfl, rfl, by decide, by decide, by decide, by decide, fun b hb => ?_, by decide +kernel,
    by decide +kernel, by decide +kernel, by decide +kernel, by decide +kernel⟩
  obtain ⟨-, rfl⟩ := List.mem_replicate.mp hb
  exact ⟨by decide, by decide, by simp, _, rfl⟩

theorem witness_GroupsAreMadeAndDismissed_dismiss :
    LinkIdle idle .desk ∧ slotOf 0 = some .g1 ∧ (idle.groups.get .g1).state = .idle ∧ LinkIdle playing .desk
      ∧ (playing.groups.get .g1).state ≠ .idle := by decide +kernel

theorem witness_GroupsChange :
    let b : BowlerSpec := ⟨List.replicate 12 65#8, some 300, 2, none⟩
    LinkIdle playing .console ∧ slotOf 0 = some .g1 ∧ 1 ≤ b.name.length ∧ b.name.length ≤ 12
      ∧ (∀ a, b.average = some a → a ≤ 300) ∧ handicapOf b.mode b.fixed = some .noHandicap
      ∧ (idle.groups.get .g1).state = .idle ∧ (playing.groups.get .g1).state = .playing
      ∧ (playing.groups.get .g1).order.length < 8 ∧ (lineIds.find? fun i => (playing.line i).isNone) = some 1 :=
  ⟨by decide +kernel, rfl, by decide, by decide, by simp, rfl, by decide +kernel, by decide +kernel, by decide +kernel,
    by decide +kernel⟩

theorem witness_GroupsChange_mode :
    let league := (idle.modSession .left fun x => { x with league := true }).modSession .right fun x =>
      { x with state := .overtime, league := true }
    LinkIdle league .console ∧ slotOf 0 = some .g1 ∧ playModeOf 1 = some .cross ∧ (league.groups.get .g1).state = .idle
      ∧ (∀ l, ((league.sessions.get l).state = .opened ∨ (league.sessions.get l).state = .overtime)
        ∧ (league.sessions.get l).league = true)
      ∧ (playing.groups.get .g1).state ≠ .idle
      ∧ (idle.groups.get .g1).playMode ≠ .cross ∧ (idle.sessions.get .left).league = false := by
  simp only [lanes_iff]; decide +kernel

theorem witness_GamePermission :
    let s := timed fun x => { x with mode := .perGame }
    let pre := timed fun x => { x with mode := .prepaidGames, prepaidGames := 8 }
    ((s.sessions.get .left).meter.games ≤ 65535 ∧ (s.sessions.get .left).meter.cents ≤ 9999999
      ∧ s.bandNow = some ⟨0, 300, 1200⟩ ∧ (s.sessions.get .left).state = .opened ∧ (s.sessions.get .left).mode = .perGame)
      ∧ (pair.bandNow = some ⟨0, 300, 1200⟩ ∧ (pair.sessions.get .left).state ≠ .opened)
      ∧ ((pre.sessions.get .left).mode = .prepaidGames ∧ (pre.sessions.get .left).prepaidGames < 9
        ∧ 8 ≤ (pre.sessions.get .left).prepaidGames)
      ∧ ((timed id).sessions.get .left).mode = .timed := by decide +kernel

theorem witness_NewGameStarts :
    LinkIdle idle .console ∧ slotOf 0 = some .g1 ∧ (idle.groups.get .g1).state = .idle
      ∧ (∃ i ∈ (idle.groups.get .g1).order, ∃ l, idle.line i = some l ∧ l.status = .active)
      ∧ (idle.groups.get .g1).playMode ≠ .cross
      ∧ ∃ v, (idle.queuedUp .console 0#4 (.newGame 0)).permitGame (idle.groups.get .g1).home (idle.activeLines .g1) = (v, none) :=
  ⟨by decide +kernel, rfl, by decide +kernel, ⟨0, by decide +kernel, bowler, by decide +kernel, rfl⟩, by decide +kernel, _, rfl⟩

theorem witness_LanesAreHandedOff :
    let s := playing.modLane .left fun r => { r with waiter := some .g2 }
    let busy := playing.modLane .right fun r => { r with occupant := some .g2 }
    (Lane.left ≠ .right ∧ (s.lanes.get .left).occupant = some .g1 ∧ (s.lanes.get .left).waiter ≠ some .g1
      ∧ (s.lanes.get .right).occupant ≠ some .g1 ∧ (s.lanes.get .right).waiter ≠ some .g1
      ∧ (s.lanes.get .right).occupant = none ∧ (s.lanes.get .left).waiter = some .g2)
      ∧ (busy.lanes.get .left).occupant = some .g1 ∧ (busy.lanes.get .left).waiter ≠ some .g1
      ∧ (busy.lanes.get .right).occupant ≠ some .g1 ∧ (busy.lanes.get .right).waiter ≠ some .g1
      ∧ (busy.lanes.get .right).occupant ≠ none := by decide +kernel

theorem witness_LanesAreHandedOff_move :
    let of (s : State) := s.modSession .right fun x => { x with state := .opened }
    (LinkIdle (of playing) .desk ∧ slotOf 0 = some .g1 ∧ laneOf 1 = some .right ∧ ((of playing).groups.get .g1).state = .playing
      ∧ ((of playing).groups.get .g1).playMode = .openPlay ∧ ((of playing).groups.get .g1).home ≠ .right
      ∧ ((of playing).lanes.get .right).occupant = none ∧ ((of playing).groups.get (otherSlot .g1)).state = .empty
      ∧ ((of playing).sessions.get .right).state = .opened ∧ (of playing).ballInPlay ((of playing).groups.get .g1).home = false
      ∧ ((of playing).groups.get .g1).inProgress = true)
      ∧ ((of idle).groups.get .g1).state = .idle ∧ ((of idle).groups.get .g1).inProgress = false
      ∧ (of idle).ballInPlay ((of idle).groups.get .g1).home = false := by decide +kernel

theorem witness_LanesAreHandedOff_advance :
    let done (n : Nat) (mode : PlayMode) : State :=
      (playing.modLine 0 fun l => { l with frames := [frame n [ball 1 7 .final, ball 2 2 .final]] }).modGroup .g1
        fun r => { r with frame := n, playMode := mode }
    let line (n : Nat) : Line := { bowler with frames := [frame n [ball 1 7 .final, ball 2 2 .final]] }
    ((frame 9 []).missed = false ∧ (frame 9 []).number < 10 ∧ ¬ (frame 10 []).number < 10)
      ∧ ((playing.lanes.get .left).occupant = some .g1 ∧ (playing.groups.get .g1).state = .playing ∧ playing.line 0 = some bowler
        ∧ (playing.groups.get .g1).order = [] ++ 0 :: [] ∧ bowler.status = .active ∧ bowler.completed 1 = false
        ∧ bowler.ballsOf 1 = [] ∧ playing.upBowler .left = some (0, 1, 1))
      ∧ ((done 9 .openPlay).line 0 = some (line 9) ∧ (line 9).completed 9 = true
        ∧ ((done 9 .openPlay).groups.get .g1).frame < 10 ∧ ((done 9 .cross).groups.get .g1).playMode ≠ .openPlay)
      ∧ ((done 10 .cross).line 0 = some (line 10) ∧ (line 10).completed 10 = true
        ∧ ¬ ((done 10 .cross).groups.get .g1).frame < 10 ∧ ((done 10 .cross).sessions.get .left).autoNext = false
        ∧ ((done 10 .cross).groups.get .g1).order.Nodup) := by decide +kernel

/-- The group of one bowler with frame 10 complete, auto-next on, and LEFT's session billed in a mode. -/
def gameDone (mode : BillingMode) (prepaid : Nat) : State :=
  ((playing.modLine 0 fun l => { l with frames := [frame 10 [ball 1 7 .final, ball 2 2 .final]] }).modGroup .g1
    fun r => { r with frame := 10, game := some 255 }).modSession .left fun x =>
      { x with autoNext := true, league := true, mode := mode, prepaidGames := prepaid }

theorem witness_LanesAreHandedOff_next :
    let line : Line := { bowler with frames := [frame 10 [ball 1 7 .final, ball 2 2 .final]] }
    let s := gameDone .prepaidGames 1
    let short := gameDone .prepaidGames 0
    let cross := s.modGroup .g1 fun r => { r with playMode := .cross }
    let frozen := s.modGroup .g1 fun r => { r with state := .moving, frozenFrom := some .playing }
    let waits := s.modLane .left fun r => { r with waiter := some .g2 }
    ((s.groups.get .g1).order = [0] ∧ s.line 0 = some line ∧ line.status = .active ∧ line.completed 10 = true
        ∧ (s.groups.get .g1).frame = 10 ∧ (s.groups.get .g1).order.Nodup ∧ (s.groups.get .g1).home = .left)
      ∧ ((s.sessions.get .left).autoNext = true ∧ (s.groups.get .g1).state = .playing ∧ (s.sessions.get .left).state = .opened
        ∧ (s.groups.get .g1).playMode = .openPlay ∧ ¬ (s.sessions.get .left).prepaidGames < 1
        ∧ (s.groups.get .g1).game = some 255)
      ∧ ((short.sessions.get .left).mode = .prepaidGames ∧ (short.sessions.get .left).prepaidGames < 1)
      ∧ ((cross.groups.get .g1).playMode = .cross ∧ (cross.sessions.get .right).league = false)
      ∧ ((frozen.groups.get .g1).state = .moving ∧ (waits.lanes.get .left).waiter = some .g2)
      ∧ ∀ k, (short.port k).mask.getLsbD 1 = true ∧ (short.port k).notices.length ≤ 4 := by
  simp only [links_iff]; decide +kernel

theorem witness_FrameScoresOneToNine :
    (frame 9 [ball 1 9 .final, ball 2 0 .final]).number < 10 ∧ (frame 9 []).missed = false
      ∧ ¬ ((ball 1 9 .final).count = 10 ∧ (ball 1 9 .final).foul = false)
      ∧ (ball 1 9 .final).count + (ball 2 0 .final).count < 10 ∧ (ball 1 9 .final).count + (ball 2 1 .final).count = 10
      ∧ ((ball 1 10 .final).count = 10 ∧ (ball 1 10 .final).foul = false)
      ∧ [ball 1 10 .final].length < 2 := by decide +kernel

theorem witness_FrameTenScore :
    let open' := [ball 1 9 .final, ball 2 0 .final]
    let three := [ball 1 9 .final, ball 2 1 .final, ball 3 10 .final]
    (frame 10 three).number = 10 ∧ (frame 10 three).missed = false ∧ ballsComplete 10 three = true ∧ three.length ≤ 3
      ∧ earnsThird (ball 1 9 .final) (ball 2 1 .final) = true ∧ rangesOk 10 three = true
      ∧ ballsComplete 10 open' = true ∧ open'.length ≤ 3 ∧ ballsComplete 10 [ball 1 10 .final] = false
      ∧ (frameScore (frame 10 three) []).isSome ∧ isStrike (ball 1 10 .final) = true ∧ (frame 8 []).number = 8
      ∧ (frame 9 []).number = 9 ∧ isStrike (ball 1 9 .final) = false
      ∧ (ball 1 9 .final).count + (ball 2 1 .final).count = 10 := by decide +kernel

/-- The bowler in play with copies at the links, its claim timer running when a link holds EDIT. -/
def copied (desk console : CopyState) : State :=
  playing.modLine 0 fun l => { l with
    copies := ⟨desk, .none, console⟩, claimTimer := if desk = .edit ∨ console = .edit then some 12000 else none }

/-- That line. -/
def copiedLine (desk console : CopyState) : Line :=
  { bowler with copies := ⟨desk, .none, console⟩, claimTimer := if desk = .edit ∨ console = .edit then some 12000 else none }

theorem witness_CopiesAndClaims :
    let frozen := (copied .none .none).modGroup .g1 fun r => { r with state := .moving }
    LinkIdle (copied .none .none) .desk ∧ lineOf 1 = some 0 ∧ (copied .none .none).line 0 = some (copiedLine .none .none)
      ∧ (copiedLine .none .none).copies.service ≠ .edit ∧ (copiedLine .none .none).copies.get .console ≠ .edit
      ∧ (frozen.line 0 = some (copiedLine .none .none) ∧ (frozen.groups.get .g1).state = .moving)
      ∧ ((copied .copy .edit).line 0 = some (copiedLine .copy .edit) ∧ ((copied .copy .edit).groups.get .g1).state = .playing
        ∧ (copiedLine .copy .edit).copies.desk ≠ .edit ∧ (copiedLine .copy .edit).copies.console = .edit)
      ∧ (LinkIdle (copied .edit .none) .console ∧ (copied .edit .none).line 0 = some (copiedLine .edit .none)
        ∧ (copiedLine .edit .none).copies.console ≠ .edit ∧ (copiedLine .edit .none).copies.desk = .edit)
      ∧ ((copiedLine .edit .copy).claimTimer ≠ none ∧ (copiedLine .edit .copy).copies.get .desk = .edit
        ∧ (∀ j, (copiedLine .edit .copy).copies.get j = .edit → j = .desk) ∧ ((copied .edit .copy).port .desk).notices.length < 16)
      ∧ (copiedLine .none .none).claimTimer = none := by
  simp only [links_iff]; decide +kernel

theorem witness_ReleaseLineReleases :
    LinkIdle (copied .edit .copy) .service ∧ LinkIdle (copied .edit .copy) .desk ∧ LinkIdle (copied .edit .copy) .console
      ∧ 0 < 1 ∧ 16 < 17 ∧ lineOf 16 = some 15 ∧ (copied .edit .copy).line 15 = none ∧ lineOf 1 = some 0
      ∧ (copied .edit .copy).line 0 = some (copiedLine .edit .copy) ∧ (copiedLine .edit .copy).copies.get .console ≠ .edit
      ∧ (copiedLine .edit .copy).copies.get .desk = .edit
      ∧ (∀ j, (copiedLine .edit .copy).copies.get j = .edit → j = .desk) := by
  simp only [links_iff]; decide +kernel

theorem witness_EditLineEdits :
    let c : LineChanges := ⟨some (List.replicate 12 66#8), some (some 300), some (1, some 255), none, false⟩
    let same : LineChanges := ⟨some [65#8], none, none, none, false⟩
    let s := copied .edit .copy
    LinkIdle s .desk ∧ lineOf 1 = some 0 ∧ s.line 0 = some (copiedLine .edit .copy) ∧ c.position = none ∧ c.withdraw = false
      ∧ (∃ n, c.name = some n) ∧ (∀ n, c.name = some n → 1 ≤ n.length ∧ n.length ≤ 12)
      ∧ (∀ a, c.average = some (some a) → a ≤ 300) ∧ (∀ h, c.handicap = some h → handicapOf h.1 h.2 ≠ none)
      ∧ (s.groups.get .g1).state ≠ .moving ∧ (s.groups.get .g1).state ≠ .moved
      ∧ (copiedLine .edit .copy).copies.get .desk = .edit ∧ 65535 = (copiedLine .edit .copy).version ∧ s.dirty = 0#16
      ∧ c.name.getD (copiedLine .edit .copy).name ≠ (copiedLine .edit .copy).name
      ∧ same.name.getD (copiedLine .edit .copy).name = (copiedLine .edit .copy).name :=
  ⟨by decide +kernel, rfl, by decide +kernel, rfl, rfl, ⟨_, rfl⟩, by simp, by simp, fun h e => by cases e; decide,
    by decide +kernel, by decide +kernel, rfl, rfl, by decide +kernel, by decide +kernel, rfl⟩

/-- The group of two in play, with EDIT of its first line at the desk. -/
def ordered (f : Line → Line) : State := two.setLine 0 (some (f (copiedLine .edit .copy)))

theorem witness_EditLineEdits_order :
    let s := ordered id
    let flying := s.modPdu .left fun p => { p with run := .awaitingEntry }
    LinkIdle s .desk ∧ lineOf 1 = some 0 ∧ s.line 0 = some (copiedLine .edit .copy) ∧ (s.groups.get .g1).state ≠ .moving
      ∧ (s.groups.get .g1).state ≠ .moved ∧ (copiedLine .edit .copy).copies.get .desk = .edit
      ∧ 65535 = (copiedLine .edit .copy).version ∧ s.dirty = 0#16 ∧ 2 ≤ (s.groups.get .g1).order.length
      ∧ ((flying.pdu.get .left).run = .awaitingEntry ∧ (flying.pdu.get .left).binding = some firstBall ∧ firstBall.line = some 0)
      ∧ (s.pdu.get .left).run = .armed ∧ (s.pdu.get .right).run = .idle ∧ positionIn (s.groups.get .g1).order 0 = some 1
      ∧ positionIn (s.groups.get .g1).order 0 ≠ some 2 := by decide +kernel

theorem witness_EditLineEdits_withdraw :
    let l : Line := copiedLine .edit .copy
    let mid : Line := { l with frames := [frame 1 [ball 1 7 .final]] }
    let alone := (ordered id).modLine 1 fun x => { x with status := .withdrawn }
    let last := (ordered id).modLine 1 fun x => { x with frames := [frame 1 [ball 1 7 .final, ball 2 2 .final]] }
    (l.status = .active ∧ l.ballsOf 1 = [] ∧ (two.line 1 = some bowler ∧ bowler.group = .g1 ∧ bowler.status = .active
        ∧ bowler.completed 1 = false ∧ 1 ∈ (two.groups.get .g1).order))
      ∧ (mid.ballsOf 1 ≠ [] ∧ mid.completed 1 = false ∧ (two.groups.get .g1).frame = 1)
      ∧ ((ordered fun x => { x with status := .withdrawn }).line 0 = some { l with status := .withdrawn })
      ∧ ((last.groups.get .g1).inProgress = true ∧ (last.groups.get .g1).frame < 10
        ∧ (last.line 1).map (fun x => (x.status, x.completed 1)) = some (.active, true))
      ∧ (alone.line 1).map (·.status) = some .withdrawn := by decide +kernel

theorem witness_EditLineEdits_last :
    let s := (ordered id).modGroup .g1 fun r => { r with frame := 10 }
    let s := s.modLine 1 fun x => { x with frames := [frame 10 [ball 1 7 .final, ball 2 2 .final]] }
    LinkIdle s .desk ∧ (s.groups.get .g1).inProgress = true ∧ 10 ≤ (s.groups.get .g1).frame
      ∧ s.line 0 = some (copiedLine .edit .copy) ∧ (copiedLine .edit .copy).ballsOf 10 = []
      ∧ (s.line 1).map (fun x => (x.status, x.completed 10)) = some (.active, true)
      ∧ (s.groups.get .g1).order = [0, 1] ∧ (s.sessions.get (s.groups.get .g1).home).autoNext = false
      ∧ (s.pdu.get .left).run = .armed ∧ (s.pdu.get .right).run = .idle := by decide +kernel

/-- Frame 1 of the bowler held with balls 7 and 2, and frame 2 in progress. -/
def bowled (version : Nat) (f : State → State) : State :=
  f ((playing.modLine 0 fun l => { l with version := version, frames := [frame 1 [ball 1 7 .final, ball 2 2 .final]] }).modGroup .g1
    fun r => { r with frame := 2 })

/-- That line. -/
def bowledLine (version : Nat) : Line :=
  { bowler with version := version, frames := [frame 1 [ball 1 7 .final, ball 2 2 .final]] }

/-- A queue of `n` corrections of other balls. -/
def others (n : Nat) : List Correction := (List.range n).map fun k => ⟨k + 1, 15, 1, 1, 1, 0, false, 1⟩

theorem witness_CorrectionsApplyOrQueue :
    let league (s : State) := s.modSession .left fun x => { x with league := true }
    let s := bowled 65535 id
    let q (n : Nat) := bowled 65535 fun s => { league s with corrections := others n, nextEntry := 255 }
    let own : Correction := ⟨9, 0, 1, 1, 2, 1, false, 4⟩
    let held := bowled 65535 fun s => { league s with corrections := others 7 ++ [own] }
    (LinkIdle s .desk ∧ lineOf 1 = some 0 ∧ s.line 0 = some (bowledLine 65535) ∧ s.dirty = 0#16
      ∧ s.correctionRefused (bowledLine 65535) ⟨0, 0, 1, 1, 2, 3, false, 65535⟩ = none ∧ 65535 = (bowledLine 65535).version
      ∧ 1 ≠ (bowledLine 65535).version)
      ∧ (LinkIdle (q 7) .console ∧ (q 7).line 0 = some (bowledLine 65535)
        ∧ (q 7).correctionRefused (bowledLine 65535) ⟨0, 0, 1, 1, 2, 3, false, 65535⟩ = none
        ∧ ((q 7).sessions.get ((q 7).groups.get (bowledLine 65535).group).home).league = true
        ∧ (∀ e ∈ (q 7).corrections, ¬ (e.line = 0 ∧ e.game = 1 ∧ e.frame = 1 ∧ e.ball = 2)) ∧ (q 7).corrections.length < 8)
      ∧ (8 ≤ (q 8).corrections.length ∧ (∀ e ∈ (q 8).corrections, ¬ (e.line = 0 ∧ e.game = 1 ∧ e.frame = 1 ∧ e.ball = 2))
        ∧ (q 8).correctionRefused (bowledLine 65535) ⟨0, 0, 1, 1, 2, 3, false, 65535⟩ = none)
      ∧ (held.corrections = others 7 ++ own :: [] ∧ (own.line = 0 ∧ own.game = 1 ∧ own.frame = 1 ∧ own.ball = 2)
        ∧ (∀ e ∈ others 7 ++ [], ¬ (e.line = 0 ∧ e.game = 1 ∧ e.frame = 1 ∧ e.ball = 2))
        ∧ held.correctionRefused (bowledLine 65535) ⟨0, 0, 1, 1, 2, 3, false, 65535⟩ = none) := by decide +kernel

theorem witness_ApproveResolves :
    let own : Correction := ⟨255, 0, 1, 1, 2, 1, false, 65535⟩
    let s := bowled 65535 fun s => { s with corrections := [own] }
    let frozen := s.modGroup .g1 fun r => { r with state := .moved }
    LinkIdle s .desk ∧ 1 ≤ 255 ∧ 255 ≤ 255 ∧ s.dirty = 0#16 ∧ (∀ e ∈ s.corrections, e.id ≠ 1)
      ∧ s.corrections.find? (fun e => e.id = 255) = some own ∧ s.line own.line = some (bowledLine 65535)
      ∧ (frozen.groups.get .g1).state = .moved ∧ frozen.corrections.find? (fun e => e.id = 255) = some own
      ∧ own.base = (bowledLine 65535).version ∧ own.base ≠ (bowledLine 1).version
      ∧ (bowled 1 fun s => { s with corrections := [own] }).line own.line = some (bowledLine 1) := by decide +kernel

theorem witness_DenyResolves :
    let own : Correction := ⟨255, 0, 1, 1, 2, 1, false, 65535⟩
    let s := bowled 65535 fun s => { s with corrections := others 7 ++ [own] }
    LinkIdle s .service ∧ LinkIdle s .console ∧ LinkIdle s .desk ∧ 0 < 1 ∧ 255 < 256 ∧ (∀ e ∈ s.corrections, e.id ≠ 254)
      ∧ s.corrections = others 7 ++ own :: [] ∧ own.id = 255 ∧ (∀ f ∈ others 7 ++ [], f.id ≠ 255)
      ∧ (s.port .desk).notices.length < 16 := by decide +kernel

theorem witness_ScanSettings :
    let service := machine .service
    LinkIdle service .service ∧ laneOf 0 = some .left ∧ pointOf 11 = some .dr ∧ 11 ≤ 11 ∧ 1023 ≤ 1023
      ∧ (-1023 : Int) ≤ -1023 ∧ (-1023 : Int) < 1023 ∧ (1023 : Int) ≤ 1023 ∧ (service.psc.get .left).state = .service
      ∧ (∀ m, (service.sessions.get m).state = .closed) ∧ scanModeOf 1 = some .split
      ∧ (∀ l, (service.sessions.get l).state = .closed ∨ (service.psc.get l).state = .service) := by
  simp only [lanes_iff]; decide +kernel

/-- The pair in SERVICE on LEFT with the sensing of LEFT changed. -/
def sensed (f : SensingLane → SensingLane) : State := (machine .service).modSensing .left f

theorem witness_MechanicScans :
    let s := machine .service
    let continuous := sensed fun x => { x with runMode := .continuous, contTimer := some 5 }
    LinkIdle s .service ∧ laneOf 0 = some .left ∧ runModeOf 0 = some .normal ∧ runModeOf 1 = some .continuous
      ∧ (s.sensing.get .left).runMode = .normal ∧ (continuous.sensing.get .left).runMode = .continuous
      ∧ (s.psc.get .left).state = .service ∧ (s.pdu.get .left).run = .idle ∧ (pair.psc.get .left).state ≠ .service
      ∧ (∀ n ∈ List.replicate 12 1023, n ≤ 1023) ∧ (List.replicate 12 1023).length = s.effectiveLength .left
      ∧ (∃ n ∈ List.replicate 12 1024, 1023 < n) ∧ (List.replicate 11 0).length ≠ s.effectiveLength .left
      ∧ s.head.state ≠ .off ∧ State.reset.head.state = .off ∧ LinkIdle State.reset .service := by decide +kernel

/-- A scan in flight for a lane. -/
def flight (serial : Nat) : Scan := { serial := serial, length := 12, checkPresent := false, discard := false, timer := some 20 }

theorem witness_HeadTimers :
    let warming := { pair with head := ⟨.warming, .paired, some 200⟩ }
    let scanning := sensed fun x => { x with scan := some (flight 3), contTimer := some 5 }
    warming.head.state = .warming ∧ warming.head.warmTimer ≠ none ∧ pair.head.warmTimer = none
      ∧ (scanning.sensing.get .left).contTimer ≠ none ∧ (pair.sensing.get .left).contTimer = none
      ∧ (pair.sensing.get .left).scan = none ∧ (scanning.sensing.get .left).scan = some (flight 3) ∧ (flight 3).timer ≠ none
      ∧ (∀ j, (scanning.sensing.get j).needs.check = none)
      ∧ (∃ g, (scanning.sensing.get .left).scan = some g ∧ g.serial = (flight 3).serial)
      ∧ ¬ (∃ g, (scanning.sensing.get .right).scan = some g ∧ g.serial = (flight 3).serial) := by
  simp only [lanes_iff]
  refine ⟨by decide, by decide, by decide, by decide +kernel, by decide +kernel, by decide +kernel, by decide +kernel, by decide,
    by decide +kernel, ⟨_, rfl, rfl⟩, ?_⟩
  rintro ⟨g, h, -⟩
  cases (show (none : Option Scan) = some g from h)

theorem witness_HeadTimers_requests :
    let asks (mode : ScanMode) (left right : Bool) : State :=
      (({ pair with head := ⟨.active, mode, none⟩ }).modSensing .left fun x => { x with needs := ⟨left, none, false⟩ }).modSensing
        .right fun x => { x with needs := ⟨right, none, false⟩ }
    let injected := sensed fun x => { x with needs := ⟨true, none, false⟩, injection := some (List.replicate 12 1023) }
    State.reset.head.state ≠ .active ∧ ((asks .split true true).head.mode = .split ∧ ∀ l, 0 < (asks .split true true).effectiveLength l)
      ∧ (∀ l, ((asks .split true true).sensing.get l).needs.run = true ∧ ((asks .split true true).psc.get l).state ≠ .service
        ∧ ((asks .split true true).sensing.get l).fault = false ∧ ((asks .split true true).sensing.get l).scan = none)
      ∧ ((asks .split true false).sensing.get .right).needs = ⟨false, none, false⟩
      ∧ ((asks .paired false true).head.mode = .paired ∧ 0 < (asks .paired false true).effectiveLength .left)
      ∧ ((injected.psc.get .left).state = .service ∧ (injected.sensing.get .left).runMode = .normal
        ∧ (injected.sensing.get .left).needs.run = true ∧ (injected.sensing.get .left).injection ≠ none) := by
  simp only [lanes_iff]; decide +kernel

theorem witness_SlotReadings :
    let k : ScanSlot := { cfg := ⟨.dl, true, 100, 5, -2, true⟩, obs := { (ScanSlot.reset .dl).obs with side := some .above, count := 65535 } }
    k.cfg.low < k.cfg.high ∧ k.cfg.high ≤ (105 : Int) - k.cfg.baseline ∧ (98 : Int) - k.cfg.baseline ≤ k.cfg.low
      ∧ k.cfg.low < (99 : Int) - k.cfg.baseline ∧ (99 : Int) - k.cfg.baseline < k.cfg.high
      ∧ (k.read true 100).2 = true ∧ (k.read true 101).2 = false := by decide +kernel

/-- The group in play on LEFT with its ball SETTLING and a scan in flight. -/
def settling (count : Nat) : State :=
  ((playing.modPdu .left fun p => { p with run := .settling, settleCount := count }).modSensing .left fun x =>
    { x with scan := some (flight 3), needs := ⟨true, none, false⟩ }).modPsc .left fun p => { p with state := .inPlay }

theorem witness_HeadTimers_unserved :
    let check := (psc ((settling 0).modSensing .left fun x => { x with needs := ⟨false, some 5#10, false⟩ }) fun p =>
      { p with state := .checking, recipe := some ⟨.pick, .known 5#10, .play⟩ })
    let dark (needs : Needs) : State := pair.modSensing .left fun x => { x with
      slots := x.slots.mapIdx fun n k => if n = 0 then { k with cfg := { k.cfg with enabled := false } } else k, needs := needs }
    ((check.sensing.get .left).scan = some (flight 3) ∧ (flight 3).timer ≠ none
        ∧ (check.sensing.get .left).needs.check = some 5#10 ∧ (check.sensing.get (otherLane .left)).needs.check = none
        ∧ (check.psc.get .left).state = .checking ∧ (check.psc.get .left).recipe = some ⟨.pick, .known 5#10, .play⟩
        ∧ (check.psc.get .left).closingOwed = false)
      ∧ ((dark ⟨true, none, false⟩).head.state = .active ∧ (dark ⟨true, none, false⟩).effectiveLength .left = 0
        ∧ (∀ j, ((dark ⟨true, none, false⟩).sensing.get j).fault = false ∧ ((dark ⟨true, none, false⟩).sensing.get j).scan = none)
        ∧ ((dark ⟨true, none, false⟩).sensing.get .right).needs = ⟨false, none, false⟩
        ∧ ((dark ⟨true, none, false⟩).psc.get .left).state ≠ .service)
      ∧ (dark ⟨false, some 5#10, false⟩).effectiveLength .left = 0
      ∧ ((dark ⟨false, some 5#10, false⟩).sensing.get .left).needs = ⟨false, some 5#10, false⟩ := by
  simp only [lanes_iff]; decide +kernel

theorem witness_ReadoutsServeTheRun :
    let s := settling 2
    let quiet (raws : List Nat) :=
      let formed := resultSet .left false (readSlots true (s.sensing.get .left).slots raws)
      formed.crossed = false ∧ ∀ pin : Fin 10, hasPin (s.pdu.get .left).deck.pins pin = true →
        ∃ w, formed.points[pin.val]? = some (some (.high, w)) ∨ formed.points[pin.val]? = some (some (.low, w))
    ((s.sensing.get .left).scan = some (flight 3) ∧ (flight 3).discard = false ∧ (List.replicate 12 400).length = (flight 3).length
      ∧ (s.sensing.get (otherLane .left)).scan = none ∧ (s.sensing.get .left).needs = ⟨true, none, false⟩
      ∧ (s.psc.get .left).state ≠ .service ∧ (s.pdu.get .left).run = .settling)
      ∧ (quiet (List.replicate 12 400) ∧ (s.pdu.get .left).settleTarget ≤ (s.pdu.get .left).settleCount + 1
        ∧ (s.pdu.get .left).binding ≠ none ∧ 0 < s.settings.cycleDelay)
      ∧ ((settling 1).pdu.get .left).settleCount + 1 < ((settling 1).pdu.get .left).settleTarget
      ∧ (¬ quiet (List.replicate 12 399) ∧ 0 < (s.pdu.get .left).settleTarget)
      ∧ (¬ ∃ g, (pair.sensing.get .left).scan = some g) ∧ (flight 3).timer ≠ none
      ∧ ([] : List Nat).length ≠ (flight 3).length := by
  refine ⟨by decide +kernel, ⟨⟨by decide +kernel, fun pin _ => ⟨false, Or.inl ?_⟩⟩, by decide +kernel, by decide +kernel,
    by decide +kernel⟩, by decide +kernel, ⟨fun h => ?_, by decide +kernel⟩, ?_, by decide, by decide⟩
  · revert pin; decide +kernel
  · obtain ⟨w, h⟩ := h.2 0 (by decide +kernel)
    cases w <;> revert h <;> decide +kernel
  · rintro ⟨g, h⟩
    cases (show (none : Option Scan) = some g from h)

theorem witness_ReadoutsServeTheRun_first :
    let delay (elapsed : Bool) := (settling 2).modPdu .left fun p => { p with run := .delay, elapsed := elapsed, settleCount := 0 }
    let s := delay true
    let late := ((settling 0).modPdu .left fun p => { p with run := .settled, record := some (ball 1 9 .provisional) }).modSensing
      .left fun x => { x with slots := x.slots.map fun k => { k with cfg := { k.cfg with baseline := 400 } } }
    let cls (s : State) (raws : List Nat) :=
      (resultSet .left false (readSlots true (s.sensing.get .left).slots raws)).points[0]?
    ((s.sensing.get .left).scan = some (flight 3) ∧ (s.sensing.get .left).needs = ⟨true, none, false⟩
        ∧ (s.psc.get .left).state ≠ .service ∧ (s.pdu.get .left).run = .delay ∧ (s.pdu.get .left).elapsed = true
        ∧ (s.pdu.get .left).settleCount + 1 < (s.pdu.get .left).settleTarget)
      ∧ ((late.sensing.get .left).scan = some (flight 3) ∧ (late.sensing.get .left).needs = ⟨true, none, false⟩
        ∧ (late.pdu.get .left).run = .settled ∧ (late.pdu.get .left).binding = some firstBall
        ∧ (late.pdu.get .left).record = some (ball 1 9 .provisional) ∧ (ball 1 9 .provisional).standing = some 1#10
        ∧ hasPin 1#10 0 = true ∧ cls late (List.replicate 12 0) = some (some (.low, false))
        ∧ cls late (List.replicate 12 800) = some (some (.high, false)))
      ∧ ((delay false).pdu.get .left).run = .delay ∧ ((delay false).pdu.get .left).elapsed = false := by decide +kernel

/-- The LEFT machine CHECKING a recipe. -/
def checking (kind : RecipeKind) (origin : RecipeOrigin) (attempts : Nat) (owed : Bool) : State :=
  psc pair fun p => { p with
    state := .checking, recipe := some ⟨kind, .known 5#10, origin⟩, attempts := attempts, closingOwed := owed }

theorem witness_DeckChecks :
    let s := checking .pick .play 1 true
    let twice := checking .pick .play 2 false
    let resumed := checking .rerack .resume 1 false
    ((s.psc.get .left).state = .checking ∧ (s.psc.get .left).recipe = some ⟨.pick, .known 5#10, .play⟩
      ∧ (s.psc.get .left).closingOwed = true ∧ (s.psc.get .left).attempts ≤ 1)
      ∧ ((twice.psc.get .left).state = .checking ∧ (twice.psc.get .left).recipe = some ⟨.pick, .known 5#10, .play⟩
        ∧ (twice.psc.get .left).closingOwed = false ∧ 2 ≤ (twice.psc.get .left).attempts)
      ∧ (resumed.psc.get .left).state = .checking
      ∧ (resumed.psc.get .left).recipe = some ⟨.rerack, .known 5#10, .resume⟩ := by decide +kernel

theorem witness_ArrivalsAndFouls :
    let manual := playing.modPdu .left fun p => { p with source := .manual }
    let quick := { playing with settings := { playing.settings with pinActionDelay := 0 } }
    let r := ball 1 7 .provisional
    let settled := playing.modPdu .left fun p => { p with run := .settled, record := some r, graceTimer := some 100 }
    (pair.pdu.get .left).run ≠ .armed
      ∧ ((manual.pdu.get .left).run = .armed ∧ (manual.psc.get .left).state = .ready ∧ (manual.pdu.get .left).source = .manual)
      ∧ ((playing.pdu.get .left).run = .armed ∧ (playing.psc.get .left).state = .ready ∧ (playing.pdu.get .left).source = .auto
        ∧ (playing.pdu.get .left).deck.set? ≠ none ∧ 0 < playing.settings.pinActionDelay)
      ∧ ((quick.pdu.get .left).run = .armed ∧ (quick.psc.get .left).state = .ready ∧ quick.settings.pinActionDelay = 0)
      ∧ (pair.pdu.get .left).foulOpen = false
      ∧ ((playing.pdu.get .left).foulOpen = true ∧ (playing.pdu.get .left).foulFlag = false
        ∧ (playing.pdu.get .left).run ≠ .settled ∧ playing.dirty = 0#16)
      ∧ ((settled.pdu.get .left).foulOpen = true ∧ (settled.pdu.get .left).foulFlag = false
        ∧ (settled.pdu.get .left).run = .settled ∧ (settled.pdu.get .left).record = some r)
      ∧ (settled.pdu.get .left).graceTimer ≠ none ∧ (playing.pdu.get .left).graceTimer = none := by decide +kernel

theorem witness_RunTimers :
    let delay := playing.modPdu .left fun p => { p with run := .delay, pinTimer := some 150 }
    let scanning := (settling 0).modPdu .left fun p => { p with
      scanTimer := some 5, windowTimer := some 300, lastSet := some (List.replicate 12 (some (.high, false))) }
    ((delay.pdu.get .left).pinTimer ≠ none ∧ (delay.pdu.get .left).run = .delay)
      ∧ ((scanning.pdu.get .left).scanTimer ≠ none ∧ (scanning.pdu.get .left).run = .settling)
      ∧ ((scanning.pdu.get .left).windowTimer ≠ none ∧ 0 < scanning.settings.cycleDelay
        ∧ (scanning.pdu.get .left).binding = some firstBall
        ∧ (scanning.pdu.get .left).lastSet = some (List.replicate 12 (some (.high, false))))
      ∧ (pair.pdu.get .left).pinTimer = none ∧ (pair.pdu.get .left).scanTimer = none
      ∧ (pair.pdu.get .left).windowTimer = none := by decide +kernel

theorem witness_RunTimers_splits :
    let tenth : Binding := ⟨some 0, some 1, some 10, some 3, true, false⟩
    (∀ f, firstBall.frame = some f → f ≤ 10) ∧ (∀ f, tenth.frame = some f → f ≤ 10)
      ∧ (firstBall.frame = some 1 ∧ firstBall.ball = some 1) ∧ (tenth.frame = some 10 ∧ tenth.fullRack = true)
      ∧ splitFlag firstBall false (pinSet [7, 10]) = true ∧ splitFlag tenth false (pinSet [7, 10]) = true
      ∧ splitFlag firstBall true (pinSet [7, 10]) = false
      ∧ splitFlag { firstBall with ball := some 2 } false (pinSet [7, 10]) = false
      ∧ splitFlag { tenth with fullRack := false } false (pinSet [7, 10]) = false
      ∧ splitFlag firstBall false (pinSet [1, 7, 10]) = false := by
  refine ⟨?_, ?_, ?_⟩
  · rintro f ⟨⟩; decide
  · rintro f ⟨⟩; decide
  · decide +kernel

theorem witness_RecipeTable :
    let foul := { ball 1 0 .final with foul := true }
    1 ≤ 1 ∧ 10 ≤ 10 ∧ ((ball 1 10 .final).count = (Deck.known allPins).count ∧ (ball 1 10 .final).foul = false)
      ∧ foul.foul = true ∧ ¬ (((ball 1 9 .final).count = (Deck.known allPins).count ∧ (ball 1 9 .final).foul = false)
        ∨ (ball 1 9 .final).foul = true) ∧ (ball 1 9 .final).standing = some 1#10 := by decide +kernel

theorem witness_BallsBecomeFinal :
    let r := ball 1 7 .provisional
    let settled := (playing.modPdu .left fun p => { p with run := .settled, record := some r, cycleTimer := some 80 }).modPsc
      .left fun p => { p with state := .inPlay }
    let awaiting := playing.modPdu .left fun p => { p with run := .awaitingEntry }
    ((settled.pdu.get .left).cycleTimer ≠ none ∧ (settled.pdu.get .left).run = .settled
      ∧ (settled.pdu.get .left).binding = some firstBall ∧ (settled.pdu.get .left).record = some r
      ∧ (settled.psc.get .left).state = .inPlay ∧ (firstBall.frame ≠ some 10 ∨ firstBall.ball ≠ some 2))
      ∧ (pair.pdu.get .left).cycleTimer = none
      ∧ (LinkIdle awaiting .console ∧ laneOf 0 = some .left ∧ (awaiting.pdu.get .left).run = .awaitingEntry
        ∧ (awaiting.pdu.get .left).binding = some firstBall ∧ 10 ≤ (awaiting.pdu.get .left).deck.count
        ∧ (awaiting.pdu.get .left).deck.count < 11)
      ∧ LinkIdle playing .desk ∧ (playing.pdu.get .left).run ≠ .awaitingEntry := by decide +kernel

theorem witness_BallsBecomeFinal_service :
    let test : Binding := ⟨none, none, none, none, true, true⟩
    let r : BallRecord := { ball 1 7 .provisional with line := none, game := none, frame := none, ball := none, source := .test }
    let settled := (machine .service).modPdu .left fun p => { p with
      run := .settled, record := some r, binding := some test, cycleTimer := some 80 }
    let busy := psc settled fun p => { p with step := some .pick }
    (settled.pdu.get .left).cycleTimer ≠ none ∧ (settled.pdu.get .left).run = .settled
      ∧ (settled.pdu.get .left).binding = some test ∧ (settled.pdu.get .left).record = some r
      ∧ (settled.psc.get .left).state = .service ∧ (test.frame ≠ some 10 ∨ test.ball ≠ some 2)
      ∧ ((settled.psc.get .left).step = none ∧ (settled.psc.get .left).recipe = none)
      ∧ (busy.psc.get .left).state = .service ∧ (busy.psc.get .left).step ≠ none ∧ r.line = none := by decide +kernel

theorem witness_BallsBecomeFinal_lines :
    let b := ball 1 7 .final
    let s := bowled 1 id
    b.line = some 0 ∧ s.line 0 = some (bowledLine 1) ∧ (s.groups.get (bowledLine 1).group).game = b.game ∧ b.frame = some 1
      ∧ b.ball = some 1 ∧ (∃ x ∈ (bowledLine 1).frames, x.number = 1) ∧ pair.line 0 = none
      ∧ (playing.line 0 = some bowler ∧ ∀ x ∈ bowler.frames, x.number ≠ 1) := by
  refine ⟨rfl, by decide +kernel, by decide +kernel, rfl, rfl, ⟨_, List.mem_cons_self, rfl⟩, by decide +kernel, by decide +kernel, ?_⟩
  decide +kernel

theorem witness_SourcesAndTests :
    let run (r : RunState) := playing.modPdu .left fun p => { p with run := r }
    let manual := pair.modPdu .left fun p => { p with source := .manual, deck := .known allPins }
    let faulted := manual.modSensing .left fun x => { x with fault := true }
    let service := machine .service
    (LinkIdle playing .desk ∧ LinkIdle playing .service ∧ laneOf 0 = some .left ∧ sourceOf 0 = some .auto
      ∧ sourceOf 1 = some .manual ∧ (playing.pdu.get .left).source = .auto ∧ (playing.pdu.get .left).run = .armed
      ∧ ((run .final).pdu.get .left).run = .final ∧ ((run .settling).pdu.get .left).run = .settling
      ∧ ((run .settled).pdu.get .left).run = .settled)
      ∧ (LinkIdle manual .service ∧ (manual.pdu.get .left).source = .manual ∧ (manual.pdu.get .left).run = .idle
        ∧ (manual.sensing.get .left).fault = false ∧ (manual.pdu.get .left).deck.set? ≠ none)
      ∧ (faulted.sensing.get .left).fault = true
      ∧ (LinkIdle service .service ∧ pinsOf 1023 = some allPins ∧ allPins ≠ 0#10 ∧ (service.psc.get .left).state = .service
        ∧ (service.sensing.get .left).runMode = .normal ∧ (service.pdu.get .left).run = .idle
        ∧ 0 < service.settings.pinActionDelay)
      ∧ (pair.psc.get .left).state ≠ .service := by decide +kernel

theorem witness_SourcesAndTests_arming :
    let s (r : RunState) := playing.modPdu .left fun p => { p with run := r }
    let other := playing.modPdu .left fun p => { p with binding := some { firstBall with ball := some 2 } }
    let out := playing.modPsc .left fun p => { p with state := .cycling }
    let none' := (idle.modPdu .left fun p => { p with run := .final })
    ((playing.psc.get .left).state = .ready ∧ playing.upBowler .left = some (0, 1, 1)
        ∧ (playing.lanes.get .left).occupant = some .g1 ∧ ((s .final).pdu.get .left).run = .final)
      ∧ ((playing.pdu.get .left).binding = some firstBall ∧ firstBall.line = some 0
        ∧ firstBall.game = (playing.groups.get .g1).game ∧ firstBall.frame = some 1 ∧ firstBall.ball = some 1)
      ∧ ((other.pdu.get .left).run = .armed ∧ (other.pdu.get .left).binding = some { firstBall with ball := some 2 })
      ∧ ((out.psc.get .left).state ≠ .ready ∧ (out.pdu.get .left).run = .armed)
      ∧ ((none'.psc.get .left).state = .ready ∧ none'.upBowler .left = none ∧ (none'.pdu.get .left).run = .final)
      ∧ ((s .delay).pdu.get .left).run = .delay := by decide +kernel

theorem witness_StepsFollowOneAnother :
    let starting := psc pair fun p => { p with state := .starting, startTimer := some 400 }
    let next := stepping .cycling .pick [.sweep]
    let held := { next with ret := { BallReturn.reset with pits := ⟨[0, 1], []⟩ } }
    let last := psc (stepping .cycling .guardUp []) fun p => { p with recipe := some ⟨.full, .known allPins, .start⟩ }
    let unknown := psc (stepping .cycling .guardUp []) fun p => { p with recipe := some ⟨.pick, .unknown 3, .play⟩ }
    let winding := psc (stepping .cycling .sweep []) fun p => { p with windingDown := true }
    ((starting.psc.get .left).state = .starting ∧ (starting.psc.get .left).startTimer ≠ none)
      ∧ (pair.psc.get .left).startTimer = none
      ∧ ((next.psc.get .left).step = some .pick ∧ (next.psc.get .left).windingDown = false
        ∧ (next.psc.get .left).state = .cycling ∧ (next.psc.get .left).queue = .sweep :: []
        ∧ (next.ret.pits.get .left).length < 2)
      ∧ ((held.psc.get .left).queue = .sweep :: [] ∧ 2 ≤ (held.ret.pits.get .left).length)
      ∧ ((last.psc.get .left).step = some .guardUp ∧ (last.psc.get .left).queue = []
        ∧ (last.psc.get .left).recipe = some ⟨.full, .known allPins, .start⟩ ∧ (last.pdu.get .left).source = .auto
        ∧ (last.sensing.get .left).fault = false)
      ∧ ((unknown.psc.get .left).recipe = some ⟨.pick, .unknown 3, .play⟩ ∧ (Deck.unknown 3).set? = none)
      ∧ (((stepping .service .pick []).psc.get .left).step = some .pick
        ∧ ((stepping .service .pick []).psc.get .left).state = .service
        ∧ ((stepping .service .pick []).psc.get .left).recipe = none)
      ∧ (winding.psc.get .left).step = some .sweep ∧ (winding.psc.get .left).windingDown = true
      ∧ (winding.sessions.get .left).state = .closed := by decide +kernel

theorem witness_StepsFollowOneAnother_rest :
    let rack (kind : RecipeKind) := psc (stepping .cycling .guardUp []) fun p => { p with
      recipe := some ⟨kind, .known allPins, .close⟩, closingOwed := true }
    let faulted := (rack .full).modSensing .left fun x => { x with fault := true }
    let owed := (rack .pick).modSensing .left fun x => { x with fault := true }
    let test (queue : List StepKind) := psc (stepping .service .pick queue) fun p => { p with
      recipe := some ⟨.pick, .known 5#10, .test⟩, remainder := some .guardUp }
    let full (s : State) : State := { s with ret := { BallReturn.reset with pits := ⟨[0, 1], []⟩ } }
    let waits := psc (test [.sweep, .respot]) fun p => { p with step := none, pitHold := true }
    ((faulted.psc.get .left).step = some .guardUp ∧ (faulted.psc.get .left).windingDown = false
        ∧ (faulted.psc.get .left).state = .cycling ∧ (faulted.psc.get .left).queue = []
        ∧ (faulted.psc.get .left).recipe = some ⟨.full, .known allPins, .close⟩ ∧ (faulted.sensing.get .left).fault = true)
      ∧ ((owed.psc.get .left).recipe = some ⟨.pick, .known allPins, .close⟩ ∧ RecipeKind.pick ≠ .full
        ∧ (owed.psc.get .left).closingOwed = true ∧ (owed.sensing.get .left).fault = true)
      ∧ (((test [.sweep]).psc.get .left).step = some .pick ∧ ((test [.sweep]).psc.get .left).windingDown = false
        ∧ ((test [.sweep]).psc.get .left).state = .service
        ∧ ((test [.sweep]).psc.get .left).recipe = some ⟨.pick, .known 5#10, .test⟩
        ∧ ((test [.sweep]).psc.get .left).queue = .sweep :: [] ∧ ((test [.sweep]).ret.pits.get .left).length < 2)
      ∧ (((full (test [.sweep])).psc.get .left).queue = .sweep :: [] ∧ 2 ≤ ((full (test [.sweep])).ret.pits.get .left).length)
      ∧ ((test []).psc.get .left).queue = []
      ∧ ((waits.psc.get .left).state = .service ∧ (waits.psc.get .left).pitHold = true
        ∧ (waits.psc.get .left).queue = .sweep :: [.respot] ∧ (waits.ret.pits.get .left).length < 2) := by decide +kernel

theorem witness_StepsFail :
    let s (n : Nat) := psc (stepping .cycling .pick []) fun p => { p with redo := n, stray := 65535 }
    ((s 2).psc.get .left).step = some .pick ∧ ((s 2).psc.get .left).redo < 3 ∧ 3 ≤ ((s 3).psc.get .left).redo
      ∧ ((s 3).psc.get .left).stepTimer ≠ none ∧ ((s 3).psc.get .left).state ≠ .service
      ∧ ((stepping .service .pick []).psc.get .left).state = .service ∧ (pair.psc.get .left).step = none := by decide +kernel

theorem witness_StepsByRequest :
    let service := machine .service
    let full := { service with ret := { BallReturn.reset with pits := ⟨[0, 1], []⟩ } }
    (laneOf 0 = some .left ∧ LinkIdle (machine .ready) .console ∧ ((machine .ready).psc.get .left).state = .ready)
      ∧ (LinkIdle pair .desk ∧ (pair.psc.get .left).state ≠ .ready)
      ∧ (LinkIdle service .service ∧ stepOf 2 = some .sweep ∧ stepOf 5 = some .guardUp ∧ (service.psc.get .left).state = .service
        ∧ (service.psc.get .left).step = none ∧ (service.psc.get .left).recipe = none
        ∧ ¬ 2 ≤ (service.ret.pits.get .left).length)
      ∧ 2 ≤ (full.ret.pits.get .left).length ∧ ((stepping .service .pick []).psc.get .left).step ≠ none
      ∧ (pair.psc.get .left).state ≠ .service := by decide +kernel

theorem witness_MechanicStopsAndResumes :
    let fault := psc pair fun p => { p with state := .fault, cause := some .jam }
    let service := (machine .service).modPdu .left fun p => { p with deck := .known allPins }
    let expects := playing.modPsc .left fun p => { p with state := .service }
    (LinkIdle fault .service ∧ laneOf 0 = some .left ∧ (fault.psc.get .left).state = .fault)
      ∧ (LinkIdle (stepping .cycling .pick []) .service
        ∧ ((stepping .cycling .pick []).psc.get .left).state = .cycling
        ∧ ((stepping .cycling .pick []).pdu.get .left).run ≠ .settled)
      ∧ ((service.psc.get .left).state = .service ∧ (service.psc.get .left).step = none ∧ (service.psc.get .left).recipe = none
        ∧ service.expectedDeck .left = .known allPins ∧ (service.pdu.get .left).source = .auto
        ∧ (service.sensing.get .left).fault = false)
      ∧ LinkIdle expects .service ∧ (expects.psc.get .left).state = .service := by decide +kernel

theorem witness_MechanicStopsAndResumes_settled :
    let r := ball 1 7 .provisional
    let s := (playing.modPdu .left fun p => { p with run := .settled, record := some r }).modPsc .left fun p => { p with
      state := .inPlay }
    LinkIdle s .service ∧ (s.psc.get .left).state = .inPlay ∧ (s.pdu.get .left).run = .settled
      ∧ (s.pdu.get .left).testing = false ∧ (s.pdu.get .left).record = some r := by decide +kernel

theorem witness_ReturnEvents :
    let s := returning [0, 1] [65535] (some ⟨7, .left⟩) 0
    let fault := { s with ret := { s.ret with state := .fault } }
    let r := (returning [1] [65535] none 11).ret
    let held := { r with pits := ⟨[1], [65534, 65535]⟩, holds := ⟨false, true⟩ }
    ((s.ret.pits.get .right).length < 2 ∧ 2 ≤ (s.ret.pits.get .left).length ∧ s.ret.state = .running
      ∧ fault.ret.state = .fault ∧ 2 ≤ (fault.ret.pits.get .left).length ∧ s.ret.lift ≠ none ∧ s.ret.rack = 0
      ∧ s.ret.carryTimer ≠ none)
      ∧ (r.lift = none ∧ 0 < r.rack ∧ r.carryTimer = none ∧ r.state = .running ∧ r.rack < 12)
      ∧ ((r.pits.get .right = 65535 :: [] ∧ r.pits.get .left = 1 :: []) ∧ 1 ≤ (1 + 65536 - 65535) % 65536
        ∧ (1 + 65536 - 65535) % 65536 ≤ 32767)
      ∧ (held.holds.right = true ∧ held.pits.get .right = 65534 :: [65535] ∧ ¬ held.holds.get .left = true)
      ∧ s.ret.lift ≠ none := by decide +kernel

theorem witness_ClearReturnClears :
    let s := returning [1, 2] [] (some ⟨7, .left⟩) 11
    let fault := { s with ret := { s.ret with state := .fault, cause := some .liftJam } }
    (LinkIdle fault .service ∧ 0 ≤ 1 ∧ 2 ≤ 3 ∧ 3 ≤ 3 ∧ (∀ n, some 11 = some n → n ≤ fault.settings.rackCapacity - (fault.ret.inLift - 0))
      ∧ fault.ret.lift = some ⟨7, .left⟩)
      ∧ (fault.ret.lift ≠ none ∧ fault.ret.pits.left.drop 2 = [] ∧ fault.ret.pits.right.drop 3 = []
        ∧ (∀ n, some 12 = some n → n ≤ fault.settings.rackCapacity - (fault.ret.inLift - 1))
        ∧ ∀ l, (fault.sessions.get l).pausedFrom ≠ some .closed)
      ∧ ¬ (2 ≤ 1) ∧ ¬ 13 ≤ fault.settings.rackCapacity - (fault.ret.inLift - 1) := by
  refine ⟨⟨by decide +kernel, by decide, by decide, by decide, ?_, rfl⟩, ⟨by decide, rfl, rfl, ?_, ?_⟩, by decide, by decide +kernel⟩
  · rintro n ⟨⟩
    decide +kernel
  · rintro n ⟨⟩
    decide +kernel
  · simp only [lanes_iff]; decide +kernel

theorem witness_ClearReturnClears_held :
    LinkIdle held .service ∧ held.ret.lift = none ∧ held.ret.pits.left.drop 1 ≠ []
      ∧ (∀ l, (held.psc.get l).pitHold = held.ret.holds.get l ∧ (held.ret.holds.get l = true → (held.psc.get l).queue ≠ []))
      ∧ 12 ≤ held.settings.rackCapacity - (held.ret.inLift - 0) := by simp only [lanes_iff]; decide +kernel

theorem witness_MonitorRows :
    let at' (n : Nat) (half : Half) := pair.modFeed .left fun f => { f with pointer := n, markLower := true, pendingHalf := half }
    LinkIdle pair .console ∧ laneOf 0 = some .left ∧ (∀ n ∈ [1, 8], 1 ≤ n ∧ n ≤ 8)
      ∧ (pair.feeds.get .left).composeOwed = false ∧ (pair.feeds.get .left).markLower = false
      ∧ (((at' 31 .none).feeds.get .left).composeOwed = false ∧ ((at' 31 .none).feeds.get .left).markLower = true
        ∧ ((at' 31 .none).feeds.get .left).pointer = 31)
      ∧ ((at' 63 .lower).feeds.get .left).pointer = 63 ∧ ((at' 63 .lower).feeds.get .left).pendingHalf = .lower
      ∧ ((at' 63 .lower).feeds.get .left).markUpper = false := by decide +kernel

theorem witness_MonitorRows_banners :
    let s (m : MachineState) (x : SessionState) : State := (machine m).modSession .left fun y => { y with state := x }
    let moving := idle.modGroup .g1 fun r => { r with state := .moving }
    State.reset.configured = false ∧ (pair.configured = true ∧ (pair.sessions.get .left).state = .closed)
      ∧ ((moving.sessions.get .left).state ≠ .closed ∧ moving.homeGroup .left = some .g1
        ∧ (moving.groups.get .g1).state = .moving ∧ moving.configured = true)
      ∧ (∀ g, ((s .fault .opened).groups.get g).state ≠ .moving ∧ ((s .fault .opened).groups.get g).state ≠ .moved)
      ∧ (((s .fault .opened).psc.get .left).state = .fault ∧ ((s .service .locked).psc.get .left).state = .service)
      ∧ (((s .standby .locked).sessions.get .left).state = .locked ∧ ((s .standby .locked).lanes.get .left).occupant = none
        ∧ ((s .standby .locked).lanes.get .left).waiter = none)
      ∧ ((playing.sessions.get .left).state ≠ .closed ∧ (playing.sessions.get .left).state ≠ .locked
        ∧ playing.configured = true) := by simp only [slots_iff]; decide +kernel

theorem witness_MonitorRows_rows :
    playing.shownLower .left = some .g1 ∧ (playing.groups.get .g1).order[1 - 1]? = some 0 ∧ playing.line 0 = some bowler
      ∧ (playing.groups.get .g1).order.length < 8 ∧ pair.shownLower .right = none
      ∧ (pair.sessions.get .left).meterDisplay = false
      ∧ ((pair.modSession .left fun x => { x with meterDisplay := true }).sessions.get .left).meterDisplay = true := by
  decide +kernel

theorem witness_GroupsAreSaved :
    let save (state : GroupState) (sent : Nat) : State :=
      { (idle.modGroup .g1 fun r => { r with state := state, frozenFrom := some .idle }) with
        outbound := ⟨some ⟨idle.entriesOf .g1, sent⟩, none⟩ }
    (LinkIdle playing .desk ∧ slotOf 0 = some .g1 ∧ (playing.groups.get .g1).state = .playing
      ∧ (∀ l, (playing.lanes.get l).occupant = some .g1 →
        ((playing.pdu.get l).run = .idle ∨ (playing.pdu.get l).run = .armed)
          ∧ ((playing.psc.get l).state = .ready ∨ (playing.psc.get l).state = .standby ∨ (playing.psc.get l).state = .service))
      ∧ 0 ∈ (playing.groups.get .g1).order ∧ playing.line 0 = some bowler ∧ bowler.claimTimer = none
      ∧ (∀ k, bowler.copies.get k ≠ .edit))
      ∧ (((save .moving 2).groups.get .g1).state = .moving ∧ (save .moving 2).outbound.get .g1 = some ⟨idle.entriesOf .g1, 2⟩
        ∧ 2 < (idle.entriesOf .g1).length ∧ ((save .moving 2).groups.get .g1).frozenFrom = some .idle)
      ∧ (LinkIdle (save .moved 3) .desk ∧ ((save .moved 3).groups.get .g1).state = .moved) := by
  simp only [lanes_iff, links_iff]; decide +kernel

/-- The entries of an IDLE group of one bowler that has never bowled. -/
def load : List EntryContent :=
  [.header [71#8] 0 none false 1 none, .line [65#8] (some 300) 2 none 0 [], .frames []]

theorem witness_LoadsAreStaged :
    let s := loading (load.take 2)
    let header : LoadHeader := ⟨[71#8], .openPlay, none, false, 1⟩
    let empty := { s with staging := none, gapTimer := none }
    (LinkIdle empty .desk ∧ slotOf 1 = some .g2 ∧ laneOf 1 = some .right ∧ 1 ≤ 255 ∧ 255 ≤ 255 ∧ 3 ≤ 3 ∧ 17 ≤ 17
      ∧ empty.staging = none ∧ (empty.groups.get .g2).state = .empty ∧ (empty.groups.get (otherSlot .g2)).state = .empty
      ∧ (empty.sessions.get .right).state = .opened ∧ (pair.staging = none ∧ (pair.sessions.get .right).state ≠ .opened))
      ∧ (LinkIdle s .desk ∧ s.staging = some ⟨255, .g2, .right, 3, load.take 2⟩ ∧ 1 ≤ (load.drop 2).length
        ∧ (load.drop 2).length ≤ 4 ∧ (load.take 2 ++ load.drop 2).length ≤ 3 ∧ 3 < (load.take 2 ++ load.take 2).length
        ∧ 254 ≠ 255)
      ∧ (s.loadFails ⟨255, .g2, .right, 3, load.take 2 ++ load.drop 2⟩ = none ∧ loadHeader load = some header
        ∧ header.inProgress = false)
      ∧ (s.loadFails ⟨255, .g2, .right, 3, load.take 2 ++ load.take 2⟩).isSome
      ∧ s.gapTimer ≠ none ∧ pair.gapTimer = none := by decide +kernel

theorem witness_LoadsAreStaged_checks :
    let strike : EntryBall := ⟨10, false, false, 0, some 1023, some 0⟩
    let open_ : List EntryBall := [⟨7, false, false, 0, some 1023, none⟩, ⟨3, false, false, 0, some 7, none⟩]
    let entries (progress : Bool) (k : Nat) (frames : List EntryFrame) : List EntryContent :=
      [.header [71#8] 0 (some 255) progress k none, .line [65#8] (some 300) 1 (some 255) 0 [⟨255, 300, 255⟩], .frames frames]
    let whole (n : Nat) : List EntryFrame := (List.range n).map fun i => ⟨i + 1, false, [strike]⟩
    let s := loading []
    let none' := pair
    let full : State := { s with lines := Vector.replicate 16 (some bowler) }
    let fails (s : State) (expected : Nat) (es : List EntryContent) : Option AbandonReason :=
      (s.loadFails ⟨255, .g2, .right, expected, es⟩).map (·.1)
    (fails s 3 (entries true 10 (whole 9)) = none ∧ fails s 17 (entries true 10 (whole 9)) = some .count)
      ∧ (fails s 3 [.frames [], .frames [], .frames []] = some .order ∧ fails s 2 (load.take 2) = some .order)
      ∧ fails s 3 [.header (List.replicate 13 71#8) 0 none false 1 none, .line [65#8] none 2 none 0 [], .frames []] = some .values
      ∧ (fails s 3 (entries true 2 [⟨1, false, open_⟩]) = none
        ∧ fails s 3 (entries true 2 [⟨1, false, open_ ++ [strike]⟩]) = some .laws
        ∧ fails s 3 (entries true 10 (whole 8)) = some .laws ∧ fails s 3 (entries false 10 (whole 9)) = none)
      ∧ (fails none' 3 load = some .target ∧ fails full 3 load = some .ids) := by decide +kernel

theorem witness_PairClearClears :
    LinkIdle playing .desk
      ∧ (∀ l, (playing.sessions.get l).meter.cents ≤ 9999999 ∧ (playing.sessions.get l).pausedFrom ≠ some .closed)
      ∧ (loading load).staging ≠ none ∧ LinkIdle (loading load) .desk ∧ (playing.pdu.get .left).run ≠ .idle
      ∧ ((machine .off).psc.get .left).state = .off ∧ ((machine .ready).psc.get .left).state = .ready
      ∧ ((machine .ready).psc.get .left).step = none ∧ ((stepping .cycling .pick []).psc.get .left).step ≠ none
      ∧ (machine .ready).configured = true := by
  simp only [lanes_iff]; decide +kernel

theorem witness_DirectoryStaysInBounds :
    CorrectionsOk { pair with corrections := others 8, nextEntry := 255 } ∧ ClaimsOk (copied .edit .copy)
      ∧ (∃ t, exec (.deny .desk 0#4 1) { pair with corrections := others 8, nextEntry := 255 } = .next t)
      ∧ ∃ t, exec (.claimTimerExpiry 1) (copied .edit .copy) = .next t := by
  refine ⟨by decide +kernel, fun i l h => ?_, ⟨_, rfl⟩, _, rfl⟩
  have key : ∀ i : LineId, (copied .edit .copy).line i = if i = 0 then some (copiedLine .edit .copy) else none := by decide +kernel
  rw [key] at h
  split at h
  · obtain rfl : copiedLine .edit .copy = l := by injection h
    exact ⟨by simp only [links_iff]; decide +kernel, fun _ => ⟨.desk, rfl⟩, fun _ => rfl⟩
  · cases h

theorem witness_FiguresStayInBounds :
    (MetersOk (timed id) ∧ ∃ t, exec .minuteTimerExpiry (timed id) = .next t)
      ∧ (ReturnOk (returning [0, 1] [65535] (some ⟨7, .left⟩) 11)
        ∧ ∃ t, exec .liftTopSensor (returning [0, 1] [65535] (some ⟨7, .left⟩) 11) = .next t)
      ∧ (FeedsOk (pair.modFeed .left fun f => { f with pointer := 63 })
        ∧ ∃ t, exec (.rowPull .left) (pair.modFeed .left fun f => { f with pointer := 63 }) = .next t) :=
  ⟨⟨by simp only [MetersOk, lanes_iff]; decide +kernel, _, rfl⟩, ⟨by simp only [ReturnOk, lanes_iff]; decide +kernel, _, rfl⟩,
    by simp only [FeedsOk, lanes_iff]; decide +kernel, _, rfl⟩

theorem witness_FiguresStayInBounds_control :
    let paused := pair.modSession .left fun x => { x with state := .paused, pausedFrom := some .overtime }
    let waits := (checking .pick .play 1 false).modSensing .left fun x => { x with needs := ⟨false, some 5#10, false⟩ }
    let tests := psc held fun p => { p with state := .service, recipe := some ⟨.pick, .known 5#10, .test⟩ }
    (PausesOk paused ∧ ∃ t, exec (.arrival .left) paused = .next t)
      ∧ (ControlsOk held ∧ ArmedOk held ∧ ∃ t, exec (.pitDetector .right) held = .next t)
      ∧ (ControlsOk tests ∧ ArmedOk tests ∧ ∃ t, exec .liftTopSensor tests = .next t)
      ∧ (ControlsOk waits ∧ ArmedOk waits ∧ ∃ t, exec (.readoutTimeout .left) waits = .next t)
      ∧ (ControlsOk (stepping .cycling .pick [.sweep]) ∧ ArmedOk (stepping .cycling .pick [.sweep])
        ∧ ∃ t, exec (.done .left) (stepping .cycling .pick [.sweep]) = .next t)
      ∧ (ControlsOk playing ∧ ArmedOk playing ∧ (playing.pdu.get .left).run = .armed
        ∧ ∃ t, exec (.arrival .left) playing = .next t) := by
  have control (configured : Bool) (p : Pinsetter) (hold : Bool) (check : Option Pins) : ControlOk configured p hold check ↔
      (configured = false → p.state = .off) ∧ hold = p.pitHold
        ∧ (p.pitHold = true → p.step = none ∧ p.queue.head? = some .sweep
          ∧ (p.state = .heldPit ∨ p.state = .service ∧ p.recipe ≠ none))
        ∧ (p.step ≠ none → p.state = .cycling ∨ p.state = .service) ∧ (check ≠ none → p.state = .checking) :=
    ⟨fun h => ⟨h.off, h.told, h.held, h.steps, h.checks⟩, fun ⟨a, b, c, d, e⟩ => ⟨a, b, c, d, e⟩⟩
  intro paused waits tests
  simp only [PausesOk, ControlsOk, ArmedOk, lanes_iff, control]
  exact ⟨⟨by decide +kernel, _, rfl⟩, ⟨by decide +kernel, by decide +kernel, _, rfl⟩,
    ⟨by decide +kernel, by decide +kernel, _, rfl⟩, ⟨by decide +kernel, by decide +kernel, _, rfl⟩,
    ⟨by decide +kernel, by decide +kernel, _, rfl⟩, by decide +kernel, by decide +kernel, by decide +kernel, _, rfl⟩

theorem witness_FrameScoresOneToNine_lines :
    let strike := ball 1 10 .final
    let nine := ball 1 9 .final
    let one := ball 2 1 .provisional
    let score (f : FrameRecord) (after : List BallRecord) := frameScore f after
    (score { frame 1 [] with missed := true } [] = some (0, .final)
      ∧ score (frame 9 [strike]) [strike, one] = some (21, .provisional)
      ∧ score (frame 9 [nine, one]) [strike] = some (20, .provisional)
      ∧ score (frame 9 [nine, ball 2 0 .final]) [] = some (9, .final)
      ∧ score (frame 10 [nine, one, strike]) [] = some (20, .provisional)
      ∧ score (frame 10 [nine, ball 2 0 .final]) [] = some (9, .final))
      ∧ (let open' (n : Nat) := frame n [nine, ball 2 0 .final]
        let l : Line := { bowler with frames := (List.range 10).map fun n => open' (n + 1) }
        let short : Line := { bowler with frames := (List.range 9).map fun n => open' (n + 1) }
        let p : HandicapParams := ⟨200, 90, 50, 20⟩
        (l.status = .active ∧ l.frames.length ≤ 10 ∧ ((computeLine p l).frames[9]?.bind (·.running)) = some 90)
          ∧ (short.status = .active ∧ short.frames.length ≤ 10 ∧ (computeLine p short).frames[9]? = none)
          ∧ (let gone : Line := { short with status := .withdrawn, frames := [open' 1, frame 2 [strike]] }
            (computeLine p gone).frames.map (·.running) = [some 9, none] ∧ gone.frames[0]? = some (open' 1))
          ∧ ∀ h ∈ (computeLine p { short with status := .withdrawn, frames := [frame 1 [strike]] }).frames, h.running = none) := by
  decide +kernel

theorem witness_FrameScoresOneToNine_marks :
    let strike := ball 1 10 .final
    let nine := ball 1 9 .final
    let tens := [strike, strike, strike]
    let spare := [nine, ball 2 1 .final, strike]
    let other := [strike, ball 2 4 .final, ball 3 6 .final]
    let fouled := [{ nine with count := 0, foul := true }, ball 2 10 .final]
    (derivedSplit 9 1 { nine with count := 8, standing := some (pinSet [7, 10]) } = true
        ∧ derivedSplit 10 3 { nine with count := 8, standing := some (pinSet [7, 10]) } = true ∧ derivedSplit 9 2 nine = false)
      ∧ (10 ≤ 10 ∧ tens[0]? = some strike ∧ tens[1]? = some strike ∧ tens[2]? = some strike ∧ (2 ≤ 2 → 10 = 10)
        ∧ strike.count = 10 ∧ (strike.count = 10 ∧ strike.foul = false))
      ∧ (spare[2]? = some strike ∧ ¬ (nine.count = 10 ∧ nine.foul = false) ∧ nine.count + (ball 2 1 .final).count = 10
        ∧ spare[1]? = some (ball 2 1 .final))
      ∧ (other[2]? = some (ball 3 6 .final) ∧ (ball 2 4 .final).count < 10
        ∧ (ball 2 4 .final).count + (ball 3 6 .final).count = 10)
      ∧ (fouled[0]?.map (·.foul) = some true ∧ fouled[1]? = some (ball 2 10 .final))
      ∧ ([nine, ball 2 0 .final][1]? = some (ball 2 0 .final) ∧ nine.count + (ball 2 0 .final).count ≠ 10) := by decide +kernel

theorem witness_FrameScoresOneToNine_totals :
    let run (n v : Nat) (st : FigureState) : FrameRecord := { frame n [ball 1 9 .final] with running := some v, state := some st }
    let frames := [run 1 9 .final, run 2 19 .provisional, frame 3 []]
    let held (t : Option Total) : State := playing.modLine 0 fun l => { l with frames := frames, gameTotal := t }
    let part (s : State) := (s.linesOf .g1).filter fun y => !y.frames.isEmpty
    (frames[1]? = some (run 2 19 .provisional) ∧ (run 2 19 .provisional).running = some 19
        ∧ (∀ h ∈ frames.take 1, h.running ≠ none) ∧ (∀ h ∈ frames.drop 2, h.running = none)
        ∧ ∀ h ∈ [frame 1 []], h.running = none)
      ∧ (part playing = [] ∧ part (held none) ≠ [] ∧ (∃ y ∈ part (held none), y.gameTotal = none)
        ∧ ∀ y ∈ part (held (some ⟨19, .final⟩)), y.gameTotal ≠ none)
      ∧ playing.line 0 = some bowler := by decide +kernel

theorem witness_FrameTenScore_bonus :
    let strike := ball 1 10 .final
    let nine := ball 1 9 .final
    let game (f8 f9 f10 : List BallRecord) : Line :=
      { bowler with frames := ((List.range 7).map fun n => frame (n + 1) [strike]) ++ [frame 8 f8, frame 9 f9, frame 10 f10] }
    ((List.range 7).map fun n => frame (n + 1) [strike]).length = 7 ∧ (frame 8 [strike]).number = 8
      ∧ (frame 9 [strike]).number = 9 ∧ (frame 10 [strike]).number = 10 ∧ (frame 10 [strike]).missed = false
      ∧ (strike.count = 10 ∧ strike.foul = false) ∧ ¬ (nine.count = 10 ∧ nine.foul = false)
      ∧ nine.count + (ball 2 1 .final).count = 10
      ∧ (game [strike] [strike] [nine, ball 2 0 .final]).frames.length = 10
      ∧ (computeLine ⟨0, 0, 0, 0⟩ (game [strike] [strike] [nine, ball 2 0 .final])).frames.map (·.score)
        = List.replicate 7 (some 30) ++ [some 29, some 19, some 9] := by decide +kernel

theorem witness_CorrectionsApplyOrQueue_checks :
    let strike := ball 1 10 .final
    let line (frames : List FrameRecord) : Line := { bowler with frames := frames }
    let open' := frame 1 [ball 1 7 .final, ball 2 2 .final]
    let low : BallRecord := { ball 2 2 .final with pinsUp := some 7#10 }
    let e (frame ball count : Nat) : Correction := ⟨0, 0, 1, frame, ball, count, false, 65535⟩
    let s := bowled 65535 id
    let frozen := s.modGroup .g1 fun r => { r with state := .moved }
    let refused (frames : List FrameRecord) (c : Correction) := s.correctionRefused (line frames) c
    ((frozen.groups.get .g1).state = .moved ∧ (s.groups.get .g1).state = .playing ∧ (s.groups.get .g1).game = some 1
        ∧ (∀ f ∈ [open'], f.number ≠ 2) ∧ open'.missed = false ∧ open'.balls[3 - 1]? = none
        ∧ open'.balls[2 - 1]? = some (ball 2 2 .final))
      ∧ (frozen.correctionRefused (line [open']) (e 1 2 3) = some .state
        ∧ s.correctionRefused (line [open']) { e 1 2 3 with game := 2 } = some .stale
        ∧ refused [open'] (e 2 1 3) = some .state ∧ refused [open'] (e 1 3 3) = some .state
        ∧ refused [frame 1 [ball 1 7 .final]] (e 1 1 3) = some .state
        ∧ refused [frame 1 [ball 1 7 .final, ball 2 2 .provisional]] (e 1 2 3) = some .state
        ∧ refused [open'] (e 1 1 10) = some .shape ∧ refused [open'] (e 1 2 4) = some .shape
        ∧ refused [frame 10 [strike, ball 2 4 .final, ball 3 6 .final]] (e 10 3 7) = some .shape
        ∧ refused [frame 1 [ball 1 5 .final, low]] (e 1 2 4) = some .range ∧ refused [open'] (e 1 2 3) = none)
      ∧ (LinkIdle s .console ∧ lineOf 2 = some 1 ∧ s.line 1 = none ∧ (∀ i, lineOf 0 = some i → s.line i = none) ∧ ¬ 11 ≤ 10
        ∧ lineOf 1 = some 0 ∧ s.line 0 = some (bowledLine 65535) ∧ (1 ≤ 255 ∧ 10 ≤ 10 ∧ 3 ≤ 3))
      ∧ ((s.sessions.get .left).state ≠ .closed ∧ (s.sessions.get .left).league = false
        ∧ (s.groups.get (bowledLine 65535).group).home = .left) := by decide +kernel

theorem witness_HeadTimers_conditions :
    let wants (h : Head) (on : Bool) : State := { pair.modSensing .left fun x => { x with needs := ⟨on, none, false⟩ } with head := h }
    let slow := wants ⟨.standby, .paired, none⟩ true
    let quick : State := { slow with settings := { slow.settings with warmUp := 0 } }
    let waits (v : State) (l : Lane) : Bool := !(v.sensing.get l).fault && (v.sensing.get l).needs.run
      && (v.psc.get l).state != .service
    (State.reset.head.state = .off ∧ (wants ⟨.warming, .paired, some 20⟩ true).head.state = .warming)
      ∧ ((wants ⟨.standby, .paired, none⟩ false).head.state = .standby
        ∧ (wants ⟨.standby, .paired, none⟩ false).headWakes = false)
      ∧ (slow.head.state = .standby ∧ waits slow .left = true ∧ 0 < slow.settings.warmUp)
      ∧ (quick.head.state = .standby ∧ waits quick .left = true ∧ quick.settings.warmUp = 0 ∧ quick.finish.headIdles = false)
      ∧ (pair.head.state = .active ∧ pair.finish.headIdles = true)
      ∧ (idle.head.state = .active ∧ idle.finish.headIdles = false ∧ idle.finish.head.state = .active) := by decide +kernel

theorem witness_StepsFollowOneAnother_standby :
    let locked := (machine .starting).modSession .left fun x => { x with state := .locked }
    let inGame := playing.modSession .left fun x => { x with state := .locked }
    (((machine .ready).psc.get .left).state = .ready ∧ ((machine .ready).sessions.get .left).state = .closed)
      ∧ ((locked.psc.get .left).state = .starting ∧ (locked.sessions.get .left).state = .locked
        ∧ ∀ g, (locked.lanes.get .left).occupant ≠ some g ∧ (locked.lanes.get .left).waiter ≠ some g)
      ∧ ((locked.psc.get .left).pitHold = false ∧ (∀ j, (locked.sensing.get j).needs = ⟨false, none, false⟩)
        ∧ (locked.finish.psc.get .left).state = .standby)
      ∧ ((∀ j, (inGame.sessions.get j).pausedFrom ≠ some .closed ∧ (inGame.sessions.get j).pausedFrom ≠ some .locked)
        ∧ (inGame.finish.psc.get .left).state = .ready)
      ∧ ((inGame.psc.get .left).state = .ready ∧ (inGame.sessions.get .left).state = .locked
        ∧ (inGame.lanes.get .left).occupant = some .g1 ∧ (inGame.groups.get .g1).inProgress = true)
      ∧ ((machine .fault).psc.get .left).state ≠ .ready ∧ ((machine .fault).psc.get .left).state ≠ .starting := by
  simp only [lanes_iff, slots_iff]; decide +kernel

theorem witness_ReturnEvents_idle :
    let runs := returning [] [] none 3
    let rests (s : State) : State := { s with ret := { s.ret with state := .idle } }
    let fault : State := { runs with ret := { runs.ret with state := .fault } }
    (runs.ret.state = .running ∧ ∀ l, (runs.sessions.get l).state = .closed ∧ runs.ret.pits.get l = [] ∧ runs.ret.lift = none)
      ∧ ((rests (returning [1] [] none 0)).ret.state = .idle ∧ (rests (returning [1] [] none 0)).ret.pits.get .left ≠ [])
      ∧ ((rests idle).ret.state = .idle ∧ (idle.sessions.get .left).state ≠ .closed)
      ∧ (∀ l, (runs.sessions.get l).pausedFrom ≠ some .closed ∧ (idle.sessions.get l).pausedFrom ≠ some .closed)
      ∧ (runs.finish.ret.state = .idle ∧ (rests idle).finishReturn.ret.state = .running)
      ∧ fault.ret.state = .fault ∧ (∀ l, (fault.finish.sessions.get l).state = .closed ∧ fault.finish.ret.pits.get l = []) := by
  simp only [lanes_iff]; decide +kernel

theorem witness_DeckChecks_readouts :
    let scan (present discard : Bool) : Scan := { flight 3 with checkPresent := present, discard := discard }
    let at' (l : Lane) (f : Scan) (n : Needs) (s : State) : State := s.modSensing l fun x => { x with scan := some f, needs := n }
    let s (f : Scan) (n : Needs) : State := at' .left f n (checking .pick .play 0 false)
    let raws := List.replicate 12 400
    ((s (scan true true) ⟨false, some 5#10, false⟩).sensing.left.scan = some (scan true true)
        ∧ raws.length = (scan true true).length ∧ (s (scan true true) ⟨false, some 5#10, false⟩).sensing.right.scan = none
        ∧ ((s (scan true false) ⟨true, some 5#10, false⟩).psc.get .left).state ≠ .service)
      ∧ (((s (scan true false) ⟨false, some 5#10, false⟩).sensing.get .left).needs = ⟨false, some 5#10, false⟩
        ∧ (scan true false).checkPresent = true ∧ (scan true false).discard = false ∧ (scan true true).discard = true)
      ∧ (((s (scan false false) ⟨false, some 5#10, false⟩).sensing.get .left).needs = ⟨false, some 5#10, false⟩
        ∧ (scan false false).checkPresent = false)
      ∧ (((s (scan false false) ⟨false, some 5#10, true⟩).sensing.get .left).needs = ⟨false, some 5#10, true⟩
        ∧ ((s (scan true false) ⟨false, none, true⟩).sensing.get .left).needs = ⟨false, none, true⟩
        ∧ ((s (scan true false) ⟨true, some 5#10, false⟩).sensing.get .left).needs = ⟨true, some 5#10, false⟩
        ∧ ((s (scan true false) ⟨false, none, false⟩).sensing.get .left).needs = ⟨false, none, false⟩)
      ∧ (let two' (l r : Needs) : State := at' .right (scan true false) r (s (scan true false) l)
        let check : Needs := ⟨false, some 5#10, false⟩
        let cont : Needs := ⟨false, none, true⟩
        let run : Needs := ⟨true, none, false⟩
        let none' : Needs := ⟨false, none, false⟩
        ((two' check check).sensing.left.scan = some (scan true false) ∧ (two' check check).sensing.right.scan = some (scan true false)
          ∧ (two' check check).sensing.left.needs = check ∧ (two' check check).sensing.right.needs = check)
          ∧ ((two' cont cont).sensing.left.needs = cont ∧ (two' cont cont).sensing.right.needs = cont)
          ∧ ((two' none' none').sensing.left.needs = none' ∧ (two' none' none').sensing.right.needs = none')
          ∧ ((two' run none').sensing.left.needs = run ∧ (two' run none').sensing.right.needs = none'
            ∧ ((two' run none').psc.get .left).state ≠ .service)) := by decide +kernel

theorem witness_CloseNowSettlesTheMeter_others :
    let away := (closingPlay .idle .cross).modLane .left fun _ => ⟨none, none⟩
    let frozen := away.modGroup .g1 fun r => { r with state := .moving, frozenFrom := some .waiting }
    let turned := frozen.modSession .right fun x => { x with state := .opened }
    let second : Group := { Group.empty with state := .waiting, name := [72#8], game := some 1, inProgress := true, home := .right }
    let waits := (idle.modGroup .g1 fun r => { r with inProgress := true, state := .playing }).modLane .left fun _ =>
      ⟨some .g1, some .g2⟩
    let waits : State := { waits with groups := ⟨waits.groups.get .g1, second⟩ }
    let rest := (closingPlay .idle .cross).modPsc .left fun p => { p with state := .standby }
    let rest := rest.modLane .left fun _ => ⟨none, none⟩
    (laneOf 1 = some .right ∧ LinkIdle turned .desk ∧ (turned.sessions.get .right).state ≠ .closed
        ∧ turned.homeGroup (otherLane .right) = some .g1 ∧ (turned.groups.get .g1).playMode = .cross
        ∧ (turned.groups.get .g1).inProgress = true ∧ (turned.lanes.get .left).occupant ≠ some .g1
        ∧ (turned.groups.get .g1).isFrozen = true)
      ∧ (LinkIdle waits .desk ∧ waits.homeGroup .left = some .g1 ∧ (waits.groups.get .g1).inProgress = true
        ∧ (waits.lanes.get .left).waiter = some .g2 ∧ (waits.lanes.get .left).occupant ≠ some .g2
        ∧ (waits.groups.get .g2).isFrozen = false
        ∧ (∀ g, (waits.groups.get g).playMode ≠ .cross))
      ∧ ((rest.psc.get .left).state = .standby ∧ (rest.sessions.get .left).state ≠ .closed
        ∧ (rest.lanes.get .left).occupant = none ∧ rest.homeGroup .left = some .g1 ∧ (rest.groups.get .g1).inProgress = true
        ∧ (rest.groups.get .g1).playMode = .cross
        ∧ ((rest.sessions.get .left).state = .opened ∧ rest.ret.state ≠ .fault)) := by
  simp only [slots_iff]; decide +kernel

theorem witness_MonitorRows_marks :
    let bands : List Band := [⟨1439, 65535, 65535⟩, ⟨0, 0, 0⟩]
    let asked : Correction := ⟨0, 0, 1, 1, 2, 3, false, 65535⟩
    let queued := bowled 65535 fun s => { s with corrections := [{ asked with id := 255 }] }
    let dirty : State := { playing with dirty := 1#16 }
    let cross := idle.modGroup .g1 fun r => { r with playMode := .cross }
    (LinkIdle pair .desk ∧ 1439 ≤ 1439 ∧ pair.timeOfDay = some 1439 ∧ pair.minuteTimer ≠ none
        ∧ (∀ j, (pair.sessions.get j).mode ≠ .timed ∨ ((pair.sessions.get j).state ≠ .opened ∧ (pair.sessions.get j).state ≠ .overtime)))
      ∧ (1 ≤ bands.length ∧ bands.length ≤ 8 ∧ (∀ b ∈ bands, b.start ≤ 1439 ∧ b.price ≤ 65535 ∧ b.hourly ≤ 65535)
        ∧ (bands.map (·.start)).Nodup)
      ∧ (LinkIdle idle .desk ∧ laneOf 0 = some .left ∧ overflowOf 1 = some .holdAndLock ∧ (idle.sessions.get .left).state ≠ .closed)
      ∧ (LinkIdle idle .console ∧ ∀ n ∈ [1, 8], 1 ≤ n ∧ n ≤ 8)
      ∧ (LinkIdle queued .desk ∧ 1 ≤ 255 ∧ queued.corrections = [] ++ { asked with id := 255 } :: []
        ∧ queued.line asked.line = some (bowledLine 65535) ∧ (queued.queueCorrection asked).2.code = .ok
        ∧ ((queued.feeds.get (queued.groups.get .g1).home).banner = .none))
      ∧ (dirty.line 0 = some bowler ∧ dirty.dirty.getLsbD 0 = true ∧ dirty.shownLower .left = some .g1)
      ∧ ((idle.groups.get .g1).state ≠ (playing.groups.get .g1).state ∧ idle.shownLower .left = some .g1)
      ∧ (LinkIdle cross .console ∧ slotOf 0 = some .g1 ∧ playModeOf 0 = some .openPlay ∧ (cross.groups.get .g1).state = .idle
        ∧ (cross.groups.get .g1).playMode ≠ .openPlay)
      ∧ (idle.homeGroup (idle.groups.get .g1).home = some .g1)
      ∧ ((idle.lanes.get .left).occupant ≠ (playing.lanes.get .left).occupant
        ∧ ((pair.lanes.get .left).occupant = (idle.lanes.get .left).occupant ∧ pair.homeGroup .left ≠ idle.homeGroup .left)
        ∧ ((idle.lanes.get .right).occupant = (playing.lanes.get .right).occupant
          ∧ idle.homeGroup .right = playing.homeGroup .right)) := by
  simp only [lanes_iff]
  refine ⟨?_, ?_, ?_, ?_, ?_, ?_⟩ <;> decide +kernel

theorem witness_MonitorRows_events :
    let strike := ball 1 10 .provisional
    let final := ball 1 10 .final
    let settled := (playing.modPdu .left fun p => { p with run := .settled, record := some strike, cycleTimer := some 80 })
    let full : State := { returning [] [] none 12 with settings := { pair.settings with rackCapacity := 12 } }
    let shown (p : Nat) (low up : Bool) (one : Option Nat) (carried : Bool) : Feed :=
      { (pair.feeds.get .left) with pointer := p, markLower := low, markUpper := up, oneShot := one, oneShotCarried := carried }
    ((settled.pdu.get .left).run = .settled ∧ (settled.pdu.get .left).record = some strike ∧ (settled.pdu.get .left).testing = false
        ∧ (settled.pdu.get .left).foulOpen = true ∧ (settled.pdu.get .left).foulFlag = false
        ∧ (settled.pdu.get .left).cycleTimer ≠ none ∧ (settled.pdu.get .left).binding = some firstBall)
      ∧ ((∃ m, (settled.placeBall final).markOfBall final = some m ∧ (m.symbol = .strike ∨ m.symbol = .spare))
        ∧ (settled.placeBall final).lineForBall final = some 0 ∧ settled.shownLower .left = some .g1
        ∧ positionIn (settled.groups.get .g1).order 0 = some 1 ∧ (settled.feeds.get .left).banner = .none)
      ∧ ((machine .ready).psc.get .left).state ≠ .fault
      ∧ ((playing.pdu.get .left).run = .armed ∧ (playing.psc.get .left).state ≠ .inPlay)
      ∧ (LinkIdle playing .desk ∧ laneOf 0 = some .left ∧ (playing.sessions.get .left).state ≠ .closed
        ∧ (playing.sessions.get .left).state ≠ .closing ∧ playing.homeGroup .left = some .g1
        ∧ (playing.groups.get .g1).inProgress = true ∧ playing.homeGroup (otherLane .left) = none)
      ∧ (0 < full.ret.rack ∧ full.ret.rack = full.settings.rackCapacity)
      ∧ (shown 32 true false none false).composeOwed = false
      ∧ ((shown 62 true false none false).markLower = true ∧ 62 ≤ 62 ∧ (shown 0 false true none false).markUpper = true
        ∧ ¬ ((shown 31 true true none false).markLower = true ∧ 32 ≤ 31 ∧ 31 ≤ 62) ∧ ¬ (31 ≤ 30)
        ∧ 63 ≤ (shown 63 false false (some 1) true).pointer ∧ (shown 63 false false (some 1) true).oneShotCarried = true) := by
  refine ⟨by decide +kernel, ⟨⟨⟨.strike, false⟩, by decide +kernel, by decide⟩, ?_⟩, ?_⟩ <;> decide +kernel

theorem witness_TransmissionEnds_others :
    let q := queuedOf 15#4 .readStatus
    let served : Reply := ⟨.served, 48, 15#4, .ok []⟩
    let busy : Reply := ⟨.busy, 48, 15#4, ⟨.busy, []⟩⟩
    let reset : Reply := ⟨.reset, 60, 15#4, .ok []⟩
    let sends (first : Reply) (rest : List Reply) (next : List Queued) := desk { Port.reset with
      queue := q :: next, frontServed := true, replies := first :: rest, tx := .reply }
    (((sends busy [served] []).port .desk).tx = .reply ∧ ((sends busy [served] []).port .desk).replies = busy :: [served]
        ∧ (busy.role = .busy ∨ busy.role = .reset))
      ∧ (((desk { Port.reset with replies := [reset], tx := .reply }).port .desk).replies = reset :: []
        ∧ (reset.role = .busy ∨ reset.role = .reset))
      ∧ (((sends served [busy] [q]).port .desk).replies = served :: [busy] ∧ ((sends served [busy] [q]).port .desk).queue = q :: q :: []
        ∧ ((sends served [busy] [q]).port .desk).inBreak = false ∧ served.role = .served)
      ∧ ((61 : Nat) > 60 ∧ (0 : Nat) < 1 ∧ admits .desk 36 = false ∧ admits .desk 4 = true
        ∧ ((sends served [busy] [⟨4, 15#4, none⟩]).port .desk).queue = q :: ⟨4, 15#4, none⟩ :: []
        ∧ q.request = some .readStatus ∧ 1 ≤ q.kind ∧ q.kind ≤ 60 ∧ admits .desk q.kind = true) := by decide +kernel

theorem witness_ReadoutsServeTheRun_zero :
    let s : State := { settling 2 with settings := { (settling 2).settings with cycleDelay := 0 } }
    let formed := resultSet .left false (readSlots true (s.sensing.get .left).slots (List.replicate 12 400))
    s.settings.cycleDelay = 0 ∧ (s.pdu.get .left).binding = some firstBall
      ∧ (s.pdu.get .left).settleTarget ≤ (s.pdu.get .left).settleCount + 1 ∧ (s.pdu.get .left).run = .settling
      ∧ (s.sensing.get .left).scan = some (flight 3) ∧ (s.sensing.get .left).needs = ⟨true, none, false⟩
      ∧ (s.psc.get .left).state ≠ .service ∧ formed.crossed = false
      ∧ ∀ pin : Fin 10, formed.points[pin.val]? = some (some (.high, false)) := by decide +kernel

theorem witness_RunTimers_zero :
    let points : List PointClass := List.replicate 12 (some (.high, false))
    let s : State := (settling 0).modPdu .left fun p => { p with windowTimer := some 300, lastSet := some points }
    let s : State := { s with settings := { s.settings with cycleDelay := 0 } }
    (s.pdu.get .left).windowTimer ≠ none ∧ (s.pdu.get .left).run = .settling ∧ s.settings.cycleDelay = 0
      ∧ (s.pdu.get .left).binding = some firstBall ∧ (s.pdu.get .left).lastSet = some points := by decide +kernel

theorem witness_MonitorRows_sheet :
    let total (n : Nat) : Option Total := some ⟨n, .provisional⟩
    let s := two.modGroup .g1 fun r => { r with runningTotal := total 255, groupTotal := none }
    let final := s.modGroup .g1 fun r => { r with runningTotal := some ⟨255, .final⟩ }
    let second : Group := { Group.empty with state := .waiting, name := [72#8], home := .right, order := [1], runningTotal := total 9 }
    let cross : State := { s with groups := ⟨{ s.groups.get .g1 with playMode := .cross }, second⟩ }
    let b := ball 1 9 .provisional
    let up : Pins := 7#10
    (s.shownLower .left = some .g1 ∧ pair.shownLower .left = none ∧ (∃ y, s.line 0 = some y) ∧ s.upBowler .left = some (0, 1, 1)
        ∧ pair.upBowler .left = none)
      ∧ (b.pinsUp = some allPins ∧ b.standing = some 1#10 ∧ hasPin allPins 9 = true ∧ hasPin 1#10 9 = false ∧ hasPin 1#10 0 = true
        ∧ ({ b with standing := none } : BallRecord).standing = none
        ∧ hasPin up 9 = false ∧ (∀ st, (some 1#10 : Option Pins) = some st → hasPin st 9 = false)
        ∧ ({ b with pinsUp := none } : BallRecord).pinsUp = none ∧ b.state = .provisional)
      ∧ ((playing.pdu.get .left).deck = .known allPins ∧ (pair.pdu.get .left).deck = .unknown 10)
      ∧ (s.shownUpper .left = some .g1 ∧ (s.groups.get .g1).state ≠ .empty ∧ (s.groups.get .g1).runningTotal = total 255
        ∧ (final.groups.get .g1).runningTotal = some ⟨255, .final⟩ ∧ (s.groups.get .g1).order[1 - 1]? = some 0
        ∧ (s.groups.get .g1).order.length < 8 ∧ hasPosition 128#8 8 = true ∧ (pair.shownUpper .left = none))
      ∧ (cross.shownUpper .left = some .g2 ∧ cross.shownUpper .left ≠ cross.shownLower .left
        ∧ (cross.groups.get .g2).order[1 - 1]? = some 1 ∧ cross.line 1 = some bowler ∧ bowler.completed 1 = false
        ∧ (bowledLine 1).completed 1 = true) := by
  refine ⟨⟨by decide +kernel, by decide +kernel, ⟨bowler, by decide +kernel⟩, by decide +kernel, by decide +kernel⟩,
    ⟨rfl, rfl, by decide, by decide, by decide, rfl, by decide, ?_, rfl, rfl⟩, ?_, ?_, ?_⟩
  · rintro st ⟨⟩; decide
  all_goals decide +kernel

theorem witness_GroupsAreSaved_entries :
    let mid := { bowler with frames := [frame 1 [ball 1 7 .provisional], frame 2 [ball 1 7 .final]], mode := .fixed 255 }
    let s := two.setLine 0 (some { mid with name := [66#8] })
    (s.linesOf .g1)[0]? = some { mid with name := [66#8] } ∧ (s.linesOf .g1)[1]? = some bowler ∧ bowler.mode = .computed
      ∧ mid.mode = .fixed 255 ∧ ({ bowler with mode := .noHandicap } : Line).mode = .noHandicap
      ∧ (s.entriesOf .g1)[2]? = some (.frames [⟨2, false, [⟨7, false, false, 0, some 1023, some 1⟩]⟩]) := by decide +kernel

end Sys2Proof.Tests
end

section
/-! Deck sensing (chapter 1), with power-on and the reads: the readings of a slot, the settings of the scans, and the
requests of the mechanic. -/
namespace Sys2Proof.Machine

/-! ### Power-on -/

/-- At reset no line id is in use. -/
theorem reset_line (i : LineId) : State.reset.line i = none := by simp [State.line, State.reset, Vector.get]

/-- At reset the pinsetters are OFF, without a hold or a check need. -/
theorem reset_control (l : Lane) : ControlOk State.reset.configured (State.reset.psc.get l) (State.reset.ret.holds.get l)
    (State.reset.sensing.get l).needs.check := by
  cases l <;> exact Evolves.still rfl rfl rfl (fun _ => rfl) (fun h => absurd rfl h)

/-- The state at reset meets every bound that runs keep. -/
theorem reset_bounds : PortsOk State.reset ∧ MetersOk State.reset ∧ ReturnOk State.reset ∧ FeedsOk State.reset
    ∧ CorrectionsOk State.reset ∧ ClaimsOk State.reset ∧ PausesOk State.reset ∧ ControlsOk State.reset ∧ ArmedOk State.reset := by
  refine ⟨fun k => ?ports, fun l => ?meters, ⟨fun l => ?pits, by decide⟩, fun l => ?feeds, by decide, fun i l h => ?claims,
    fun l => ?pauses, reset_control, fun l h => ?armed⟩
  case ports => cases k <;> decide
  case meters => cases l <;> decide
  case pits => cases l <;> decide
  case feeds => cases l <;> decide
  case claims => simp [reset_line] at h
  case pauses => cases l <;> decide
  case armed => cases l <;> cases h

/-- Settles O3: power-on leaves the state at reset, which has the values of each chapter. -/
theorem powerOnBlocks : Obligations.PowerOnBlocks := by
  unfold Obligations.PowerOnBlocks
  refine ⟨fun s => ⟨_, rfl, rfl, fun k => ?_, rfl, fun l => ?_, fun l => ?_, fun l => ?_, rfl, fun g => ?_, fun i => ?_, fun l => ?_,
    rfl, rfl, rfl, fun l => ?_, rfl, rfl, rfl, fun l => ?_, fun g => ?_, rfl, rfl⟩, reset_bounds⟩
  · cases k <;> rfl
  · cases l <;> rfl
  · cases l <;> rfl
  · cases l <;> rfl
  · cases g <;> exact ⟨rfl, rfl, rfl⟩
  · exact reset_line i
  · cases l <;> exact ⟨rfl, rfl⟩
  · cases l <;> rfl
  · cases l <;> rfl
  · cases g <;> rfl

/-! ### Reads -/

/-- A read is answered from the state it is served in, has no effect and makes nothing due (R195). -/
theorem handle_of_read {r : Request} {s : State} {a : Answer} (h : readAnswer r s = some a) (k : Link) :
    handle k r s = (s, a) ∧ finishRequest r s = s := by
  cases r <;> simp only [readAnswer, Option.some.injEq, reduceCtorEq] at h <;> (subst h; exact ⟨rfl, rfl⟩)

/-- No read sets a mask or resets a link. -/
theorem ne_of_read {r : Request} {s : State} {a : Answer} (h : readAnswer r s = some a) :
    (∀ m, r ≠ .setMask m) ∧ r ≠ .linkReset := by
  constructor
  · rintro m rfl
    cases h
  · rintro rfl
    cases h

/-- A reply changes nothing but the link ports. -/
theorem answered_ports (s : State) (k : Link) (tag : Tag) (r : Request) (a : Answer)
    (hf : finishRequest r (s.queuedUp k tag r) = s.queuedUp k tag r) :
    { (s.queuedUp k tag r).answered k tag r a with ports := s.ports } = s := by
  rw [State.answered, hf]
  rfl

/-- Settles O13: the state a read leaves is the one it was served in, with the reply on its link. -/
theorem readsChangeNothing : Obligations.ReadsChangeNothing := by
  unfold Obligations.ReadsChangeNothing
  intro i k tag r a s hi hl ha hr
  obtain ⟨hh, hf⟩ := handle_of_read hr k
  obtain ⟨hm, hn⟩ := ne_of_read hr
  obtain ⟨he, hrep⟩ := State.served hi hl ha hm hn hh
  exact ⟨_, he, hrep, State.others_of_same tag r a (congrArg State.ports hf), answered_ports s k tag r a hf⟩

/-! ### The reading of a slot (R12, R13) -/

theorem satInc_eq_min (n : Nat) : satInc n = min 65535 (n + 1) := by
  unfold satInc
  split <;> omega

/-- A class by its limits, the high one above the low one (R12). -/
theorem classify_cases (c : SlotConfig) (r : Int) (h : c.low < c.high) :
    (c.high ≤ r → classify c r = .high) ∧ (r ≤ c.low → classify c r = .low)
      ∧ (c.low < r → r < c.high → classify c r = .mid) := by
  unfold classify
  refine ⟨fun hr => by simp [hr], fun hr => ?_, fun hl hh => ?_⟩
  · rw [if_neg (by omega), if_pos hr]
  · rw [if_neg (by omega), if_neg (by omega)]

/-- A crossing is a change from one side to the other with wobble detection on (R13). -/
theorem crosses_iff (c : SlotConfig) (before after : Option Side) :
    crosses c before after = true ↔ c.wobble = true ∧ (before = some .above ∧ after = some .below
      ∨ before = some .below ∧ after = some .above) := by
  rcases before with _ | b <;> rcases after with _ | a
  case some.some => cases b <;> cases a <;> simp [crosses]
  all_goals simp [crosses]

/-- Settles O41: the classes by their limits, and the crossing by the two sides. -/
theorem slotReadings : Obligations.SlotReadings := by
  unfold Obligations.SlotReadings
  intro k raw hlim r centre o side crossed
  have hc : crosses k.cfg k.obs.side side = true ↔ crossed := crosses_iff _ _ _
  have hcount : o.count = if crosses k.cfg k.obs.side side then satInc k.obs.count else k.obs.count := rfl
  obtain ⟨high, low, mid⟩ := classify_cases k.cfg r hlim
  refine ⟨rfl, rfl, fun h => congrArg some (high h), fun h => congrArg some (low h), fun h h' => congrArg some (mid h h'),
    rfl, hc, hc, fun h => ?_, fun h => ?_, rfl, rfl⟩
  · rw [hcount, if_pos (hc.mpr h), satInc_eq_min]
  · rw [hcount, if_neg (mt hc.mp h)]

/-! ### The two lanes -/

theorem otherLane_ne (l : Lane) : otherLane l ≠ l := by cases l <;> simp [otherLane]

theorem ne_otherLane (l : Lane) : l ≠ otherLane l := (otherLane_ne l).symm

theorem eq_otherLane {l m : Lane} (h : m ≠ l) : m = otherLane l := by
  match l, m, h with
  | .left, .right, _ => rfl
  | .right, .left, _ => rfl

theorem forall_lane {p : Lane → Prop} (l : Lane) : (∀ m, p m) ↔ p l ∧ p (otherLane l) := by
  refine ⟨fun h => ⟨h l, h _⟩, fun h m => ?_⟩
  by_cases hm : m = l
  · exact hm ▸ h.1
  · exact eq_otherLane hm ▸ h.2

@[simp] theorem get_set_otherLane {α : Type} (p : PerLane α) (l : Lane) (a : α) : (p.set l a).get (otherLane l) = p.get (otherLane l) :=
  p.get_set_of_ne (otherLane_ne l) a

@[simp] theorem get_otherLane_set {α : Type} (p : PerLane α) (l : Lane) (a : α) : (p.set (otherLane l) a).get l = p.get l :=
  p.get_set_of_ne (ne_otherLane l) a

/-! ### The settings of the scans (R4 to R7) -/

/-- The number of slots that scans read depends on the slots alone. -/
theorem effectiveLength_congr (mode : ScanMode) {a b : PerLane SensingLane} (h : ∀ l, (a.get l).slots = (b.get l).slots) (l : Lane) :
    effectiveLength mode a l = effectiveLength mode b l := by
  simp only [effectiveLength, h]

theorem laneIsFree_iff (s : State) (l : Lane) :
    s.laneIsFree l = true ↔ (s.sessions.get l).state = .closed ∨ (s.psc.get l).state = .service := by
  simp [State.laneIsFree]

theorem coverageOk_iff (s : State) (mode : ScanMode) (sensing : PerLane SensingLane) :
    s.coverageOk mode sensing = true ↔ ∀ l, (s.sessions.get l).state ≠ .closed → coversTenIn mode sensing l = true := by
  rw [forall_lane .left]
  simp only [State.coverageOk, Bool.and_eq_true, Bool.or_eq_true, decide_eq_true_eq, Decidable.or_iff_not_imp_left]
  rfl

/-- The injection buffer keeps its set only at the length that scans of its lane read (R7, R21). -/
theorem trimInjection_eq (s : State) (l : Lane) : s.trimInjection l = s.modSensing l fun x => { x with
    injection := x.injection.filter fun raws => decide (raws.length = s.effectiveLength l) } := by
  simp only [State.trimInjection, State.modSensing]
  cases h : (s.sensing.get l).injection with
  | none => simp
  | some raws => by_cases hr : raws.length = s.effectiveLength l <;> simp [hr, Option.filter]

/-- The trimming of one lane's injected set leaves the number of slots that scans read. -/
theorem effectiveLength_trimInjection (s : State) (l m : Lane) : (s.trimInjection l).effectiveLength m = s.effectiveLength m := by
  rw [trimInjection_eq]
  refine effectiveLength_congr _ (fun j => ?_) _
  by_cases h : j = l
  · subst h
    simp
  · simp [PerLane.get_set_of_ne _ h]

/-- Both injected sets trimmed (R7). -/
theorem trimInjections_sensing (s : State) (l : Lane) : ((s.trimInjection .left).trimInjection .right).sensing.get l =
    { s.sensing.get l with
      injection := (s.sensing.get l).injection.filter fun raws => decide (raws.length = s.effectiveLength l) } := by
  rw [trimInjection_eq (s.trimInjection .left), effectiveLength_trimInjection, trimInjection_eq s]
  cases l <;> rfl

/-- What an accepted set-slot makes of the scan lists (R6). -/
def SensingLane.reslotted (x : SensingLane) (slot : Nat) (c : SlotConfig) : SensingLane :=
  { x.setSlot slot c with injection := none, scan := x.scan.map fun f => { f with discard := true } }

/-- A set-slot in range, on a free lane, that keeps the coverage (R6). -/
theorem handleSetSlot_accepted {s : State} {slot lane point : Nat} {l : Lane} {c : SlotConfig}
    (hl : laneOf lane = some l) (hp : pointOf point = some c.point) (hs : slot ≤ 11) (hb : c.baseline ≤ 1023) (hlow : -1023 ≤ c.low)
    (hlim : c.low < c.high) (hhigh : c.high ≤ 1023) (hfree : s.laneIsFree l = true)
    (hc : s.coverageOk s.head.mode (s.sensing.set l ((s.sensing.get l).setSlot slot c)) = true) :
    handleSetSlot slot lane point c.enabled c.baseline c.high c.low c.wobble s
      = (({ s with sensing := s.sensing.set l ((s.sensing.get l).reslotted slot c) }).trimInjection (otherLane l), .ok []) := by
  have hrange : (decide (c.baseline ≤ 1023) && limitOk c.high && limitOk c.low && decide (slot ≤ 11)) = true := by
    simp only [limitOk, Bool.and_eq_true, decide_eq_true_eq]
    omega
  have hn : ¬ c.high ≤ c.low := by omega
  simp only [handleSetSlot, hl, hp, hrange, hn, hfree, hc, Bool.not_true, Bool.false_eq_true, if_false, accept, SensingLane.reslotted,
    State.modSensing, PerLane.get_set, PerLane.set_set]
  rfl

/-- What a set-scan-mode to mode `m` leaves, once the lanes and the coverage allow it (R7). -/
def State.inScanMode (s : State) (m : ScanMode) : State :=
  if s.head.mode = m then s else ((s.modHead fun h => { h with mode := m }).trimInjection .left).trimInjection .right

/-- A set-scan-mode that the lanes and the coverage allow (R7). -/
theorem handleSetScanMode_accepted {s : State} {mode : Nat} {m : ScanMode} (hm : scanModeOf mode = some m)
    (hfree : ∀ l, s.laneIsFree l = true) (hc : s.coverageOk m s.sensing = true) :
    handleSetScanMode mode s = (s.inScanMode m, .ok []) := by
  simp only [handleSetScanMode, hm, hfree, hc, Bool.and_self, Bool.not_true, Bool.false_eq_true, if_false, accept, State.inScanMode]
  split <;> rfl

/-- The scan mode is replaced, and with it nothing but injected sets that have another length now (R7). -/
theorem inScanMode_effect (s : State) (m : ScanMode) :
    (s.inScanMode m).head = { s.head with mode := m }
      ∧ (∀ l, (s.inScanMode m).sensing.get l = if m = s.head.mode then s.sensing.get l else { s.sensing.get l with
          injection := (s.sensing.get l).injection.filter fun raws => decide (raws.length = effectiveLength m s.sensing l) })
      ∧ s.inScanMode m = { s with head := (s.inScanMode m).head, sensing := (s.inScanMode m).sensing } := by
  unfold State.inScanMode
  by_cases h : s.head.mode = m
  · subst h
    simp
  · rw [if_neg h]
    refine ⟨by simp only [trimInjection_eq]; rfl, fun l => ?_, by simp only [trimInjection_eq]; rfl⟩
    rw [if_neg fun e => h e.symm]
    exact trimInjections_sensing _ l

/-- The lists after an accepted set-slot, with the other lane's injected set trimmed (R6, R21). -/
theorem trimInjection_reslotted (s : State) (l : Lane) (slot : Nat) (c : SlotConfig) :
    ({ s with sensing := s.sensing.set l ((s.sensing.get l).reslotted slot c) }.trimInjection (otherLane l)).sensing
      = (s.sensing.set l ((s.sensing.get l).reslotted slot c)).set (otherLane l) { s.sensing.get (otherLane l) with
          injection := (s.sensing.get (otherLane l)).injection.filter fun raws => decide (raws.length =
            effectiveLength s.head.mode (s.sensing.set l ((s.sensing.get l).setSlot slot c)) (otherLane l)) } := by
  have hlen : effectiveLength s.head.mode (s.sensing.set l ((s.sensing.get l).reslotted slot c)) (otherLane l)
      = effectiveLength s.head.mode (s.sensing.set l ((s.sensing.get l).setSlot slot c)) (otherLane l) := by
    refine effectiveLength_congr _ ((forall_lane l).mpr ⟨?_, ?_⟩) _
    · simp [SensingLane.reslotted]
    · simp
  simp [trimInjection_eq, State.effectiveLength, hlen]

/-- Settles O38: an accepted set-slot or set-scan-mode, and the trimming of the injected sets that follows. -/
theorem scanSettings : Obligations.ScanSettings := by
  unfold Obligations.ScanSettings
  constructor
  · intro tag slot lane point enabled baseline high low wobble l p s hi hl hp hs hb hlow hlim hhigh hfree x k slotted lists hc
    let c : SlotConfig := { point := p, enabled := enabled, baseline := baseline, high := high, low := low, wobble := wobble }
    let r : Request := .setSlot slot lane point enabled baseline high low wobble
    have hh : handle .service r (s.queuedUp .service tag r) = (_, .ok []) :=
      handleSetSlot_accepted (c := c) (s := s.queuedUp .service tag r) hl hp hs hb hlow hlim hhigh ((laneIsFree_iff s l).mpr hfree)
        ((coverageOk_iff s _ _).mpr hc)
    obtain ⟨he, hrep⟩ := State.served (i := .setSlot .service tag ..) rfl hi rfl (by nofun) (by nofun) hh
    have hlists := trimInjection_reslotted (s.queuedUp .service tag r) l slot c
    refine ⟨_, he, hrep, State.others_of_same tag r _ (by rw [trimInjection_eq]; rfl), ?_, ?_, ?_⟩
    · exact (congrArg (·.get l) hlists).trans (by rw [get_otherLane_set, PerLane.get_set])
    · exact (congrArg (·.get (otherLane l)) hlists).trans (by rw [PerLane.get_set])
    · rw [trimInjection_eq]
      rfl
  · intro tag mode m s hi hm hfree hc
    let r : Request := .setScanMode mode
    have hh : handle .service r (s.queuedUp .service tag r) = (_, .ok []) :=
      handleSetScanMode_accepted (s := s.queuedUp .service tag r) hm (fun l => (laneIsFree_iff s l).mpr (hfree l))
        ((coverageOk_iff s _ _).mpr hc)
    refine State.serves_with' (r := r) rfl hi rfl (by nofun) (by nofun) ⟨_, hh, ?_⟩
    obtain ⟨hhead, hlanes, hrest⟩ := inScanMode_effect (s.queuedUp .service tag r) m
    refine ⟨hhead, hlanes, ?_⟩
    rw [hrest]
    rfl

/-! ### The mechanic's scans (R18 to R20) -/

/-- A request of the service link that the rights table admits and that its block refuses is answered so (R188). -/
theorem service_refused {i : Instr} {tag : Tag} {r : Request} {c : Code} {s : State} (hi : i.request = some (.service, tag, r))
    (hl : LinkIdle s .service) (ha : admits .service r.kind = true) (hn : r ≠ .linkReset)
    (h : handle .service r (s.queuedUp .service tag r) = refuse c (s.queuedUp .service tag r)) :
    exec i s = .next ((s.queuedUp .service tag r).answered .service tag r (.refused c)) := by
  rw [exec_request hi, State.request_of_idle hl tag hn ha, h]
  rfl

@[simp] theorem setHead_settings (s : State) (st : HeadState) : (s.setHead st).settings = s.settings := by
  unfold State.setHead
  dsimp only
  split <;> simp

@[simp] theorem inside_setHead (s : State) (st : HeadState) : State.inside (s.setHead st) =
    (State.inside s).modHead fun h => { h with state := st, warmTimer := if st = .warming then h.warmTimer else none } := by
  unfold State.setHead
  dsimp only
  split <;> simp

/-- The entry to WARMING, which a warm-up of 0 leaves for ACTIVE at once (R1). -/
theorem inside_warmHead (s : State) : State.inside s.warmHead = { State.inside s with
    head := if s.settings.warmUp = 0 then { s.head with state := .active, warmTimer := none }
      else { s.head with state := .warming, warmTimer := some s.settings.warmUp } } := by
  simp only [State.warmHead, setHead_settings, State.modHead_settings]
  split
  · rw [inside_setHead, inside_modHead, inside_setHead]
    rfl
  · rw [inside_modHead, inside_setHead]
    rfl

/-- Settles O39: the three requests, by the cases of their handlers. -/
theorem mechanicScans : Obligations.MechanicScans := by
  unfold Obligations.MechanicScans
  refine ⟨?run, ?inject, ?restart⟩
  case run =>
    intro tag lane mode l m s hi hl hm x changed
    let r : Request := .setRunMode lane mode
    have served {u : State} {y : SensingLane} (hh : handle .service r (s.queuedUp .service tag r) = (u, .ok []))
        (hu : SameInside u { s with sensing := s.sensing.set l y }) : changed y :=
      State.serves_with' (r := r) rfl hi rfl (by nofun) (by nofun) ⟨u, hh, hu⟩
    refine ⟨fun h => ?_, fun h hx => ?_, fun h hx hs hp => ?_, fun h hx hs => ?_⟩
    · refine served (u := s.queuedUp .service tag r) ?_ ?_
      · simp [handle, r, handleSetRunMode, hl, hm, h, x, accept]
      · simp [x]
    · subst h
      refine served (u := (s.queuedUp .service tag r).endContinuous l) ?_ rfl
      simp [handle, r, handleSetRunMode, hl, hm, hx, x, accept]
    · subst h
      refine served (u := ((s.queuedUp .service tag r).startRun l).modSensing l fun x => { x with
        runMode := .continuous, contTimer := some s.settings.scanInterval, needs := { x.needs with cont := true } }) ?_ ?_
      · simp [handle, r, handleSetRunMode, hl, hm, hx, x, hs, hp, accept]
      · simp [State.startRun, modSensing_eq, SlotObservation.startRun, x]
    · subst h
      refine service_refused rfl hi rfl (by nofun) ?_
      have hx' : (s.sensing.get l).runMode = .normal := hx
      simp only [handle, handleSetRunMode, hl, hm, State.queuedUp_sensing, State.queuedUp_psc, State.queuedUp_pdu, hx',
        if_false, reduceCtorEq]
      exact if_neg (by rcases hs with h | h <;> simp [h])
  case inject =>
    intro tag lane readings l s hi hl hs hx r
    have hlen : (s.queuedUp .service tag r).effectiveLength l = s.effectiveLength l := rfl
    refine ⟨fun hr hn => ?_, fun h => ?_⟩
    · refine State.serves_with' (r := r) rfl hi rfl (by nofun) (by nofun)
        ⟨(s.queuedUp .service tag r).modSensing l fun x => { x with injection := some readings }, ?_, rfl⟩
      have hr' : readings.all (fun n => decide (n ≤ 1023)) = true := by simpa using hr
      simp [handle, r, handleInjectReadings, hl, hs, hx, hr', hn, accept]
    · refine service_refused rfl hi rfl (by nofun) ?_
      by_cases hr : readings.all (fun n => decide (n ≤ 1023)) = true
      · have hn : readings.length ≠ s.effectiveLength l := h.resolve_left fun ⟨n, hn, hb⟩ => by
          have := List.all_eq_true.mp hr n hn
          simp at this
          omega
        simp [handle, handleInjectReadings, r, hl, hs, hx, hr, hn]
      · simp [handle, handleInjectReadings, r, hl, hs, hx, hr]
  case restart =>
    intro tag s hi
    refine ⟨fun h => ?_, fun h => service_refused rfl hi rfl (by nofun) ?_⟩
    · let clear (x : SensingLane) : SensingLane := { x with scan := none, fault := false }
      have hh : handle .service .restartHead (s.queuedUp .service tag .restartHead)
          = ((((s.queuedUp .service tag .restartHead).modSensing .left clear).modSensing .right clear).warmHead, .ok []) := by
        simp only [handle, handleRestartHead, State.queuedUp_head, h, if_false, accept]
        rfl
      refine State.serves_with' (r := .restartHead) rfl hi rfl (by nofun) (by nofun) ⟨_, hh, ?_⟩
      rw [sameInside_iff_inside, inside_warmHead]
      rfl
    · simp [handle, handleRestartHead, h]

end Sys2Proof.Machine
end

section
/-! Deck sensing (chapter 1): what operations spare of a lane, deck checks, and readouts that serve needs. -/
namespace Sys2Proof.Machine

/-- What an operation reaches of the head, the scans and the PDUs: nothing of the head, and no scan list and no PDU of the lanes
in `P`. -/
structure Spares (P : Lane → Prop) (s t : State) : Prop where
  head    : t.head = s.head
  sensing : ∀ l, P l → t.sensing.get l = s.sensing.get l
  pdu     : ∀ l, P l → t.pdu.get l = s.pdu.get l

/-- Every lane. -/
abbrev AllLanes : Lane → Prop := fun _ => True

/-- No lane: the head alone is spared. -/
abbrev NoLane : Lane → Prop := fun _ => False

namespace Spares

variable {P : Lane → Prop} {s t u : State}

theorem refl (s : State) : Spares P s s := ⟨rfl, fun _ _ => rfl, fun _ _ => rfl⟩

/-- A change of registers other than those of the head, the scans and the PDUs. -/
theorem same (h : Spares P s t) (hh : u.head = t.head) (hs : u.sensing = t.sensing) (hp : u.pdu = t.pdu) : Spares P s u :=
  ⟨hh.trans h.head, fun l hl => hs ▸ h.sensing l hl, fun l hl => hp ▸ h.pdu l hl⟩

theorem ite {p : Prop} [Decidable p] (ht : p → Spares P s t) (hu : ¬ p → Spares P s u) : Spares P s (if p then t else u) := by
  split
  · exact ht ‹_›
  · exact hu ‹_›

/-- A fold of operations that spare, spares. -/
theorem foldl {α : Type} {f : State → α → State} (hf : ∀ s a, Spares P s (f s a)) (l : List α) (h : Spares P s t) :
    Spares P s (l.foldl f t) := by
  induction l generalizing t with
  | nil => exact h
  | cons a l ih =>
    have ha := hf t a
    exact ih ⟨ha.head.trans h.head, fun m hm => (ha.sensing m hm).trans (h.sensing m hm), fun m hm => (ha.pdu m hm).trans (h.pdu m hm)⟩

/-- With every lane spared, the scans and the PDUs are as they were. -/
theorem sensing_eq (h : Spares AllLanes s t) : t.sensing = s.sensing := PerLane.ext_get fun l => h.sensing l trivial

theorem pdu_eq (h : Spares AllLanes s t) : t.pdu = s.pdu := PerLane.ext_get fun l => h.pdu l trivial

/-! ### The updates -/

theorem modSensing (h : Spares P s t) (l : Lane) (f : SensingLane → SensingLane) (hl : ¬ P l) : Spares P s (t.modSensing l f) := by
  refine ⟨h.head, fun m hm => ?_, h.pdu⟩
  have hml : m ≠ l := fun e => hl (e ▸ hm)
  simpa [PerLane.get_set_of_ne _ hml] using h.sensing m hm

theorem modPdu (h : Spares P s t) (l : Lane) (f : Pdu → Pdu) (hl : ¬ P l) : Spares P s (t.modPdu l f) := by
  refine ⟨h.head, h.sensing, fun m hm => ?_⟩
  have hml : m ≠ l := fun e => hl (e ▸ hm)
  simpa [PerLane.get_set_of_ne _ hml] using h.pdu m hm

theorem modPsc (h : Spares P s t) (l : Lane) (f : Pinsetter → Pinsetter) : Spares P s (t.modPsc l f) := h.same rfl rfl rfl

theorem modReturn (h : Spares P s t) (f : BallReturn → BallReturn) : Spares P s (t.modReturn f) := h.same rfl rfl rfl

theorem modGroup (h : Spares P s t) (g : Slot) (f : Group → Group) : Spares P s (t.modGroup g f) := h.same rfl rfl rfl

theorem modLane (h : Spares P s t) (l : Lane) (f : LaneRecord → LaneRecord) : Spares P s (t.modLane l f) := h.same rfl rfl rfl

theorem modSession (h : Spares P s t) (l : Lane) (f : Session → Session) : Spares P s (t.modSession l f) := h.same rfl rfl rfl

theorem tell (h : Spares P s t) (k : Link) (n : Notice) : Spares P s (t.tell k n) := h.same rfl rfl rfl

theorem broadcast (h : Spares P s t) (n : Notice) : Spares P s (t.broadcast n) := h.same rfl rfl rfl

theorem markFeed (h : Spares P s t) (l : Lane) (a b : Bool) : Spares P s (t.markFeed l a b) := h.same rfl rfl rfl

theorem markShowing (h : Spares P s t) (v : State) (g : Slot) : Spares P s (t.markShowing v g) := h.same rfl rfl rfl

theorem bannerEval (h : Spares P s t) (l : Lane) : Spares P s (t.bannerEval l) := h.same rfl rfl rfl

theorem bannersEval (h : Spares P s t) : Spares P s t.bannersEval := h.same rfl rfl rfl

theorem showBall (h : Spares P s t) (l : Lane) (b : Option BallRecord) : Spares P s (t.showBall l b) := h.same rfl rfl rfl

/-! ### Lines and sessions -/

theorem changeLine (h : Spares P s t) (i : LineId) (f : Line → Line) : Spares P s (t.changeLine i f) := by
  unfold State.changeLine
  split
  · exact h.same rfl rfl rfl
  · exact h

theorem voidCorrections (h : Spares P s t) (gone : Correction → Bool) (home : Lane) : Spares P s (t.voidCorrections gone home) := by
  have hf := foldl (fun (s : State) (e : Correction) => (refl s).same (P := P) (u := s.tellDeskConsole (.correctionVoid e)) rfl rfl rfl)
    (t.corrections.filter gone) (h.same (u := { t with corrections := t.corrections.filter fun e => !gone e }) rfl rfl rfl)
  exact ite (fun _ => hf) fun _ => hf.markFeed home false true

theorem enterSession (h : Spares P s t) (l : Lane) (state : SessionState) (from_ : Option SessionState) :
    Spares P s (t.enterSession l state from_) := (((h.modSession l _).broadcast _).markFeed l true true).bannerEval l

theorem pauseEval (h : Spares P s t) (l : Lane) : Spares P s (t.pauseEval l) := by
  unfold State.pauseEval
  dsimp only
  split
  · exact ite (fun _ => h.enterSession ..) fun _ => h
  · exact ite (fun _ => h.enterSession ..) fun _ => h
  · exact ite (fun _ => h) fun _ => h.enterSession ..
  all_goals exact h

theorem addCents (h : Spares P s t) (l : Lane) (n : Nat) : Spares P s (t.addCents l n) :=
  ite (fun _ => h.same rfl rfl rfl) fun _ => h.same rfl rfl rfl

theorem charge (h : Spares P s t) (l : Lane) (n : Nat) : Spares P s (t.charge l n) :=
  ite (fun _ => (h.addCents l n).enterSession ..) fun _ => h.addCents l n

theorem countGames (h : Spares P s t) (l : Lane) (n : Nat) : Spares P s (t.countGames l n) := h.same rfl rfl rfl

theorem permitGame (h : Spares P s t) (l : Lane) (n : Nat) : Spares P s (t.permitGame l n).1 := by
  unfold State.permitGame
  dsimp only
  split
  · exact h
  · split
    · split
      · exact h.enterSession ..
      · exact (h.modSession ..).countGames l n
    · exact (h.countGames l n).charge l _
    · exact h.countGames l n

theorem closeSession (h : Spares P s t) (l : Lane) : Spares P s (t.closeSession l) := by
  have h0 : Spares P s (if 30 ≤ (t.sessions.get l).meter.fraction then t.addCents l 1 else t) := ite (fun _ => h.addCents l 1) fun _ => h
  exact (((h0.modSession l _).markFeed l false _).tell .desk _).enterSession l .closed none

theorem sessionFollows (h : Spares P s t) (l : Lane) : Spares P s (t.sessionFollows l) := by
  unfold State.sessionFollows
  refine ite (fun _ => h) fun _ => ?_
  split
  · exact h.enterSession ..
  · exact ite (fun _ => h.enterSession ..) fun _ => h
  · exact h.closeSession l
  all_goals exact h

theorem sessionsFollow (h : Spares P s t) : Spares P s t.sessionsFollow := (h.sessionFollows .left).sessionFollows .right

/-! ### The pinsetters and the return -/

theorem dropRunNeed (h : Spares P s t) {l : Lane} (hl : ¬ P l) : Spares P s (t.dropRunNeed l) := h.modSensing l _ hl

theorem endContinuous (h : Spares P s t) {l : Lane} (hl : ¬ P l) : Spares P s (t.endContinuous l) := h.modSensing l _ hl

theorem leaveService (h : Spares P s t) {l : Lane} (hl : ¬ P l) : Spares P s (t.leaveService l) := by
  have h0 := (h.endContinuous hl).modSensing l (fun x => { x with injection := none }) hl
  exact ite (fun _ => (h0.dropRunNeed hl).modPdu l _ hl) fun _ => h0

theorem opens (h : Spares P s t) (l : Lane) : Spares P s (t.opens l) :=
  ite (fun _ => (h.enterSession l _ _).pauseEval l) fun _ => h

/-- A change of machine state reaches the scans of its lane, and its PDU, when the machine leaves SERVICE alone (R19, R21, R44). -/
theorem machineChanged (h : Spares P s t) {l : Lane} {before : MachineState} (hl : P l → before ≠ .service)
    (classes : Option (List PointClass)) : Spares P s (t.machineChanged l before classes) := by
  have h0 := (h.broadcast (.machineState (t.laneNumber l) (t.psc.get l).state (t.psc.get l).cause
    ((t.psc.get l).recipe.map fun r => (r.kind, r.origin)) classes)).markFeed l true false
  exact (((ite (fun hb => h0.leaveService fun hp => hl hp hb) fun _ => h0).opens l).pauseEval l).bannerEval l

theorem setMachine (h : Spares P s t) {l : Lane} (hl : P l → (t.psc.get l).state ≠ .service) (state : MachineState)
    (cause : Option FaultCause) (classes : Option (List PointClass)) : Spares P s (t.setMachine l state cause classes) :=
  ite (fun _ => h.modPsc l _) fun _ => (h.modPsc l _).machineChanged hl classes

theorem startMachine (h : Spares P s t) (l : Lane) : Spares P s (t.startMachine l) :=
  ite (fun hs => (h.modPsc l _).setMachine (fun _ => by simp [hs]) _ _ _) fun _ => h

theorem machineStandby (h : Spares P s t) (l : Lane) : Spares P s (t.machineStandby l) := by
  refine ite (fun hs => h.setMachine (fun _ e => ?_) _ _ _) fun _ => h
  simp [e] at hs

theorem machinesStandby (h : Spares P s t) : Spares P s t.machinesStandby := (h.machineStandby .left).machineStandby .right

theorem setHold (h : Spares P s t) (l : Lane) (on : Bool) : Spares P s (t.setHold l on) := h.same rfl rfl rfl

theorem issue (h : Spares P s t) (l : Lane) (k : StepKind) : Spares P s (t.issue l k) := h.same rfl rfl rfl

theorem holdSweep (h : Spares P s t) (l : Lane) : Spares P s (t.holdSweep l) := by
  have h0 := (h.modPsc l fun p => { p with step := none, stepTimer := none }).setHold l true
  exact ite (fun hc => h0.setMachine (fun _ e => by simp [e] at hc) _ _ _) fun _ => h0

theorem issueHead (h : Spares P s t) (l : Lane) (k : StepKind) (rest : List StepKind) : Spares P s (t.issueHead l k rest) := by
  have h0 := ((h.modPsc l fun p => { p with queue := rest ++ p.remainder.toList, remainder := none }).issue l k).setHold l false
  exact ite (fun hc => h0.setMachine (fun _ e => by simp [e] at hc) _ _ _) fun _ => h0

theorem nextStep (h : Spares P s t) (l : Lane) : Spares P s (t.nextStep l) := by
  unfold State.nextStep
  split
  · exact h
  · exact ite (fun _ => h.holdSweep l) fun _ => h.issueHead l _ _

theorem releaseHold (h : Spares P s t) (l : Lane) : Spares P s (t.releaseHold l) := ite (fun _ => h.nextStep l) fun _ => h

theorem layOut (h : Spares P s t) (l : Lane) (kind : RecipeKind) : Spares P s (t.layOut l kind) := by
  cases kind <;> exact h.same rfl rfl rfl

theorem takeRecipe (h : Spares P s t) (l : Lane) (r : Recipe) : Spares P s (t.takeRecipe l r) := (h.modPsc l _).layOut l r.kind

theorem layOut_state (t : State) (l : Lane) (kind : RecipeKind) : ((t.layOut l kind).psc.get l).state = (t.psc.get l).state := by
  cases kind <;> simp [State.layOut, recipeSteps, State.issue]

theorem cycle (h : Spares P s t) {l : Lane} (hl : P l → (t.psc.get l).state ≠ .service) (r : Recipe) : Spares P s (t.cycle l r) := by
  refine (h.takeRecipe l r).setMachine (fun hp => ?_) _ _ _
  rw [State.takeRecipe, layOut_state]
  simpa using hl hp

theorem cycleEnd (h : Spares P s t) {l : Lane} (hl : ¬ P l) : Spares P s (t.cycleEnd l) := by
  have h0 : Spares P s (match (t.psc.get l).recipe with
      | some r => t.writeDeck l r.target
      | none => t) := by
    split
    · exact h.modPdu l _ hl
    · exact h
  have h1 := h0.modPsc l fun p => { p with recipe := none, attempts := 0, closingOwed := false }
  exact ite (fun _ => h1.cycle (fun hp => absurd hp hl) _) fun _ =>
    ite (fun _ => h1.setMachine (fun hp => absurd hp hl) _ _ _) fun _ => h1.setMachine (fun hp => absurd hp hl) _ _ _

theorem checkAnswer (h : Spares P s t) {l : Lane} (hl : ¬ P l) (o : CheckOutcome) (classes : List PointClass) :
    Spares P s (t.checkAnswer l o classes) := by
  unfold State.checkAnswer
  dsimp only
  split
  · exact h.cycleEnd hl
  · exact (h.broadcast _).cycleEnd hl
  · split
    · exact h
    · exact ite (fun _ => (((h.modPsc l _).modPdu l _ hl).setMachine (fun hp => absurd hp hl) _ _ _).tell .service _) fun _ =>
        ite (fun _ => (h.layOut l _).setMachine (fun hp => absurd hp hl) _ _ _) fun _ =>
          (h.modPsc l _).setMachine (fun hp => absurd hp hl) _ _ _

theorem setReturn (h : Spares P s t) (state : ReturnState) (cause : Option ReturnCause) : Spares P s (t.setReturn state cause) := by
  have h0 := (h.modReturn fun r => { r with state := state, cause := cause }).broadcast
    ((t.modReturn fun r => { r with state := state, cause := cause }).returnNotice .returnState)
  exact (((h0.markFeed .left true false).markFeed .right true false).pauseEval .left).pauseEval .right

theorem returnPump (h : Spares P s t) : Spares P s t.returnPump := by
  have h0 : Spares P s t.returnIdleEval := by
    unfold State.returnIdleEval
    split
    · exact ite (fun _ => h.setReturn _ _) fun _ => h
    · exact ite (fun _ => h) fun _ => h.setReturn _ _
    · exact h
  exact ((h0.modReturn _).releaseHold .left).releaseHold .right

/-! ### Groups -/

theorem announceGroup (h : Spares P s t) (before : State) (g : Slot) (refused : Option Code) :
    Spares P s (t.announceGroup before g refused) := ite (fun _ => (h.broadcast _).markShowing _ _) fun _ => h

theorem announceLane (h : Spares P s t) (before : State) (l : Lane) : Spares P s (t.announceLane before l) :=
  ite (fun _ => (ite (fun _ => h.markFeed l true true) fun _ => h).startMachine l) fun _ =>
    ite (fun _ => h.markFeed l true true) fun _ => h

theorem announce (h : Spares P s t) (before : State) (refused : Option (Slot × Code)) : Spares P s (t.announce before refused) :=
  ((((((h.modGroup .g1 _).modGroup .g2 _).announceGroup before .g1 _).announceGroup before .g2 _).announceLane before
    .left).announceLane before .right).bannersEval

theorem becomes (h : Spares P s t) (g : Slot) (state : GroupState) : Spares P s (t.becomes g state) := h.modGroup g _

theorem releaseLane (h : Spares P s t) (g : Slot) (l : Lane) : Spares P s (t.releaseLane g l) := by
  unfold State.releaseLane
  dsimp only
  refine ite (fun _ => ?_) fun _ => ite (fun _ => h.modLane l _) fun _ => h
  split
  · exact (h.modLane l _).modGroup _ _
  · exact h.modLane l _

theorem releaseLanes (h : Spares P s t) (g : Slot) : Spares P s (t.releaseLanes g) := (h.releaseLane g .left).releaseLane g .right

theorem askLane (h : Spares P s t) (g : Slot) (l : Lane) : Spares P s (t.askLane g l) := by
  unfold State.askLane
  split <;> exact (h.modLane l _).modGroup g _

theorem placeBall (h : Spares P s t) (b : BallRecord) : Spares P s (t.placeBall b) := by
  unfold State.placeBall
  split
  · exact h.changeLine _ _
  · exact h

theorem permitStart (h : Spares P s t) (g : Slot) : Spares P s (t.permitStart g).1 := by
  unfold State.permitStart
  dsimp only
  split
  · exact h
  split
  · exact h
  split
  · exact h
  · exact h.permitGame _ _

theorem startGame (h : Spares P s t) (g : Slot) : Spares P s (t.startGame g) :=
  (((foldl (fun s i => (refl s).changeLine i _) _ h).voidCorrections _ _).modGroup g _).askLane g _

theorem gameEnd (h : Spares P s t) (before : State) (g : Slot) : Spares P s (t.gameEnd before g) := by
  have h0 := (((foldl (fun s (e : LineId × GameEntry) => (refl s).changeLine e.1 fun l => { l with games := appendGame l.games e.2 })
    (t.gameEntries g) h).releaseLanes g).modGroup g fun r => { r with inProgress := false, position := none }).becomes g .idle
  unfold State.gameEnd
  dsimp only
  refine ite (fun _ => ?_) fun _ => (h0.announce before none).broadcast _
  have hp := h0.permitStart g
  split
  · rename_i e
    rw [e] at hp
    exact (hp.announce before _).broadcast _
  · rename_i e
    rw [e] at hp
    exact (((hp.announce before none).broadcast _).startGame g).announce _ none

theorem advance (h : Spares P s t) (before : State) (g : Slot) : Spares P s (t.advance before g) := by
  unfold State.advance
  dsimp only
  have h0 := h.modGroup g fun r => { r with frame := r.frame + 1 }
  exact ite (fun _ => h.announce before none) fun _ =>
    ite (fun _ => (ite (fun _ => h0) fun _ => (h0.releaseLanes g).askLane g _).announce before none) fun _ => h.gameEnd before g

/-- What follows a FINAL ball on its line reaches no scan and no PDU (R97). -/
theorem advanceFor (h : Spares P s t) (b : BallRecord) : Spares P s (t.advanceFor b) := by
  unfold State.advanceFor
  split
  · split
    · exact ite (fun _ => h.advance _ _) fun _ => h
    · exact h
  · exact h

/-! ### Pinfall decisions -/

theorem pduSync (h : Spares P s t) {l : Lane} (hl : ¬ P l) : Spares P s (t.pduSync l) := by
  have harm (b : Binding) (d : Deck) : Spares P s (t.arm l b d) := (h.modPdu l _ hl).showBall l none
  have hdisarm : Spares P s (t.disarm l) := h.modPdu l _ hl
  unfold State.pduSync
  dsimp only
  split
  · exact harm _ _
  · exact harm _ _
  · exact ite (fun _ => hdisarm) fun _ => h
  · unfold State.rebind
    dsimp only
    split
    · exact ite (fun _ => h) fun _ => h.modPdu l _ hl
    · exact h.modPdu l _ hl
  · exact hdisarm
  all_goals exact h

/-- A record published reaches the PDU that holds it alone. -/
theorem publish (h : Spares P s t) {l : Lane} (hl : ¬ P l) (b : BallRecord) (kind : BallRecord → Option Mark → Notice) :
    Spares P s (t.publish l b kind) := (((h.modPdu l _ hl).placeBall b).broadcast _).showBall l _

theorem highlightBall (h : Spares P s t) (l : Lane) (b : BallRecord) : Spares P s (t.highlightBall l b) := by
  unfold State.highlightBall
  refine ite (fun _ => ?_) fun _ => h
  split
  · split
    · exact h.same rfl rfl rfl
    · exact h
  · exact h

/-- A recipe handed over reaches no scan and no PDU: a machine in SERVICE stays there (R52, R67). -/
theorem handRecipe (h : Spares P s t) (l : Lane) (kind : RecipeKind) (target : Deck) : Spares P s (t.handRecipe l kind target) := by
  unfold State.handRecipe
  dsimp only
  split
  · rename_i e
    exact h.cycle (fun _ => by simp [e]) _
  · exact ite (fun _ => h.tell .service _) fun _ => h.takeRecipe l _
  all_goals exact h

theorem finalize (h : Spares P s t) {l : Lane} (hl : ¬ P l) (r : BallRecord) : Spares P s (t.finalize l r) := by
  unfold State.finalize
  dsimp only
  split
  · exact h
  · have h0 := ((((h.dropRunNeed hl).modPdu l Pdu.finished hl).publish hl r .ballFinal).highlightBall l r).handRecipe l
    exact (ite (fun _ => (h0 _ _).modPdu l _ hl) fun _ => h0 _ _).advanceFor r

theorem cycleExpires (h : Spares P s t) {l : Lane} (hl : ¬ P l) : Spares P s (t.cycleExpires l) := by
  unfold State.cycleExpires
  dsimp only
  split
  · exact ite (fun _ => h.finalize hl _) fun _ => h
  · exact h

theorem settle (h : Spares P s t) {l : Lane} (hl : ¬ P l) : Spares P s (t.settle l) := by
  unfold State.settle
  dsimp only
  split
  · exact ite (fun _ => ((h.modPdu l _ hl).publish hl _ _).cycleExpires hl) fun _ => (h.modPdu l _ hl).publish hl _ _
  · exact h

theorem settleScan (h : Spares P s t) {l : Lane} (hl : ¬ P l) (r : ResultSet) : Spares P s (t.settleScan l r) :=
  ite (fun _ => (h.modPdu l _ hl).settle hl) fun _ => h.modPdu l _ hl

theorem lateScan (h : Spares P s t) {l : Lane} (hl : ¬ P l) (r : ResultSet) : Spares P s (t.lateScan l r) := by
  unfold State.lateScan
  dsimp only
  split
  · exact ite (fun _ => h) fun _ => h.publish hl _ _
  · exact h

/-- A result set taken by the PDU of one lane reaches no other lane's scans and PDU. -/
theorem pduTakes (h : Spares P s t) {l : Lane} (hl : ¬ P l) (r : ResultSet) : Spares P s (t.pduTakes l r) := by
  unfold State.pduTakes
  dsimp only
  split
  · exact ite (fun _ => (h.modPdu l _ hl).settleScan hl r) fun _ => h
  · exact h.settleScan hl r
  · exact h.lateScan hl r
  all_goals exact h

/-! ### Deck sensing -/

theorem deliver (h : Spares P s t) {l : Lane} (hl : ¬ P l) (injected present : Bool) (raws : List Nat) :
    Spares P s (t.deliver l injected present raws) := by
  unfold State.deliver State.serve
  dsimp only
  refine ite (fun _ => ?_) fun _ => h
  have taken (f : SensingLane → SensingLane) (r : ResultSet) : Spares P s
      (if (t.servable l injected present).run = true then (t.modSensing l f).pduTakes l r else t.modSensing l f) :=
    ite (fun _ => (h.modSensing l f hl).pduTakes hl r) fun _ => h.modSensing l f hl
  refine ite (fun _ => Spares.tell ?_ .service _) fun _ => ?_
  all_goals
    split
    · exact (taken _ _).checkAnswer hl _ _
    · exact taken _ _

theorem fly (h : Spares P s t) {l : Lane} (hl : ¬ P l) : Spares P s (t.fly l) := by
  unfold State.fly
  exact h.modSensing l _ hl

theorem nextSerial (h : Spares P s t) : Spares P s t.nextSerial := h.same rfl rfl rfl

theorem requestLane (h : Spares P s t) {l : Lane} (hl : ¬ P l) : Spares P s (t.requestLane l) :=
  ite (fun _ => ite (fun _ => h.deliver hl _ _ _) fun _ => (h.fly hl).nextSerial) fun _ => h

theorem requestScans (h : Spares NoLane s t) : Spares NoLane s t.requestScans := by
  unfold State.requestScans
  split
  · exact (h.requestLane id).requestLane id
  · exact ite (fun _ => ite (fun _ => (h.deliver id _ _ _).deliver id _ _ _) fun _ => ((h.fly id).fly id).nextSerial) fun _ => h

theorem serveInjection (h : Spares P s t) {l : Lane} (hl : ¬ P l) : Spares P s (t.serveInjection l) := by
  unfold State.serveInjection
  dsimp only
  split
  · exact ite (fun _ => (h.modSensing l _ hl).deliver hl _ _ _) fun _ => h
  · exact h

/-- The end of an event reaches the head only where the head wakes and where it rests (R1, R3, log 7). -/
theorem finish_between (h : Spares NoLane s t) : Spares NoLane s
    ((((t.serveInjection .left).serveInjection .right).requestScans).sessionsFollow.machinesStandby.returnPump.pdusSync) :=
  ((((((h.serveInjection id).serveInjection id).requestScans).sessionsFollow).machinesStandby.returnPump).pduSync id).pduSync id

end Spares

/-! ### What sets show of pins -/

theorem mem_pinList (p : Fin 10) : p ∈ pinList := by
  revert p
  decide

/-- A class shown of a pin, whatever its wobbling mark. -/
theorem classAt_eq_some_iff (points : List PointClass) (p : Fin 10) (c : PinClass) :
    classAt points p = some c ↔ ∃ w, points[p.val]? = some (some (c, w)) := by
  unfold classAt
  rcases points[p.val]? with _ | _ | ⟨d, w⟩ <;> simp

/-- When a deck check matches (R16). -/
theorem checkSet_matched_iff (expected : Pins) (points : List PointClass) : checkSet expected points = .matched ↔
    (∀ pin : Fin 10, ∃ w, points[pin.val]? = some (some (if hasPin expected pin then .high else .low, w)))
      ∧ ∀ n, n = 10 ∨ n = 11 → ∀ c w, points[n]? = some (some (c, w)) → c = .low := by
  have clear (n : Nat) : (match (points[n]?).getD none with
      | some (c, _) => decide (c = .low)
      | none => true) = true ↔ ∀ c w, points[n]? = some (some (c, w)) → c = .low := by
    rcases points[n]? with _ | _ | ⟨d, w⟩ <;> simp
  have pins : pinList.all (fun p => decide (classAt points p = some (if hasPin expected p then .high else .low))) = true ↔
      ∀ pin : Fin 10, ∃ w, points[pin.val]? = some (some (if hasPin expected pin then .high else .low, w)) := by
    simp only [List.all_eq_true, decide_eq_true_eq, classAt_eq_some_iff, mem_pinList, forall_const]
  have zones : (∀ n, n = 10 ∨ n = 11 → ∀ c w, points[n]? = some (some (c, w)) → c = .low) ↔
      (∀ c w, points[10]? = some (some (c, w)) → c = .low) ∧ ∀ c w, points[11]? = some (some (c, w)) → c = .low := by
    constructor
    · exact fun h => ⟨h 10 (.inl rfl), h 11 (.inr rfl)⟩
    · rintro ⟨h, h'⟩ n (rfl | rfl)
      exacts [h, h']
  rw [zones, ← pins, ← clear, ← clear, ← and_assoc, ← Bool.and_eq_true, ← Bool.and_eq_true]
  unfold checkSet
  dsimp only
  split
  · rename_i h
    exact iff_of_true rfl h
  · rename_i h
    exact iff_of_false (by simp) h

/-! ### The machine after a check (R60, R61, R69) -/

/-- A recipe laid out and entered: what the machine takes, but for the recipe and the attempts it holds (R51, R52). -/
theorem layOut_enter (s : State) (l : Lane) (r : Recipe) : ((s.layOut l r.kind).psc.get l).enter .cycling none =
    { (s.psc.get l).takes r .cycling s.settings.stepTimeouts.guardDown with
        recipe := (s.psc.get l).recipe, attempts := (s.psc.get l).attempts } := by
  rcases r with ⟨_ | _ | _, target, origin⟩ <;>
    simp [State.layOut, recipeSteps, State.issue, Pinsetter.takes, Pinsetter.enter, seconds, stepTime]

/-- The laying out of a recipe changes its machine alone. -/
theorem layOut_eq (s : State) (l : Lane) (kind : RecipeKind) :
    s.layOut l kind = { s with psc := s.psc.set l ((s.layOut l kind).psc.get l) } := by
  cases kind <;> simp [State.layOut, recipeSteps, State.issue, modPsc_eq]

/-- A machine out of SERVICE that enters CYCLING with a recipe laid out again (R60). -/
theorem behind_layOut_cycling (s : State) (l : Lane) (r : Recipe) (h : (s.psc.get l).state ≠ .service) :
    State.behind ((s.layOut l r.kind).setMachine l .cycling) = (State.behind s).modPsc l fun p =>
      { p.takes r .cycling s.settings.stepTimeouts.guardDown with recipe := p.recipe, attempts := p.attempts } := by
  rw [behind_setMachine _ _ _ _ _ (by rwa [Spares.layOut_state]), layOut_eq]
  simp only [State.modPsc, State.behind, PerLane.get_set, PerLane.set_set, layOut_enter]

/-- A machine out of SERVICE that takes a recipe into play (R51, R52). -/
theorem behind_cycle (s : State) (l : Lane) (r : Recipe) (h : (s.psc.get l).state ≠ .service) :
    State.behind (s.cycle l r) = (State.behind s).modPsc l fun p => p.takes r .cycling s.settings.stepTimeouts.guardDown := by
  rw [State.cycle, State.takeRecipe, behind_layOut_cycling _ _ _ (by simpa using h), behind_modPsc, modPsc_comp]
  rfl

/-- A machine's cycle end (R61): the target is the deck, and the machine takes the closing rack it owes, rests, or is READY. -/
def State.endsCycle (s : State) (l : Lane) (r : Recipe) (p : Pinsetter) : Pinsetter :=
  if p.closingOwed && decide (r.kind ≠ .full) then
    { p with closingOwed := false }.takes closingRack .cycling s.settings.stepTimeouts.guardDown
  else { p with
    state := if s.machineIdles l then .standby else .ready
    cause := none, recipe := none, attempts := 0, closingOwed := false, startTimer := none, stepTimer := none }

theorem behind_cycleEnd (s : State) (l : Lane) (r : Recipe) (h : (s.psc.get l).state ≠ .service) (hr : (s.psc.get l).recipe = some r) :
    State.behind (s.cycleEnd l) = ((State.behind s).modPdu l fun p => { p with deck := r.target }).modPsc l (s.endsCycle l r) := by
  let s' := (s.modPdu l fun p => { p with deck := r.target }).modPsc l fun p => { p with recipe := none, attempts := 0, closingOwed := false }
  have hs : (s'.psc.get l).state ≠ .service := by simpa [s'] using h
  have hend : s.cycleEnd l = if (s.psc.get l).closingOwed && !decide (r.kind = .full) then s'.cycle l closingRack
      else if s.machineIdles l then s'.setMachine l .standby else s'.setMachine l .ready := by
    unfold State.cycleEnd
    simp only [hr]
    rfl
  have same {f : Pinsetter → Pinsetter} (hf : f (s'.psc.get l) = s.endsCycle l r (s.psc.get l)) :
      (State.behind s').modPsc l f = ((State.behind s).modPdu l fun p => { p with deck := r.target }).modPsc l (s.endsCycle l r) := by
    simp only [modPsc_eq, behind_psc, hf, State.modPdu_psc]
    simp [s', State.behind, modPsc_eq, modPdu_eq]
  rw [hend]
  split
  · rename_i ho
    rw [behind_cycle _ _ _ hs]
    refine same ?_
    simp only [Bool.and_eq_true, Bool.not_eq_true', decide_eq_false_iff_not] at ho
    simp [s', State.endsCycle, ho, Pinsetter.takes]
  · rename_i ho
    have ho' : ¬ ((s.psc.get l).closingOwed = true ∧ ¬ r.kind = .full) := by simpa using ho
    split <;> rename_i hi <;> rw [behind_setMachine _ _ _ _ _ hs] <;> refine same ?_ <;>
      simp [s', State.endsCycle, ho', hi, Pinsetter.enter]

/-- A check that matched, or that found no reading, ends the cycle (R60, R61). -/
theorem behind_checkAnswer_ended (s : State) (l : Lane) {o : CheckOutcome} (classes : List PointClass) (r : Recipe)
    (ho : o = .matched ∨ o = .noReading) (h : (s.psc.get l).state ≠ .service) (hr : (s.psc.get l).recipe = some r) :
    State.behind (s.checkAnswer l o classes)
      = ((State.behind s).modPdu l fun p => { p with deck := r.target }).modPsc l (s.endsCycle l r) := by
  rcases ho with rfl | rfl
  · exact behind_cycleEnd s l r h hr
  · have e := behind_cycleEnd (s.broadcast (.checkSkipped (s.laneNumber l))) l r h hr
    rw [behind_broadcast] at e
    exact e

/-- The outcomes of a check for a machine in CHECKING (R60, R61, R69). -/
theorem checkAnswer_outcomes (s : State) (l : Lane) (r : Recipe) (classes : List PointClass)
    (hs : (s.psc.get l).state = .checking) (hr : (s.psc.get l).recipe = some r) :
    let p := s.psc.get l
    (∀ o : CheckOutcome, o = .matched ∨ o = .noReading →
      ((s.checkAnswer l o classes).pdu.get l) = { s.pdu.get l with deck := r.target }
        ∧ (s.checkAnswer l o classes).psc.get l = s.endsCycle l r p)
    ∧ (¬ (r.kind = .rerack ∧ r.origin = .resume) → p.attempts ≤ 1 → (s.checkAnswer l .mismatch classes).psc.get l
        = { p.takes r .cycling s.settings.stepTimeouts.guardDown with attempts := p.attempts })
    ∧ (¬ (r.kind = .rerack ∧ r.origin = .resume) → 2 ≤ p.attempts → (s.checkAnswer l .mismatch classes).psc.get l = { p with
        state := .fault, cause := some .deckMismatch, recipe := none, closingOwed := false, startTimer := none, stepTimer := none })
    ∧ (r.kind = .rerack → r.origin = .resume →
        (s.checkAnswer l .mismatch classes).psc.get l = { p with
          state := .service, cause := none, recipe := none, startTimer := none }
        ∧ ((s.checkAnswer l .mismatch classes).pdu.get l).deck = .unknown (s.pdu.get l).deck.count) := by
  have hn : (s.psc.get l).state ≠ .service := by simp [hs]
  refine ⟨fun o ho => ?_, fun hk ha => ?_, fun hk ha => ?_, fun hk ho => ?_⟩
  · have e := behind_checkAnswer_ended s l classes r ho hn hr
    refine ⟨(congrArg (fun w => w.pdu.get l) e).trans ?_, (congrArg (fun w => w.psc.get l) e).trans ?_⟩ <;> simp
  · have e : s.checkAnswer l .mismatch classes = (s.layOut l r.kind).setMachine l .cycling := by
      simp [State.checkAnswer, hr, hk, ha]
    refine (congrArg (fun w => w.psc.get l) ((congrArg State.behind e).trans (behind_layOut_cycling s l r hn))).trans ?_
    simp [hr, Pinsetter.takes]
  · have e : s.checkAnswer l .mismatch classes = s.deckFault l classes := by
      simp [State.checkAnswer, hr, hk, Nat.not_le.mpr ha]
    refine (congrArg (fun w => w.psc.get l) ((congrArg State.behind e).trans (behind_setMachine _ l _ _ _ (by simpa using hn)))).trans ?_
    simp [Pinsetter.enter]
  · have e : s.checkAnswer l .mismatch classes = s.resumeFails l classes := by
      simp [State.checkAnswer, hr, hk, ho]
    have eb := (congrArg State.behind e).trans ((behind_tell _ _ _).trans (behind_setMachine _ l _ _ _ (by simpa using hn)))
    refine ⟨(congrArg (fun w => w.psc.get l) eb).trans ?_, (congrArg (fun w => (w.pdu.get l).deck) eb).trans ?_⟩ <;>
      simp [Pinsetter.enter, Deck.forget]

/-! ### The needs that a lane's readings serve (R8, R15) -/

/-- A lane's list after a result set: the slots it read, and the needs that stay. -/
def SensingLane.took (x : SensingLane) (inRun : Bool) (raws : List Nat) (left : Needs) : SensingLane :=
  let read := readSlots inRun x.slots raws
  { x with slots := read.map (·.1) ++ x.slots.drop read.length, needs := left }

/-- The result set that a lane's readings form. -/
def State.formed (s : State) (l : Lane) (injected inRun : Bool) (raws : List Nat) : ResultSet :=
  resultSet l injected (readSlots inRun (s.sensing.get l).slots raws)

/-- A lane's list with a result set taken. -/
def State.takes (s : State) (l : Lane) (inRun : Bool) (raws : List Nat) (left : Needs) : State :=
  s.modSensing l fun x => x.took inRun raws left

section
variable {s : State} {l : Lane} {injected present : Bool} {check : Option Pins}

/-- Readings that no need may take are discarded (R10). -/
theorem deliver_discarded (h : s.servable l injected present = ⟨false, none, false⟩) (raws : List Nat) :
    s.deliver l injected present raws = s := by
  simp [State.deliver, h]

/-- A run need takes its set (R15, R29). -/
theorem deliver_run (h : s.servable l injected present = ⟨true, none, false⟩) (raws : List Nat) :
    s.deliver l injected present raws = (s.takes l true raws { (s.sensing.get l).needs with run := false }).pduTakes l
      (s.formed l injected true raws) := by
  simp [State.deliver, State.serve, h, State.takes, SensingLane.took, State.formed, State.modSensing]

/-- A check need is answered to the PSC (R16). -/
theorem deliver_check {e : Pins} (h : s.servable l injected present = ⟨false, some e, false⟩) (raws : List Nat) :
    s.deliver l injected present raws = (s.takes l false raws { (s.sensing.get l).needs with check := none }).checkAnswer l
      (checkSet e (s.formed l injected false raws).points) (s.formed l injected false raws).points := by
  simp [State.deliver, State.serve, h, State.takes, SensingLane.took, State.formed, State.modSensing]

/-- A continuous need sends SCAN_RESULT to the service link (R19). -/
theorem deliver_cont (h : s.servable l injected present = ⟨false, none, true⟩) (raws : List Nat) :
    s.deliver l injected present raws = (s.takes l true raws { (s.sensing.get l).needs with cont := false }).tell .service
      (.scanResult (s.formed l injected true raws)) := by
  simp [State.deliver, State.serve, h, State.takes, SensingLane.took, State.formed, State.modSensing]

/-- A run need is served before a check need (R15). -/
theorem deliver_run_check {e : Pins} (h : s.servable l injected present = ⟨true, some e, false⟩) (raws : List Nat) :
    s.deliver l injected present raws = ((s.takes l true raws { (s.sensing.get l).needs with run := false, check := none }).pduTakes
      l (s.formed l injected true raws)).checkAnswer l (checkSet e (s.formed l injected true raws).points)
        (s.formed l injected true raws).points := by
  simp [State.deliver, State.serve, h, State.takes, SensingLane.took, State.formed, State.modSensing]

end

/-! ### Readouts (R11) -/

/-- What a readout brings of a lane. -/
def brought (left right : List Nat) : Lane → List Nat
  | .left => left
  | .right => right

section
variable {s : State} {n : Nat} {l : Lane} {f : Scan}

theorem scanUnder_some (h : (s.sensing.get l).scan = some f) (hn : f.serial = n) : s.scanUnder n l = some f := by
  simp [State.scanUnder, State.covers, h, hn]

theorem asked_some (h : (s.sensing.get l).scan = some f) (hn : f.serial = n) : s.asked n l = f.length := by
  simp [State.asked, h, hn]

theorem scanUnder_none (h : ∀ g, (s.sensing.get l).scan = some g → g.serial ≠ n) : s.scanUnder n l = none := by
  cases hs : (s.sensing.get l).scan with
  | none => simp [State.scanUnder, hs]
  | some g => simp [State.scanUnder, State.covers, hs, h g hs]

theorem asked_none (h : ∀ g, (s.sensing.get l).scan = some g → g.serial ≠ n) : s.asked n l = 0 := by
  cases hs : (s.sensing.get l).scan with
  | none => simp [State.asked, hs]
  | some g => simp [State.asked, hs, h g hs]

/-- A readout for no scan in flight (R11). -/
theorem readout_stray (h : ∀ j g, (s.sensing.get j).scan = some g → g.serial ≠ n) (left right : List Nat) :
    s.readout n left right = s := by
  simp [State.readout, scanUnder_none (h .left), scanUnder_none (h .right)]

/-- A readout of the right length for one lane ends its scan and brings its readings. -/
theorem readout_only {left right : List Nat} (h : (s.sensing.get l).scan = some f) (hn : f.serial = n)
    (hlen : (brought left right l).length = f.length) (ho : brought left right (otherLane l) = [])
    (hg : ∀ g, (s.sensing.get (otherLane l)).scan = some g → g.serial ≠ n) :
    s.readout n left right = if f.discard then s.endScan l else (s.endScan l).deliver l false f.checkPresent (brought left right l) := by
  cases l
  all_goals
    simp only [brought, otherLane] at hlen ho hg
    simp [State.readout, scanUnder_some h hn, scanUnder_none hg, asked_some h hn, asked_none hg, hlen, ho, State.land, brought]

/-- A readout of the right lengths for both lanes serves LEFT before RIGHT (R10, log 24). -/
theorem readout_both {left right : List Nat} {a b : Scan} (ha : s.sensing.left.scan = some a) (hb : s.sensing.right.scan = some b)
    (hna : a.serial = n) (hnb : b.serial = n) (hla : left.length = a.length) (hlb : right.length = b.length)
    (hda : a.discard = false) (hdb : b.discard = false) :
    s.readout n left right = (((s.endScan .left).endScan .right).deliver .left false a.checkPresent left).deliver .right false
      b.checkPresent right := by
  have ha' : (s.sensing.get .left).scan = some a := ha
  have hb' : (s.sensing.get .right).scan = some b := hb
  simp [State.readout, scanUnder_some ha' hna, scanUnder_some hb' hnb, asked_some ha' hna, asked_some hb' hnb, hla, hlb, State.land, hda, hdb]

/-- A readout with the wrong number of readings fails as a timeout does (R11, R17). -/
theorem readout_failed {left right : List Nat} (h : (s.sensing.get l).scan = some f) (hn : f.serial = n)
    (hlen : (brought left right l).length ≠ f.length) : s.readout n left right = s.failRequest n := by
  cases l
  all_goals
    simp only [brought] at hlen
    simp [State.readout, scanUnder_some h hn, asked_some h hn, hlen]

theorem readoutExpires_running (h : (s.sensing.get l).scan = some f) (ht : f.timer ≠ none) :
    s.readoutExpires l = s.failRequest f.serial := by
  simp [State.readoutExpires, h, Option.isSome_iff_ne_none.mpr ht]

end

/-! ### A change of one lane's scans, before or after an answer to the other lane's machine -/

section
variable (s : State) (m : Lane) (f : SensingLane → SensingLane)

theorem modSensing_comm {l : Lane} (h : m ≠ l) (g : SensingLane → SensingLane) :
    (s.modSensing m f).modSensing l g = (s.modSensing l g).modSensing m f := by
  match m, l, h with
  | .left, .right, _ => rfl
  | .right, .left, _ => rfl

theorem modSensing_broadcast (n : Notice) : (s.modSensing m f).broadcast n = (s.broadcast n).modSensing m f := rfl

theorem modSensing_bannerEval (l : Lane) : (s.modSensing m f).bannerEval l = (s.bannerEval l).modSensing m f := rfl

theorem modSensing_markFeed (l : Lane) (a b : Bool) : (s.modSensing m f).markFeed l a b = (s.markFeed l a b).modSensing m f := rfl

theorem modSensing_modSession (l : Lane) (g : Session → Session) :
    (s.modSensing m f).modSession l g = (s.modSession l g).modSensing m f := rfl

theorem modSensing_enterSession (l : Lane) (st : SessionState) (o : Option SessionState) :
    (s.modSensing m f).enterSession l st o = (s.enterSession l st o).modSensing m f := by
  unfold State.enterSession
  dsimp only
  rw [modSensing_modSession]
  generalize s.modSession l _ = t
  rw [← modSensing_bannerEval, ← modSensing_markFeed, ← modSensing_broadcast]
  rfl

theorem modSensing_ite {p : Prop} [Decidable p] (a b : State) :
    (if p then a.modSensing m f else b.modSensing m f) = (if p then a else b).modSensing m f := by
  split <;> rfl

theorem modSensing_pauseEval (l : Lane) : (s.modSensing m f).pauseEval l = (s.pauseEval l).modSensing m f := by
  have hp : (s.modSensing m f).pauseHolds l = s.pauseHolds l := rfl
  unfold State.pauseEval
  simp only [State.modSensing_sessions, hp, modSensing_enterSession, modSensing_ite]
  split <;> rfl

theorem modSensing_opens (l : Lane) : (s.modSensing m f).opens l = (s.opens l).modSensing m f := by
  unfold State.opens
  simp only [State.modSensing_sessions, State.modSensing_psc, modSensing_enterSession, modSensing_pauseEval, modSensing_ite]
  rfl

theorem modSensing_leaveService {l : Lane} (h : m ≠ l) : (s.modSensing m f).leaveService l = (s.leaveService l).modSensing m f := by
  have dropped (t : State) : (t.modSensing m f).modPdu l Pdu.dropped = (t.modPdu l Pdu.dropped).modSensing m f := rfl
  unfold State.leaveService State.endContinuous State.dropRunNeed
  simp only [modSensing_comm _ _ _ h, State.modSensing_pdu, dropped, modSensing_ite]
  rfl

theorem modSensing_machineChanged {l : Lane} (h : m ≠ l) (before : MachineState) (classes : Option (List PointClass)) :
    (s.modSensing m f).machineChanged l before classes = (s.machineChanged l before classes).modSensing m f := by
  unfold State.machineChanged
  simp only [State.modSensing_psc, modSensing_broadcast, modSensing_markFeed, modSensing_leaveService _ _ _ h, modSensing_ite,
    modSensing_opens, modSensing_pauseEval, modSensing_bannerEval]
  rfl

theorem modSensing_setMachine {l : Lane} (h : m ≠ l) (st : MachineState) (c : Option FaultCause) (k : Option (List PointClass)) :
    (s.modSensing m f).setMachine l st c k = (s.setMachine l st c k).modSensing m f := by
  have e : (s.modSensing m f).modPsc l (fun p => p.enter st c) = (s.modPsc l fun p => p.enter st c).modSensing m f := rfl
  unfold State.setMachine
  simp only [State.modSensing_psc, e, modSensing_machineChanged _ _ _ h, modSensing_ite]

theorem modSensing_cycle {l : Lane} (h : m ≠ l) (r : Recipe) : (s.modSensing m f).cycle l r = (s.cycle l r).modSensing m f := by
  have e : (s.modSensing m f).takeRecipe l r = (s.takeRecipe l r).modSensing m f := by
    rcases r with ⟨_ | _ | _, t, o⟩ <;> rfl
  unfold State.cycle
  rw [e, modSensing_setMachine _ _ _ h]

theorem modSensing_cycleEnd {l : Lane} (h : m ≠ l) : (s.modSensing m f).cycleEnd l = (s.cycleEnd l).modSensing m f := by
  have written (d : Deck) : (s.modSensing m f).writeDeck l d = (s.writeDeck l d).modSensing m f := rfl
  have ended (t : State) : (t.modSensing m f).modPsc l (fun p => { p with recipe := none, attempts := 0, closingOwed := false })
      = (t.modPsc l fun p => { p with recipe := none, attempts := 0, closingOwed := false }).modSensing m f := rfl
  have idles (t : State) : (t.modSensing m f).machineIdles l = t.machineIdles l := rfl
  unfold State.cycleEnd
  cases hr : (s.psc.get l).recipe <;>
    simp only [State.modSensing_psc, hr, written, ended, idles, modSensing_cycle _ _ _ h, modSensing_setMachine _ _ _ h, modSensing_ite]

/-- The answer to a deck check of one lane neither reads nor changes the other lane's scans. -/
theorem modSensing_checkAnswer {l : Lane} (h : m ≠ l) (o : CheckOutcome) (classes : List PointClass) :
    (s.modSensing m f).checkAnswer l o classes = (s.checkAnswer l o classes).modSensing m f := by
  have laid (kind : RecipeKind) : (s.modSensing m f).layOut l kind = (s.layOut l kind).modSensing m f := by cases kind <;> rfl
  have failed : (s.modSensing m f).resumeFails l classes = (s.resumeFails l classes).modSensing m f := by
    have e := modSensing_setMachine ((s.modPsc l fun p => { p with recipe := none }).modPdu l fun p => { p with deck := p.deck.forget })
      m f h .service none none
    exact congrArg (·.tell .service (.resumeMismatch classes)) e
  have faulted : (s.modSensing m f).deckFault l classes = (s.deckFault l classes).modSensing m f := by
    exact modSensing_setMachine (s.modPsc l fun p => { p with recipe := none, closingOwed := false }) m f h _ _ _
  unfold State.checkAnswer
  cases o with
  | matched => exact modSensing_cycleEnd s m f h
  | noReading => exact modSensing_cycleEnd (s.broadcast (.checkSkipped (s.laneNumber l))) m f h
  | mismatch =>
    cases hr : (s.psc.get l).recipe <;>
      simp only [State.modSensing_psc, hr, laid, failed, faulted, modSensing_setMachine _ _ _ h, modSensing_ite]

end

/-! ### Deck checks -/

section
variable (s : State) (l : Lane)

theorem servable_endScan (m : Lane) (injected present : Bool) :
    (s.endScan m).servable l injected present = s.servable l injected present := by
  cases l <;> cases m <;> rfl

theorem needs_endScan (m : Lane) : ((s.endScan m).sensing.get l).needs = (s.sensing.get l).needs := by
  cases l <;> cases m <;> rfl

theorem endScan_takes (inRun : Bool) (raws : List Nat) (left : Needs) : (s.endScan l).takes l inRun raws left =
    { s with sensing := s.sensing.set l { s.sensing.get l with
        slots := (readSlots inRun (s.sensing.get l).slots raws).map (·.1)
          ++ (s.sensing.get l).slots.drop (readSlots inRun (s.sensing.get l).slots raws).length
        scan := none, needs := left } } := by
  cases l <;> rfl

theorem formed_endScan (m : Lane) (injected inRun : Bool) (raws : List Nat) :
    (s.endScan m).formed l injected inRun raws = s.formed l injected inRun raws := by
  cases l <;> cases m <;> rfl

theorem servable_of_needs {run : Bool} {check : Option Pins} {cont present : Bool} (h : (s.sensing.get l).needs = ⟨run, check, cont⟩) :
    s.servable l false present
      = ⟨run && decide ((s.psc.get l).state ≠ .service), if present then check else none, cont⟩ := by
  cases present <;> simp [State.servable, h]

end

/-! ### One readout of both lanes (R10) -/

section
variable {t : State} {l : Lane}

theorem deliver_idle (h : (t.sensing.get l).needs = ⟨false, none, false⟩) (present : Bool) (raws : List Nat) :
    t.deliver l false present raws = t :=
  deliver_discarded (by rw [servable_of_needs t l h, ite_self]; rfl) raws

/-- Readings of both lanes, the other one of which waits for nothing. -/
theorem deliver_pair (h : (t.sensing.get (otherLane l)).needs = ⟨false, none, false⟩) (present : PerLane Bool) (left right : List Nat) :
    (t.deliver .left false present.left left).deliver .right false present.right right
      = t.deliver l false (present.get l) (brought left right l) := by
  cases l
  · refine deliver_idle ?_ _ _
    rw [((Spares.refl (P := (· = .right)) t).deliver (l := .left) (by decide) _ _ _).sensing .right rfl]
    exact h
  · rw [deliver_idle (l := .left) h]
    rfl

/-- Two deck checks: both sets are taken, and LEFT is answered before RIGHT. -/
theorem deliver_checks {d e : Pins} (hl : t.sensing.left.needs = ⟨false, some d, false⟩)
    (hr : t.sensing.right.needs = ⟨false, some e, false⟩) (left right : List Nat) :
    (t.deliver .left false true left).deliver .right false true right =
      (((t.takes .right false right ⟨false, none, false⟩).takes .left false left ⟨false, none, false⟩).checkAnswer .left
        (checkSet d (t.formed .left false false left).points) (t.formed .left false false left).points).checkAnswer .right
          (checkSet e (t.formed .right false false right).points) (t.formed .right false false right).points := by
  have hl' : (t.sensing.get .left).needs = ⟨false, some d, false⟩ := hl
  have hr' : (t.sensing.get .right).needs = ⟨false, some e, false⟩ := hr
  rw [deliver_check (s := t) (e := d) (by rw [servable_of_needs t .left hl']; rfl), hl']
  generalize hv : (t.takes .left false left ⟨false, none, false⟩).checkAnswer .left (checkSet d (t.formed .left false false left).points)
    (t.formed .left false false left).points = v
  have hs : v.sensing.get .right = t.sensing.get .right := by
    rw [← hv]
    exact (((Spares.refl (P := (· = .right)) t).modSensing .left _ (by decide)).checkAnswer (by decide) _ _).sensing .right rfl
  have hn : (v.sensing.get .right).needs = ⟨false, some e, false⟩ := hs ▸ hr'
  rw [deliver_check (s := v) (e := e) (by rw [servable_of_needs v .right hn]; rfl), hn]
  have hf : v.formed .right false false right = t.formed .right false false right := by simp only [State.formed, hs]
  have hcomm : v.takes .right false right ⟨false, none, false⟩ = ((t.takes .right false right ⟨false, none, false⟩).takes .left false
      left ⟨false, none, false⟩).checkAnswer .left (checkSet d (t.formed .left false false left).points)
        (t.formed .left false false left).points := by
    rw [← hv]
    unfold State.takes
    rw [modSensing_comm t .right _ (by decide), modSensing_checkAnswer _ .right _ (by decide)]
  rw [hf, hcomm]

/-- Two continuous needs: both sets are taken, and LEFT is told before RIGHT. -/
theorem deliver_conts (hl : t.sensing.left.needs = ⟨false, none, true⟩) (hr : t.sensing.right.needs = ⟨false, none, true⟩)
    (present : PerLane Bool) (left right : List Nat) :
    (t.deliver .left false present.left left).deliver .right false present.right right =
      (((t.takes .right true right ⟨false, none, false⟩).takes .left true left ⟨false, none, false⟩).tell .service
        (.scanResult (t.formed .left false true left))).tell .service (.scanResult (t.formed .right false true right)) := by
  have hl' : (t.sensing.get .left).needs = ⟨false, none, true⟩ := hl
  have hr' : (t.sensing.get .right).needs = ⟨false, none, true⟩ := hr
  rw [deliver_cont (s := t) (by rw [servable_of_needs t .left hl', ite_self]; rfl), hl']
  generalize hv : (t.takes .left true left ⟨false, none, false⟩).tell .service (.scanResult (t.formed .left false true left)) = v
  have hs : v.sensing.get .right = t.sensing.get .right := by rw [← hv]; rfl
  have hn : (v.sensing.get .right).needs = ⟨false, none, true⟩ := hs ▸ hr'
  rw [deliver_cont (s := v) (by rw [servable_of_needs v .right hn, ite_self]; rfl), hn, ← hv]
  rfl

end

section
variable (s : State) (l : Lane) {r : Recipe} {p : Pinsetter}

theorem endsCycle_owed (hc : p.closingOwed = true) (hk : r.kind ≠ .full) : s.endsCycle l r p =
    { p with closingOwed := false }.takes closingRack .cycling s.settings.stepTimeouts.guardDown := if_pos (by simp [hc, hk])

theorem endsCycle_free (h : p.closingOwed = false ∨ r.kind = .full) : s.endsCycle l r p = { p with
    state := if s.machineIdles l then .standby else .ready
    cause := none, recipe := none, attempts := 0, closingOwed := false, startTimer := none, stepTimer := none } :=
  if_neg (by rcases h with h | h <;> simp [h])

end

/-- Settles O43: the outcomes of a check by the cases of R60 and R69, and each readout by the needs it meets. -/
theorem deckChecks : Obligations.DeckChecks := by
  unfold Obligations.DeckChecks
  refine ⟨⟨checkSet_matched_iff, ?machine⟩, ?readouts⟩
  case machine =>
    intro s l r classes p hs hr
    obtain ⟨ended, again, fault, resumed⟩ := checkAnswer_outcomes s l r classes hs hr
    refine ⟨fun o ho => ?_, again, fault, resumed⟩
    obtain ⟨hdeck, hpsc⟩ := ended o ho
    exact ⟨hdeck, fun hc hk => hpsc.trans (endsCycle_owed s l hc hk), fun h => hpsc.trans (endsCycle_free s l h)⟩
  case readouts =>
    intro n left right s raws ended formed taken under only runs gives empty
    have hraws : raws = brought left right := funext fun l => by cases l <;> rfl
    clear_value raws
    subst hraws
    have give {u : State} (h : s.readout n left right = u) : gives u := by
      rw [← h]
      rfl
    refine ⟨fun l f hu ho => ?one, fun a b ha hb hda hdb => ?both⟩
    case one =>
      obtain ⟨hscan, hn, hlen⟩ := hu
      have hread := readout_only hscan hn hlen ho.1 ho.2
      intro needs points
      have lands (hd : f.discard = false) : s.readout n left right = (s.endScan l).deliver l false f.checkPresent (brought left right l) := by
        rw [hread, hd]
        rfl
      have drops (h : f.discard = true ∨ s.servable l false f.checkPresent = ⟨false, none, false⟩) : gives (ended l s) := by
        refine give ?_
        rw [hread]
        split
        · rfl
        · rename_i hd
          exact deliver_discarded (by rw [servable_endScan, h.resolve_left hd]) _
      refine ⟨fun h => ?_, fun run expected hneeds hrun hcheck => ?_, fun hd expected hneeds hp => ?_, fun hd expected hneeds hp => ?_,
        fun hd expected hneeds hr => ⟨fun hp => ?_, fun hp => ?_⟩⟩
      · refine drops (h.imp_right fun hneeds => ?_)
        rw [servable_of_needs s l hneeds, ite_self]
        rfl
      · refine drops (.inr ?_)
        rw [servable_of_needs s l hneeds]
        have h1 : (run && decide ((s.psc.get l).state ≠ .service)) = false := by
          rcases hrun with h | h
          · simp [h]
          · simp [not_not.mp h]
        have h2 : (if f.checkPresent = true then expected else none) = none := by rcases hcheck with h | h <;> simp [h]
        rw [h1, h2]
      · refine give ((lands hd).trans ((deliver_check (e := expected) ?_ _).trans ?_))
        · rw [servable_endScan, servable_of_needs s l hneeds, hp]
          rfl
        · rw [needs_endScan, show (s.sensing.get l).needs = _ from hneeds, endScan_takes, formed_endScan]
          rfl
      · refine give ((lands hd).trans ((deliver_cont ?_ _).trans ?_))
        · have h2 : (if f.checkPresent = true then expected else none) = none := by rcases hp with h | h <;> simp [h]
          rw [servable_endScan, servable_of_needs s l hneeds, h2]
          rfl
        · rw [needs_endScan, show (s.sensing.get l).needs = _ from hneeds, endScan_takes, formed_endScan]
          rfl
      · refine give ((lands hd).trans ((deliver_run_check (e := expected) ?_ _).trans ?_))
        · have h1 : decide ((s.psc.get l).state ≠ .service) = true := decide_eq_true hr
          rw [servable_endScan, servable_of_needs s l hneeds, hp, h1]
          rfl
        · rw [needs_endScan, show (s.sensing.get l).needs = _ from hneeds, endScan_takes, formed_endScan]
          rfl
      · refine give ((lands hd).trans ((deliver_run ?_ _).trans ?_))
        · have h1 : decide ((s.psc.get l).state ≠ .service) = true := decide_eq_true hr
          rw [servable_endScan, servable_of_needs s l hneeds, hp, h1]
          rfl
        · rw [needs_endScan, show (s.sensing.get l).needs = _ from hneeds, endScan_takes, formed_endScan]
          rfl
    case both =>
      obtain ⟨hsa, hna, hla⟩ := ha
      obtain ⟨hsb, hnb, hlb⟩ := hb
      have hread := readout_both hsa hsb hna hnb hla hlb hda hdb
      intro points
      refine ⟨fun hl hr => ?_, fun l hneeds hr hother => ?_, fun d e hl hr hpa hpb => ?_, fun hl hr => ?_⟩
      · refine give (hread.trans ?_)
        rw [deliver_idle (t := (s.endScan .left).endScan .right) (l := .left) hl,
          deliver_idle (t := (s.endScan .left).endScan .right) (l := .right) hr]
        rfl
      · refine give (hread.trans ((deliver_pair (l := l) ?_ ⟨a.checkPresent, b.checkPresent⟩ _ _).trans ((deliver_run ?_ _).trans ?_)))
        · rw [needs_endScan, needs_endScan]
          exact hother
        · have h1 : decide ((s.psc.get l).state ≠ .service) = true := decide_eq_true hr
          rw [servable_endScan, servable_endScan, servable_of_needs s l hneeds, h1, ite_self]
          rfl
        · rw [needs_endScan, needs_endScan, hneeds, formed_endScan, formed_endScan]
          cases l <;> rfl
      · rw [hpa, hpb, deliver_checks (t := (s.endScan .left).endScan .right) (d := d) (e := e) hl hr] at hread
        simp only [formed_endScan] at hread
        exact give hread
      · rw [deliver_conts (t := (s.endScan .left).endScan .right) hl hr ⟨a.checkPresent, b.checkPresent⟩] at hread
        simp only [formed_endScan] at hread
        exact give hread

end Sys2Proof.Machine
end

section
/-! Deck sensing (chapter 1): the readouts of a run. -/
namespace Sys2Proof.Machine

/-! ### Pin sets -/

theorem getLsbD_pin : ∀ q p : Fin 10, (1#10 <<< q.val).getLsbD p.val = decide (q = p) := by decide

/-- A fold that sets the bits of the pins of a list that satisfy a test. -/
theorem getLsbD_foldl_pins (f : Fin 10 → Bool) (l : List (Fin 10)) (a : Pins) (p : Fin 10) :
    (l.foldl (fun acc q => if f q then acc ||| (1#10 <<< q.val) else acc) a).getLsbD p.val
      = (a.getLsbD p.val || l.any fun q => f q && decide (q = p)) := by
  induction l generalizing a with
  | nil => simp
  | cons q l ih =>
    rw [List.foldl_cons, ih, List.any_cons, ← Bool.or_assoc]
    congr 1
    cases hq : f q
    · simp
    · rw [if_pos rfl, BitVec.getLsbD_or, getLsbD_pin, Bool.true_and]

@[simp] theorem hasPin_pinsWhere (f : Fin 10 → Bool) (p : Fin 10) : hasPin (pinsWhere f) p = f p := by
  unfold hasPin pinsWhere
  rw [getLsbD_foldl_pins]
  have h : (pinList.any fun q => f q && decide (q = p)) = f p := by
    rw [Bool.eq_iff_iff]
    simp [mem_pinList]
  simp [h]

theorem pins_ext {a b : Pins} (h : ∀ p, hasPin a p = hasPin b p) : a = b :=
  BitVec.eq_of_getLsbD_eq fun i hi => h ⟨i, hi⟩

theorem hasPin_standingIn (up : Pins) (points : List PointClass) (p : Fin 10) : hasPin (standingIn up points) p = true ↔
    hasPin up p = true ∧ ¬ ∃ w, points[p.val]? = some (some (.low, w)) := by
  rw [standingIn, hasPin_pinsWhere, Bool.and_eq_true, decide_eq_true_eq, Ne, classAt_eq_some_iff]

/-- No standing pin is LOW in a set: the standing pins are the same (R34). -/
theorem standingIn_same {up : Pins} {points : List PointClass}
    (h : ∀ p : Fin 10, ¬ (hasPin up p = true ∧ ∃ w, points[p.val]? = some (some (.low, w)))) : standingIn up points = up :=
  pins_ext fun p => by
    rw [Bool.eq_iff_iff, hasPin_standingIn]
    exact ⟨And.left, fun hp => ⟨hp, fun hl => h p ⟨hp, hl⟩⟩⟩

theorem standingIn_fallen {up : Pins} {points : List PointClass} {p : Fin 10}
    (h : hasPin up p = true ∧ ∃ w, points[p.val]? = some (some (.low, w))) : standingIn up points ≠ up := fun e =>
  ((hasPin_standingIn up points p).mp (e.symm ▸ h.1)).2 h.2

/-- A set is decided when each pin it is judged on is HIGH or LOW in it (R31). -/
theorem decided_iff (up : Pins) (points : List PointClass) : decided up points = true ↔
    ∀ pin : Fin 10, hasPin up pin = true → ∃ w, points[pin.val]? = some (some (.high, w)) ∨ points[pin.val]? = some (some (.low, w)) := by
  simp only [decided, List.all_eq_true, mem_pinList, forall_const, Bool.or_eq_true, Bool.not_eq_true', decide_eq_true_eq,
    classAt_eq_some_iff, exists_or]
  refine forall_congr' fun p => ?_
  cases hasPin up p <;> simp

/-! ### Balls on their lines (R96) -/

/-- The change of a line in use reads and changes lines and totals alone. -/
theorem changeLine_congr {s t : State} (hl : t.lines = s.lines) (hg : t.groups = s.groups) (hh : t.handicap = s.handicap)
    (hd : t.dirty = s.dirty) (i : LineId) (f : Line → Line) : t.changeLine i f = t.withLines (s.changeLine i f) := by
  have hline : t.line i = s.line i := by rw [State.line, hl, State.line]
  unfold State.changeLine
  rw [hline]
  cases s.line i with
  | none => simp only [State.withLines, ← hl, ← hg, ← hd]
  | some l =>
    clear hline
    cases s
    cases t
    dsimp only at hl hg hh hd
    subst hl hg hh hd
    rfl

/-- The placing of a ball reads and changes lines and totals alone. -/
theorem placeBall_congr {s t : State} (hl : t.lines = s.lines) (hg : t.groups = s.groups) (hh : t.handicap = s.handicap)
    (hd : t.dirty = s.dirty) (b : BallRecord) : t.placeBall b = t.withLines (s.placeBall b) := by
  have hfor : t.lineForBall b = s.lineForBall b := by
    unfold State.lineForBall State.line
    rw [hl, hg]
  unfold State.placeBall
  rw [hfor]
  split
  · exact changeLine_congr hl hg hh hd _ _
  · simp only [State.withLines, ← hl, ← hg, ← hd]

/-- A record published is held by its PDU and placed on its line; the rest is notices and the monitor. -/
theorem inside_publish (s : State) (l : Lane) (b : BallRecord) (kind : BallRecord → Option Mark → Notice) :
    State.inside (s.publish l b kind)
      = (State.inside (s.modPdu l fun p => { p with record := some b })).withLines (s.placeBall b) := by
  have e := placeBall_congr (s := s) (t := s.modPdu l fun p => { p with record := some b }) rfl rfl rfl rfl b
  simp only [State.publish, inside_showBall, inside_broadcast]
  rw [e]
  rfl

/-! ### What a result set does to the PDU (R29 to R34) -/

section
variable {s : State} {l : Lane}

/-- With no run need waiting there is none to drop. -/
theorem dropRunNeed_sensing (h : (s.sensing.get l).needs.run = false) : (s.dropRunNeed l).sensing = s.sensing := by
  rw [State.dropRunNeed, State.modSensing_sensing, ← h]
  exact s.sensing.set_get l

/-- What a PDU is left with when its ball becomes FINAL (R38); after a test ball it is IDLE (R44). -/
def Pdu.finalized (p : Pdu) (b : Binding) (r : BallRecord) : Pdu :=
  let q := { p.finished with record := some r }
  if b.test then { q with run := .idle, binding := none, foulOpen := false, foulFlag := false } else q

/-- A ball that becomes FINAL drops the run need of its lane, and reaches no other PDU than its own (R38). -/
theorem finalize_reach {b : Binding} (hb : (s.pdu.get l).binding = some b) (r : BallRecord) :
    (s.finalize l r).sensing = (s.dropRunNeed l).sensing
      ∧ (s.finalize l r).pdu = s.pdu.set l ((s.pdu.get l).finalized b r) := by
  let held := ((s.dropRunNeed l).modPdu l Pdu.finished).modPdu l fun p => { p with record := some r }
  let choice := chooseRecipe b r (s.pdu.get l).deck (State.boundStrike (((s.dropRunNeed l).modPdu l Pdu.finished).publishFinal l r) b)
  have handed : Spares AllLanes held ((((s.dropRunNeed l).modPdu l Pdu.finished).publishFinal l r).handRecipe l choice.1 choice.2) :=
    (((((Spares.refl held).placeBall r).broadcast _).showBall l _).highlightBall l r).handRecipe l _ _
  have heq : s.finalize l r = (if b.test then ((((s.dropRunNeed l).modPdu l Pdu.finished).publishFinal l r).handRecipe l choice.1
      choice.2).disarm l else (((s.dropRunNeed l).modPdu l Pdu.finished).publishFinal l r).handRecipe l choice.1 choice.2).advanceFor r := by
    simp only [State.finalize, hb]
    rfl
  have advanced (v : State) : Spares AllLanes v (v.advanceFor r) := (Spares.refl v).advanceFor r
  rw [heq, (advanced _).sensing_eq, (advanced _).pdu_eq]
  unfold Pdu.finalized
  split
  · simp only [State.disarm, State.modPdu_sensing, State.modPdu_pdu, handed.sensing_eq, handed.pdu_eq]
    simp [held, State.dropRunNeed]
  · rw [handed.sensing_eq, handed.pdu_eq]
    simp [held, State.dropRunNeed]

theorem publish_sensing (s : State) (l : Lane) (b : BallRecord) (kind : BallRecord → Option Mark → Notice) :
    (s.publish l b kind).sensing = s.sensing :=
  ((((Spares.refl (s.modPdu l fun p => { p with record := some b })).placeBall b).broadcast _).showBall l _).sensing_eq

theorem cycleExpires_sensing (h : (s.sensing.get l).needs.run = false) : (s.cycleExpires l).sensing = s.sensing := by
  have final (r : BallRecord) : (s.finalize l r).sensing = s.sensing := by
    cases hb : (s.pdu.get l).binding with
    | none => simp [State.finalize, hb]
    | some b => rw [(finalize_reach hb r).1, dropRunNeed_sensing h]
  unfold State.cycleExpires
  dsimp only
  split
  · split
    · exact final _
    · rfl
  · rfl

theorem settle_sensing (h : (s.sensing.get l).needs.run = false) : (s.settle l).sensing = s.sensing := by
  unfold State.settle
  dsimp only
  split
  · split
    · rw [cycleExpires_sensing (by rw [publish_sensing]; exact h), publish_sensing]
      rfl
    · rw [publish_sensing]
      rfl
  · rfl

theorem settleScan_sensing (h : (s.sensing.get l).needs.run = false) (r : ResultSet) : (s.settleScan l r).sensing = s.sensing := by
  unfold State.settleScan
  dsimp only
  split
  · exact settle_sensing (s := s.modPdu l _) h
  · rfl

/-- A result set taken by the PDU leaves every scan list, once its own run need is gone. -/
theorem pduTakes_sensing (h : (s.sensing.get l).needs.run = false) (r : ResultSet) : (s.pduTakes l r).sensing = s.sensing := by
  unfold State.pduTakes
  dsimp only
  split
  · split
    · exact settleScan_sensing (s := s.modPdu l _) h r
    · rfl
  · exact settleScan_sensing h r
  · unfold State.lateScan
    dsimp only
    split
    · split
      · rfl
      · rw [publish_sensing]
    · rfl
  all_goals rfl

/-! ### A set in SETTLING (R31 to R33) -/

/-- The PDU as a set finds it: the first set of a run starts SETTLING (R29). -/
def Pdu.counting (p : Pdu) (window : Nat) : Pdu :=
  if p.run = .delay then { p with run := .settling, windowTimer := some window } else p

/-- A set taken in SETTLING, or first in DELAY, is one scan of the settling (R29, R31). -/
theorem pduTakes_counts (h : (s.pdu.get l).run = .settling ∨ (s.pdu.get l).run = .delay ∧ (s.pdu.get l).elapsed = true) (r : ResultSet) :
    s.pduTakes l r = (s.modPdu l fun p => p.counting s.settings.settleWindow).settleScan l r := by
  rcases h with h | ⟨h, he⟩
  · simp [State.pduTakes, h, State.modPdu, Pdu.counting]
  · simp [State.pduTakes, h, he, State.modPdu, Pdu.counting]

theorem modPdu_as_const (s : State) (l : Lane) (f : Pdu → Pdu) : s.modPdu l f = s.modPdu l fun _ => f (s.pdu.get l) := rfl

theorem modPdu_const (s : State) (l : Lane) (q : Pdu) (f : Pdu → Pdu) : (s.modPdu l fun _ => q).modPdu l f = s.modPdu l fun _ => f q := by
  simp [State.modPdu]

/-- The settle counter moves, and with the target the ball settles (R31). -/
theorem settleScan_at (s : State) (l : Lane) (q : Pdu) (r : ResultSet) {n : Nat} (hn : settleNext q.settleCount q.deck.pins r = n) :
    (s.modPdu l fun _ => q).settleScan l r =
      if q.settleTarget ≤ n then (s.modPdu l fun _ => { q with settleCount := n, lastSet := some r.points }).settle l
      else s.modPdu l fun _ => { q with settleCount := n, lastSet := some r.points } := by
  subst hn
  simp only [State.settleScan, State.modPdu_pdu, PerLane.get_set, modPdu_const]

theorem publish_pdu (s : State) (l : Lane) (b : BallRecord) (kind : BallRecord → Option Mark → Notice) :
    (s.publish l b kind).pdu = s.pdu.set l { s.pdu.get l with record := some b } :=
  (congrArg State.pdu (inside_publish s l b kind) :)

/-- A record published: its PDU holds it, and it is placed on its line. -/
theorem publish_inside (s : State) (l : Lane) (b : BallRecord) (kind : BallRecord → Option Mark → Notice) :
    SameInside (s.publish l b kind) ({ s with pdu := (s.publish l b kind).pdu }.withLines (s.placeBall b)) := by
  rw [sameInside_iff_inside, publish_pdu, inside_publish]
  rfl

theorem publish_settings (s : State) (l : Lane) (b : BallRecord) (kind : BallRecord → Option Mark → Notice) :
    (s.publish l b kind).settings = s.settings := (congrArg State.settings (inside_publish s l b kind) :)

/-- The ball that settles: its record is published, and with a cycle delay of 0 it becomes FINAL at once (R33, R38). -/
theorem settle_at (s : State) (l : Lane) (q : Pdu) {b : Binding} {points : List PointClass} (hb : q.binding = some b)
    (hp : q.lastSet = some points) : (s.modPdu l fun _ => q).settle l =
      let v := (s.modPdu l fun _ => { q with run := .settled, windowTimer := none, cycleTimer := some s.settings.cycleDelay }).publish
        l (provisionalRecord l b q.upAtArming q.deck.pins q.foulFlag points) .ballProvisional
      if s.settings.cycleDelay = 0 then v.cycleExpires l else v := by
  have e := modPdu_const s l q fun p => { p with
    run := .settled, windowTimer := none, cycleTimer := some s.settings.cycleDelay }
  unfold State.settle
  simp only [State.modPdu_pdu, State.modPdu_settings, PerLane.get_set, hb, hp, e, publish_settings]

/-- The expiry of the cycle delay with the ball settled: it becomes FINAL (R38). -/
theorem cycleExpires_settled {r : BallRecord} (hr : (s.pdu.get l).record = some r) (hs : (s.pdu.get l).run = .settled)
    (ht : (s.pdu.get l).cycleTimer ≠ none) : s.cycleExpires l = s.finalize l { r with state := .final } := by
  simp [State.cycleExpires, hr, hs, Option.isSome_iff_ne_none.mpr ht]

/-- A late fall revises the ball (R34). -/
theorem lateScan_at {b : Binding} {old : BallRecord} (hb : (s.pdu.get l).binding = some b) (ho : (s.pdu.get l).record = some old)
    (r : ResultSet) : s.lateScan l r = if (lateFalls b old r.points).standing = old.standing then s
      else s.publish l (lateFalls b old r.points) .ballRevised := by
  simp [State.lateScan, hb, ho]

theorem pduTakes_late {b : Binding} {old : BallRecord} {standing : Pins} (h : (s.pdu.get l).run = .settled)
    (hb : (s.pdu.get l).binding = some b) (ho : (s.pdu.get l).record = some old) (hst : old.standing = some standing) (r : ResultSet) :
    s.pduTakes l r = if standingIn standing r.points = standing then s else s.publish l { old with
      standing := some (standingIn standing r.points)
      count := if old.foul then 0 else old.count + (pinCount standing - pinCount (standingIn standing r.points))
      split := splitFlag b old.foul (standingIn standing r.points) } .ballRevised := by
  simp [State.pduTakes, h, lateScan_at hb ho, lateFalls, hst]

/-- A set that the run does not await leaves the PDU as it is (R29). -/
theorem pduTakes_idle (h : ((s.pdu.get l).run = .delay ∧ (s.pdu.get l).elapsed = false) ∨ (s.pdu.get l).run = .idle
    ∨ (s.pdu.get l).run = .armed ∨ (s.pdu.get l).run = .awaitingEntry ∨ (s.pdu.get l).run = .final) (r : ResultSet) :
    s.pduTakes l r = s := by
  rcases h with ⟨h, he⟩ | h | h | h | h
  · simp [State.pduTakes, h, he]
  all_goals simp [State.pduTakes, h]

/-- A set quiet and decided on the pins up (R31). -/
def Quiet (up : Pins) (r : ResultSet) : Prop :=
  r.crossed = false ∧ ∀ pin : Fin 10, hasPin up pin = true → ∃ w, r.points[pin.val]? = some (some (.high, w))
    ∨ r.points[pin.val]? = some (some (.low, w))

theorem settleNext_quiet {up : Pins} {r : ResultSet} (h : Quiet up r) (n : Nat) : settleNext n up r = n + 1 := by
  simp [settleNext, h.1, (decided_iff up r.points).mpr h.2]

theorem settleNext_unquiet {up : Pins} {r : ResultSet} (h : ¬ Quiet up r) (n : Nat) : settleNext n up r = 0 := by
  have hq : ¬ (r.crossed = false ∧ decided up r.points = true) := by rwa [decided_iff]
  simp [settleNext, hq]

/-- What starting SETTLING leaves of a run. -/
theorem Pdu.counting_run (p : Pdu) (w : Nat) : (p.counting w).settleCount = p.settleCount ∧ (p.counting w).settleTarget = p.settleTarget
    ∧ (p.counting w).deck = p.deck ∧ (p.counting w).binding = p.binding ∧ (p.counting w).upAtArming = p.upAtArming
    ∧ (p.counting w).foulFlag = p.foulFlag := by
  unfold Pdu.counting
  split <;> exact ⟨rfl, rfl, rfl, rfl, rfl, rfl⟩

/-- A settling that awaits a set of its run. -/
def Pdu.settles (p : Pdu) : Prop := p.run = .settling ∨ p.run = .delay ∧ p.elapsed = true

/-- The PDU that has counted a set. -/
def Pdu.counted (p : Pdu) (window n : Nat) (r : ResultSet) : Pdu :=
  { p.counting window with settleCount := n, lastSet := some r.points }

/-- The ball that settles. -/
def Pdu.settled (p : Pdu) (window cycle n : Nat) (r : ResultSet) : Pdu :=
  { p.counted window n r with run := .settled, windowTimer := none, cycleTimer := some cycle }

/-- A set counted: the run settles on, or with the target its ball settles (R31). -/
theorem pduTakes_settleScan {r : ResultSet} {n : Nat} (h : (s.pdu.get l).settles)
    (hn : settleNext (s.pdu.get l).settleCount (s.pdu.get l).deck.pins r = n) :
    s.pduTakes l r = if (s.pdu.get l).settleTarget ≤ n then
        (s.modPdu l fun _ => (s.pdu.get l).counted s.settings.settleWindow n r).settle l
      else s.modPdu l fun _ => (s.pdu.get l).counted s.settings.settleWindow n r := by
  obtain ⟨hc, hg, hd, -⟩ := (s.pdu.get l).counting_run s.settings.settleWindow
  have hn' : settleNext ((s.pdu.get l).counting s.settings.settleWindow).settleCount
      ((s.pdu.get l).counting s.settings.settleWindow).deck.pins r = n := by rw [hc, hd, hn]
  rw [pduTakes_counts h, modPdu_as_const, settleScan_at _ _ _ _ hn']
  exact if_congr (by rw [hg]) rfl rfl

/-- The ball that settles (R33); with a cycle delay of 0 it becomes FINAL at once (R38). -/
theorem settle_counted (s : State) (l : Lane) (r : ResultSet) (n : Nat) {b : Binding} (hb : (s.pdu.get l).binding = some b) :
    let p := s.pdu.get l
    let v := (s.modPdu l fun _ => p.settled s.settings.settleWindow s.settings.cycleDelay n r).publish l
      (provisionalRecord l b p.upAtArming p.deck.pins p.foulFlag r.points) .ballProvisional
    (s.modPdu l fun _ => p.counted s.settings.settleWindow n r).settle l = if s.settings.cycleDelay = 0 then v.cycleExpires l else v := by
  obtain ⟨-, -, hd, hbind, hu, hf⟩ := (s.pdu.get l).counting_run s.settings.settleWindow
  have hrec : provisionalRecord l b ((s.pdu.get l).counted s.settings.settleWindow n r).upAtArming
      ((s.pdu.get l).counted s.settings.settleWindow n r).deck.pins ((s.pdu.get l).counted s.settings.settleWindow n r).foulFlag r.points
      = provisionalRecord l b (s.pdu.get l).upAtArming (s.pdu.get l).deck.pins (s.pdu.get l).foulFlag r.points := by
    simp only [Pdu.counted, hu, hd, hf]
  refine (settle_at s l ((s.pdu.get l).counted _ n r) (hbind.trans hb) rfl).trans ?_
  rw [hrec]
  rfl

end

/-! ### The settling of a run, with only its lane's scans changed before (R29 to R38) -/

section
variable {s : State} {l : Lane} {σ : PerLane SensingLane} {r : ResultSet} {n : Nat} {b : Binding}

/-- A ball that settles, as it is placed. -/
def State.settledBall (s : State) (l : Lane) (b : Binding) (r : ResultSet) : BallRecord :=
  provisionalRecord l b (s.pdu.get l).upAtArming (s.pdu.get l).deck.pins (s.pdu.get l).foulFlag r.points

/-- The state with the ball of a lane settled and published. -/
def State.published (s : State) (l : Lane) (b : Binding) (n : Nat) (r : ResultSet) : State :=
  (s.modPdu l fun _ => (s.pdu.get l).settled s.settings.settleWindow s.settings.cycleDelay n r).publish l (s.settledBall l b r)
    .ballProvisional

theorem published_pdu (s : State) (l : Lane) (b : Binding) (n : Nat) (r : ResultSet) :
    (s.published l b n r).pdu = s.pdu.set l
      { (s.pdu.get l).settled s.settings.settleWindow s.settings.cycleDelay n r with record := some (s.settledBall l b r) } := by
  simp [State.published, publish_pdu]

theorem published_inside (s : State) (l : Lane) (b : Binding) (n : Nat) (r : ResultSet) :
    SameInside (s.published l b n r)
      ({ s with pdu := (s.published l b n r).pdu }.withLines (s.placeBall (s.settledBall l b r))) := by
  have h := publish_inside (s.modPdu l fun _ => (s.pdu.get l).settled s.settings.settleWindow s.settings.cycleDelay n r) l
    (s.settledBall l b r) .ballProvisional
  rw [placeBall_congr (s := s) (t := s.modPdu l _) rfl rfl rfl rfl] at h
  exact h

/-- The ball that becomes FINAL as it settles (R38). -/
theorem published_expires (s : State) (l : Lane) (b : Binding) (n : Nat) (r : ResultSet) :
    (s.published l b n r).cycleExpires l
      = (s.published l b n r).finalize l { s.settledBall l b r with state := .final } :=
  cycleExpires_settled (by rw [published_pdu, PerLane.get_set]) (by rw [published_pdu, PerLane.get_set]; rfl)
    (by rw [published_pdu, PerLane.get_set]; exact nofun)

theorem published_final (hb : (s.pdu.get l).binding = some b) (n : Nat) (r : ResultSet) :
    (((s.published l b n r).cycleExpires l).pdu.get l).run = (if b.test then .idle else .final)
      ∧ (((s.published l b n r).cycleExpires l).pdu.get l).record = some { s.settledBall l b r with state := .final } := by
  have hbind : ((s.published l b n r).pdu.get l).binding = some b := by
    rw [published_pdu, PerLane.get_set]
    exact ((s.pdu.get l).counting_run _).2.2.2.1.trans hb
  rw [published_expires, (finalize_reach hbind _).2, PerLane.get_set, Pdu.finalized]
  split <;> exact ⟨rfl, rfl⟩

theorem pduTakes_settled (h : (s.pdu.get l).settles)
    (hn : settleNext (s.pdu.get l).settleCount (s.pdu.get l).deck.pins r = n) (ht : (s.pdu.get l).settleTarget ≤ n)
    (hb : (s.pdu.get l).binding = some b) :
    s.pduTakes l r = if s.settings.cycleDelay = 0 then (s.published l b n r).cycleExpires l else s.published l b n r := by
  rw [pduTakes_settleScan h hn, if_pos ht]
  exact settle_counted s l r n hb

theorem pduTakes_unsettled (h : (s.pdu.get l).settles)
    (hn : settleNext (s.pdu.get l).settleCount (s.pdu.get l).deck.pins r = n) (ht : n < (s.pdu.get l).settleTarget) :
    s.pduTakes l r = s.modPdu l fun _ => (s.pdu.get l).counted s.settings.settleWindow n r := by
  rw [pduTakes_settleScan h hn, if_neg (Nat.not_le.mpr ht)]

end

theorem exec_readout {s u : State} {n : Nat} {left right : List Nat} (h : s.readout n left right = u) :
    exec (.readout n left right) s = .next u.finish.pump := by
  subst h
  rfl

/-- Lines and totals after a ball is placed do not depend on the scans. -/
theorem withLines_placeBall (s w : State) (σ : PerLane SensingLane) (b : BallRecord) :
    w.withLines ({ s with sensing := σ }.placeBall b) = w.withLines (s.placeBall b) := by
  rw [placeBall_congr (s := s) (t := { s with sensing := σ }) rfl rfl rfl rfl]

/-- A readout for one lane with a run need alone: its set goes to the PDU (R11, R15). -/
theorem readout_runs {s : State} {l : Lane} {n : Nat} {f : Scan} {raws : List Nat} (hscan : (s.sensing.get l).scan = some f)
    (hn : f.serial = n) (hd : f.discard = false) (hlen : raws.length = f.length)
    (hg : ∀ g, (s.sensing.get (otherLane l)).scan = some g → g.serial ≠ n)
    (hneeds : (s.sensing.get l).needs = ⟨true, none, false⟩) (hpsc : (s.psc.get l).state ≠ .service) :
    s.readout n (if l = .left then raws else []) (if l = .left then [] else raws)
      = ((s.endScan l).takes l true raws ⟨false, none, false⟩).pduTakes l (s.formed l false true raws) := by
  have hbr : brought (if l = .left then raws else []) (if l = .left then [] else raws) l = raws := by cases l <;> rfl
  have hbo : brought (if l = .left then raws else []) (if l = .left then [] else raws) (otherLane l) = [] := by cases l <;> rfl
  have hserv : (s.endScan l).servable l false f.checkPresent = ⟨true, none, false⟩ := by
    rw [servable_endScan, servable_of_needs s l hneeds, decide_eq_true hpsc, ite_self]
    rfl
  rw [readout_only hscan hn (by rw [hbr, hlen]) hbo hg, hd, hbr, if_neg Bool.false_ne_true, deliver_run hserv, needs_endScan, hneeds,
    formed_endScan]

/-- Settles O42: the set goes to the PDU of a state with only the scans changed, case by case of its run. -/
theorem readoutsServeTheRun : Obligations.ReadoutsServeTheRun := by
  unfold Obligations.ReadoutsServeTheRun
  refine ⟨?serves, fun n left right s => ⟨fun h => ?_, fun f hs hn ht hlen => ?_, fun f hs hn ht hlen => ?_⟩⟩
  case serves =>
    intro n l raws f s x p hscan hn hd hlen hg hneeds hpsc read formed quiet first q
    have hread := readout_runs hscan hn hd hlen hg hneeds hpsc
    rw [endScan_takes] at hread
    set σ := s.sensing.set l { s.sensing.get l with
      slots := (readSlots true (s.sensing.get l).slots raws).map (·.1)
          ++ (s.sensing.get l).slots.drop (readSlots true (s.sensing.get l).slots raws).length
      scan := none, needs := ⟨false, none, false⟩ } with hσ
    let t : State := { s with sensing := σ }
    have hsens : (t.pduTakes l formed).sensing = σ := pduTakes_sensing (by simp [t, σ]) _
    refine ⟨t.pduTakes l formed, exec_readout hread, hsens, fun hrun => ⟨fun hq ht => ?_, fun hq ht => ?_, fun hq ht hb hc => ?_,
      fun hq ht hc b hb => ?_⟩, fun hrun b old standing hb ho hst => ?_, fun hrun => ?_⟩
    · rw [hsens, pduTakes_unsettled (s := t) hrun (settleNext_quiet hq _) ht]
      rfl
    · rw [hsens, pduTakes_unsettled (s := t) hrun (settleNext_unquiet hq _) ht]
      rfl
    · obtain ⟨b, hb⟩ := Option.ne_none_iff_exists'.mp hb
      have e := pduTakes_settled (s := t) hrun (settleNext_quiet hq _) ht hb
      rw [if_neg (Nat.pos_iff_ne_zero.mp hc)] at e
      have hin := published_inside t l b (p.settleCount + 1) formed
      rw [withLines_placeBall] at hin
      rw [hsens, e]
      exact ⟨b, hb, published_pdu .., hin⟩
    · have e := pduTakes_settled (s := t) hrun (settleNext_quiet hq _) ht hb
      rw [if_pos hc] at e
      have hin := published_inside t l b (p.settleCount + 1) formed
      have hpdu := published_pdu t l b (p.settleCount + 1) formed
      rw [withLines_placeBall] at hin
      rw [show t.settings.cycleDelay = 0 from hc] at hpdu
      obtain ⟨hfinal, hrec⟩ := published_final (s := t) hb (p.settleCount + 1) formed
      rw [hsens, e]
      exact ⟨hfinal, hrec, t.published l b (p.settleCount + 1) formed, rfl, hpdu, hin⟩
    · have e := pduTakes_late (s := t) hrun hb ho hst formed
      refine ⟨fun h => ?_, fun ⟨pin, hpin⟩ => ⟨standingIn standing formed.points, fun pin => ?_, ?_⟩⟩
      · rw [hsens, e, if_pos (standingIn_same h)]
      · rw [hasPin_standingIn]
        exact ⟨fun ⟨h, hl⟩ => ⟨h, fun hf => hl hf.2⟩, fun ⟨h, hf⟩ => ⟨h, fun hl => hf ⟨h, hl⟩⟩⟩
      · rw [if_neg (standingIn_fallen hpin)] at e
        have hin := publish_inside t l { old with
          standing := some (standingIn standing formed.points)
          count := if old.foul then 0 else old.count + (pinCount standing - pinCount (standingIn standing formed.points))
          split := splitFlag b old.foul (standingIn standing formed.points) } .ballRevised
        rw [withLines_placeBall] at hin
        rw [hsens, e]
        exact ⟨publish_pdu .., hin⟩
    · rw [hsens, pduTakes_idle (s := t) hrun]
  · exact exec_readout (readout_stray h left right)
  · exact congrArg (fun u : State => Host.Outcome.next u.finish.pump)
      ((readout_failed (l := .left) hs hn hlen).trans (hn ▸ (readoutExpires_running (l := .left) hs ht).symm))
  · exact congrArg (fun u : State => Host.Outcome.next u.finish.pump)
      ((readout_failed (l := .right) hs hn hlen).trans (hn ▸ (readoutExpires_running (l := .right) hs ht).symm))

end Sys2Proof.Machine
end

section
/-! Deck sensing (chapter 1): the timers and conditions of the camera head, and the requests of scans. -/
namespace Sys2Proof.Machine

/-! ### A request that fails (R16, R17, R30) -/

/-- A ball that waits in DELAY on a faulted lane is marked as reported stalled, but for a test ball (R30, R44). -/
def Pdu.stalls (p : Pdu) (fault : Bool) : Pdu :=
  { p with stalled := p.stalled || (p.run = .delay && p.elapsed && fault && !p.testing) }

/-- A scan that a fault ends (R17). -/
def SensingLane.faulted (x : SensingLane) : SensingLane := { x with scan := none, fault := true }

theorem inside_faultLane (s : State) (l : Lane) : State.inside (s.faultLane l) = (State.inside s).modSensing l SensingLane.faulted := by
  unfold State.faultLane
  dsimp only
  split
  · rfl
  · rw [inside_broadcast]
    rfl

theorem inside_stallCheck (s : State) (l : Lane) :
    State.inside (s.stallCheck l) = (State.inside s).modPdu l fun p => p.stalls (s.sensing.get l).fault := by
  unfold State.stallCheck
  dsimp only
  split
  · rename_i h
    have h' : (s.pdu.get l).stalls (s.sensing.get l).fault = { s.pdu.get l with stalled := true } := by
      simp only [Bool.and_eq_true, Bool.not_eq_true'] at h
      simp [Pdu.stalls, h]
    rw [inside_broadcast, modPdu_eq, modPdu_eq, inside_pdu, h']
    rfl
  · rename_i h
    have h' : (s.pdu.get l).stalls (s.sensing.get l).fault = s.pdu.get l := by
      have e : ((s.pdu.get l).stalled || ((s.pdu.get l).run = .delay && (s.pdu.get l).elapsed && (s.sensing.get l).fault
          && !(s.pdu.get l).testing)) = (s.pdu.get l).stalled := by
        revert h
        cases (s.pdu.get l).stalled <;> simp
      simp only [Pdu.stalls, e]
    rw [modPdu_eq, inside_pdu, h', PerLane.set_get]
    rfl

/-- What a failed request does on a lane whose scan has ended: its check need is answered, and a ball that waits stalls. -/
def State.failsLane (s : State) (l : Lane) : State := (s.answerFaulted l).stallCheck l

theorem answerFaulted_none {s : State} {l : Lane} (h : (s.sensing.get l).needs.check = none) : s.answerFaulted l = s := by
  simp [State.answerFaulted, h]

theorem inside_failsLane {s : State} {l : Lane} (h : (s.sensing.get l).needs.check = none) :
    State.inside (s.failsLane l) = (State.inside s).modPdu l fun p => p.stalls (s.sensing.get l).fault := by
  rw [State.failsLane, answerFaulted_none h, inside_stallCheck]

/-- The check need of a machine in CHECKING ends the cycle without a reading (R16, R60). -/
theorem behind_failsLane {s : State} {l : Lane} {e : Pins} {r : Recipe} (h : (s.sensing.get l).needs.check = some e)
    (hp : (s.psc.get l).state = .checking) (hr : (s.psc.get l).recipe = some r) :
    ∃ f : Bool, State.behind (s.failsLane l) = ((((State.behind s).modSensing l fun x => { x with
        needs := { x.needs with check := none } }).modPdu l fun p => { p with deck := r.target }).modPsc l (s.endsCycle l r)).modPdu l
          fun p => p.stalls f := by
  have ended := behind_checkAnswer_ended (s.withdrawCheck l) l [] r (.inr rfl) (by simp [State.withdrawCheck, hp]) hr
  refine ⟨(((s.withdrawCheck l).checkAnswer l .noReading []).sensing.get l).fault, ?_⟩
  have e : s.failsLane l = ((s.withdrawCheck l).checkAnswer l .noReading []).stallCheck l := by
    simp [State.failsLane, State.answerFaulted, h]
  rw [e, behind_of_inside ((inside_stallCheck ..).trans (inside_modPdu ..).symm), behind_modPdu, ended]
  rfl

/-- The scans that a failed request ends. -/
def State.faultsRequest (s : State) (n : Nat) : State :=
  let t := if s.covers n .left then s.faultLane .left else s
  if s.covers n .right then t.faultLane .right else t

theorem failRequest_eq (s : State) (n : Nat) : s.failRequest n =
    let t := if s.covers n .left then (s.faultsRequest n).failsLane .left else s.faultsRequest n
    if s.covers n .right then t.failsLane .right else t := rfl

/-- The scan list of a lane that a failed request covers or not. -/
def State.faultedUnder (s : State) (n : Nat) (l : Lane) : SensingLane :=
  if s.covers n l then (s.sensing.get l).faulted else s.sensing.get l

theorem inside_faultsRequest (s : State) (n : Nat) :
    State.inside (s.faultsRequest n) = { State.inside s with sensing := ⟨s.faultedUnder n .left, s.faultedUnder n .right⟩ } := by
  unfold State.faultsRequest State.faultedUnder
  cases s.covers n .left <;> cases s.covers n .right <;> simp [inside_faultLane] <;> rfl

theorem faultsRequest_sensing (s : State) (n : Nat) (l : Lane) : (s.faultsRequest n).sensing.get l = s.faultedUnder n l := by
  have e := congrArg (fun t => t.sensing.get l) (inside_faultsRequest s n)
  cases l <;> exact e

theorem faultedUnder_needs (s : State) (n : Nat) (l : Lane) : (s.faultedUnder n l).needs = (s.sensing.get l).needs := by
  unfold State.faultedUnder
  split <;> rfl

theorem faultedUnder_covered {s : State} {n : Nat} {l : Lane} (h : s.covers n l = true) : s.faultedUnder n l = (s.sensing.get l).faulted :=
  if_pos h

/-- A request that fails with no check need waiting (R17, R30). -/
theorem inside_failRequest {s : State} (n : Nat) (h : ∀ l, (s.sensing.get l).needs.check = none) :
    State.inside (s.failRequest n) = { State.inside s with
      sensing := ⟨s.faultedUnder n .left, s.faultedUnder n .right⟩
      pdu := ⟨if s.covers n .left then s.pdu.left.stalls true else s.pdu.left,
        if s.covers n .right then s.pdu.right.stalls true else s.pdu.right⟩ } := by
  have fails {t : State} {l : Lane} (hc : s.covers n l = true) (ht : t.sensing = (s.faultsRequest n).sensing) :
      State.inside (t.failsLane l) = (State.inside t).modPdu l fun p => p.stalls true := by
    have hs : t.sensing.get l = (s.sensing.get l).faulted := by rw [ht, faultsRequest_sensing, faultedUnder_covered hc]
    rw [inside_failsLane (by rw [hs]; exact h l), hs]
    rfl
  rw [failRequest_eq]
  cases hl : s.covers n .left <;> cases hr : s.covers n .right
  · simp [inside_faultsRequest]
  · simp [fails hr rfl, inside_faultsRequest, modPdu_eq]
    rfl
  · simp [fails hl rfl, inside_faultsRequest, modPdu_eq]
    rfl
  · have hsens : ((s.faultsRequest n).failsLane .left).sensing = (s.faultsRequest n).sensing :=
      (congrArg State.sensing (fails (t := s.faultsRequest n) hl rfl) :)
    simp [fails hr hsens, fails hl rfl, inside_faultsRequest, modPdu_eq]
    rfl

/-- The scan list of a lane whose request failed with a check need waiting. -/
def SensingLane.unread (x : SensingLane) : SensingLane := { x.faulted with needs := { x.needs with check := none } }

/-- A lane whose check need ends its cycle without a reading. -/
def State.SkippedCheck (s u : State) (l : Lane) (r : Recipe) : Prop :=
  u.sensing.get l = (s.sensing.get l).unread ∧ (u.pdu.get l).deck = r.target ∧ u.psc.get l = s.endsCycle l r (s.psc.get l)

/-- A failed request with nothing to answer on a lane changes the stalled mark of that lane's PDU alone. -/
theorem failsLane_quiet {s : State} {m : Lane} (h : (s.sensing.get m).needs.check = none) :
    (s.failsLane m).sensing = s.sensing ∧ (s.failsLane m).psc = s.psc
      ∧ (∀ l, ((s.failsLane m).pdu.get l).deck = (s.pdu.get l).deck) ∧ ∀ l r, (s.failsLane m).endsCycle l r = s.endsCycle l r := by
  have e := inside_failsLane h
  refine ⟨(congrArg State.sensing e :), (congrArg State.psc e :), fun l => ?_, fun l r => (congrArg (·.endsCycle l r) e :)⟩
  have hp : (s.failsLane m).pdu = s.pdu.set m ((s.pdu.get m).stalls (s.sensing.get m).fault) := (congrArg State.pdu e :)
  rw [hp]
  by_cases hl : l = m
  · subst hl
    rw [PerLane.get_set]
    rfl
  · rw [PerLane.get_set_of_ne _ hl]

theorem failsLane_skips {s t : State} {l : Lane} {e : Pins} {r : Recipe} (hs : t.sensing.get l = (s.sensing.get l).faulted)
    (hpsc : t.psc = s.psc) (hends : t.endsCycle l r = s.endsCycle l r) (h : (s.sensing.get l).needs.check = some e)
    (hp : (s.psc.get l).state = .checking) (hr : (s.psc.get l).recipe = some r) :
    s.SkippedCheck (t.failsLane l) l r
      ∧ (t.failsLane l).sensing.get (otherLane l) = t.sensing.get (otherLane l) := by
  obtain ⟨f, e⟩ := behind_failsLane (s := t) (by rw [hs]; exact h) (by rw [hpsc]; exact hp) (by rw [hpsc]; exact hr)
  have hsens := congrArg State.sensing e
  refine ⟨⟨(congrArg (·.get l) hsens).trans ?_, (congrArg (fun t => (t.pdu.get l).deck) e).trans ?_,
    (congrArg (fun t => t.psc.get l) e).trans ?_⟩, (congrArg (·.get (otherLane l)) hsens).trans ?_⟩
  · simp [hs]
    rfl
  · simp
    rfl
  · simp [hends, hpsc]
  · simp

/-- A request that fails with the check need of one lane waiting (R16, R60). -/
theorem failRequest_skips {s : State} {n : Nat} {l : Lane} {e : Pins} {r : Recipe} (hc : s.covers n l = true)
    (h : (s.sensing.get l).needs.check = some e) (ho : (s.sensing.get (otherLane l)).needs.check = none)
    (hp : (s.psc.get l).state = .checking) (hr : (s.psc.get l).recipe = some r) : s.SkippedCheck (s.failRequest n) l r := by
  have hin := inside_faultsRequest s n
  have hpsc : (s.faultsRequest n).psc = s.psc := (congrArg State.psc hin :)
  have hends : (s.faultsRequest n).endsCycle l r = s.endsCycle l r := (congrArg (·.endsCycle l r) hin :)
  have hs : (s.faultsRequest n).sensing.get l = (s.sensing.get l).faulted := by rw [faultsRequest_sensing, faultedUnder_covered hc]
  have hos : ((s.faultsRequest n).sensing.get (otherLane l)).needs.check = none := by rw [faultsRequest_sensing, faultedUnder_needs, ho]
  rw [failRequest_eq]
  cases l with
  | left =>
    obtain ⟨hskip, hkeep⟩ := failsLane_skips hs hpsc hends h hp hr
    rw [if_pos hc]
    dsimp only
    split
    · obtain ⟨h1, h2, h3, -⟩ := failsLane_quiet (s := (s.faultsRequest n).failsLane .left) (m := .right)
        ((congrArg (·.needs.check) hkeep).trans hos)
      exact ⟨by rw [h1]; exact hskip.1, by rw [h3]; exact hskip.2.1, by rw [h2]; exact hskip.2.2⟩
    · exact hskip
  | right =>
    rw [if_pos hc]
    split
    · obtain ⟨h1, h2, -, h4⟩ := failsLane_quiet (m := .left) hos
      exact (failsLane_skips (by rw [h1, hs]) (h2.trans hpsc) ((h4 ..).trans hends) h hp hr).1
    · exact (failsLane_skips hs hpsc hends h hp hr).1

/-! ### The timers of the head (R1, R17, R19) -/

theorem covers_iff (s : State) (n : Nat) (l : Lane) :
    s.covers n l = true ↔ ∃ g, (s.sensing.get l).scan = some g ∧ g.serial = n := by
  unfold State.covers
  cases (s.sensing.get l).scan <;> simp

/-- What a request that fails with no check need waiting does to each lane (R17, R30). -/
theorem failRequest_lane {s : State} (n : Nat) (h : ∀ l, (s.sensing.get l).needs.check = none) (l : Lane) :
    (s.failRequest n).sensing.get l = s.faultedUnder n l
      ∧ (s.failRequest n).pdu.get l = if s.covers n l then (s.pdu.get l).stalls true else s.pdu.get l := by
  have e := inside_failRequest n h
  refine ⟨(congrArg (fun t => t.sensing.get l) e).trans ?_, (congrArg (fun t => t.pdu.get l) e).trans ?_⟩ <;> cases l <;> rfl

/-- The rest of the state in such a failure. -/
theorem failRequest_rest {s : State} (n : Nat) (h : ∀ l, (s.sensing.get l).needs.check = none) :
    SameInside (s.failRequest n) { s with sensing := (s.failRequest n).sensing, pdu := (s.failRequest n).pdu } := by
  have e := inside_failRequest n h
  have hsens : (s.failRequest n).sensing = _ := (congrArg State.sensing e :)
  have hpdu : (s.failRequest n).pdu = _ := (congrArg State.pdu e :)
  rw [sameInside_iff_inside, hsens, hpdu, e]
  rfl

theorem exec_warmUpExpiry {s u : State} (h : s.warmExpires = u) : exec .warmUpExpiry s = .next u.finish.pump := by
  subst h
  rfl

theorem exec_continuousScanExpiry {s u : State} {l : Lane} (h : s.contExpires l = u) :
    exec (.continuousScanExpiry l) s = .next u.finish.pump := by
  subst h
  rfl

theorem exec_readoutTimeout {s u : State} {l : Lane} (h : s.readoutExpires l = u) :
    exec (.readoutTimeout l) s = .next u.finish.pump := by
  subst h
  rfl

/-! ### The requests of scans (R8 to R11) -/

/-- A need of the lane that the head serves (R8). -/
def State.Wants (s : State) (l : Lane) : Prop :=
  (s.sensing.get l).needs.check ≠ none ∨ (s.sensing.get l).needs.cont = true
    ∨ ((s.sensing.get l).needs.run = true ∧ (s.psc.get l).state ≠ .service)

theorem headNeed_iff (s : State) (l : Lane) : s.headNeed l = true ↔ s.Wants l := by
  simp [State.headNeed, State.Wants, Option.isSome_iff_ne_none, or_assoc]

/-- A lane with a need, no sensing fault and no scan in flight. -/
def State.Asks (s : State) (l : Lane) : Prop := s.Wants l ∧ (s.sensing.get l).fault = false ∧ (s.sensing.get l).scan = none

/-- A lane's list in flight under a request (R9, R17). -/
def State.flies (s : State) (l : Lane) (n : Nat) : SensingLane := { s.sensing.get l with
  scan := some { serial := n, length := s.effectiveLength l, checkPresent := (s.sensing.get l).needs.check.isSome
                 discard := false, timer := some 50 } }

theorem fly_eq (s : State) (l : Lane) : s.fly l = { s with sensing := s.sensing.set l (s.flies l s.scanSerial) } := rfl

/-- A lane in flight leaves the number of slots that scans read. -/
theorem effectiveLength_fly (s : State) (l m : Lane) : (s.fly l).effectiveLength m = s.effectiveLength m := by
  refine effectiveLength_congr _ (fun j => ?_) _
  by_cases h : j = l
  · subst h
    simp [fly_eq, State.flies]
  · simp [fly_eq, PerLane.get_set_of_ne _ h]

section
variable {s : State} {l : Lane}

theorem requestLane_asks (hh : s.head.state = .active) (h : s.Asks l) (hn : 0 < s.effectiveLength l) :
    s.requestLane l = (s.fly l).nextSerial := by
  obtain ⟨hw, hf, hs⟩ := h
  simp [State.requestLane, hh, (headNeed_iff s l).mpr hw, hf, hs, Nat.pos_iff_ne_zero.mp hn]

theorem requestLane_empty (hh : s.head.state = .active) (h : s.Asks l) (hn : s.effectiveLength l = 0) :
    s.requestLane l = s.deliver l false true [] := by
  obtain ⟨hw, hf, hs⟩ := h
  simp [State.requestLane, hh, (headNeed_iff s l).mpr hw, hf, hs, hn]

theorem requestLane_still (h : ¬ s.Asks l) : s.requestLane l = s := by
  have h' : ¬ (s.headNeed l = true ∧ (s.sensing.get l).fault = false ∧ (s.sensing.get l).scan = none) := by rwa [headNeed_iff]
  refine if_neg fun hc => h' ?_
  simp only [Bool.and_eq_true, Bool.not_eq_true', Option.isNone_iff_eq_none] at hc
  exact ⟨hc.1.1.2, hc.1.2, hc.2⟩

/-- One request of both lanes is made when either lane has a need, and neither is faulted or in flight (R10). -/
def State.AsksPair (s : State) : Prop :=
  (s.Wants .left ∨ s.Wants .right) ∧ ∀ l, (s.sensing.get l).fault = false ∧ (s.sensing.get l).scan = none

theorem requestPair_eq (hh : s.head.state = .active) [Decidable s.AsksPair] : s.requestPair = if s.AsksPair then
    if s.effectiveLength .left = 0 then (s.deliver .left false true []).deliver .right false true []
    else ((s.fly .left).fly .right).nextSerial
  else s := by
  have cond : (s.head.state = .active && (s.headNeed .left || s.headNeed .right) && !s.sensing.left.fault && !s.sensing.right.fault
      && s.sensing.left.scan.isNone && s.sensing.right.scan.isNone) = true ↔ s.AsksPair := by
    simp only [State.AsksPair, forall_lane .left, Bool.and_eq_true, Bool.or_eq_true, headNeed_iff, hh, decide_true, true_and,
      Bool.not_eq_true', Option.isNone_iff_eq_none]
    constructor
    · rintro ⟨⟨⟨⟨hw, hfl⟩, hfr⟩, hsl⟩, hsr⟩
      exact ⟨hw, ⟨hfl, hsl⟩, hfr, hsr⟩
    · rintro ⟨hw, ⟨hfl, hsl⟩, hfr, hsr⟩
      exact ⟨⟨⟨⟨hw, hfl⟩, hfr⟩, hsl⟩, hsr⟩
  exact if_congr cond rfl rfl

theorem requestScans_inactive (hh : s.head.state ≠ .active) : s.requestScans = s := by
  have lane (l : Lane) : s.requestLane l = s := by simp [State.requestLane, hh]
  have pair : s.requestPair = s := by simp [State.requestPair, hh]
  unfold State.requestScans
  split
  · rw [lane, lane]
  · exact pair

/-- The lanes in SPLIT mode, each asked on its own, in the order LEFT, RIGHT (R9, log 24). -/
theorem requestScans_split (hh : s.head.state = .active) (hm : s.head.mode = .split) (hn : ∀ l, 0 < s.effectiveLength l) :
    (¬ s.Asks .left → ¬ s.Asks .right → s.requestScans = s)
    ∧ (s.Asks .left → ¬ s.Asks .right → s.requestScans = { s with
        sensing := s.sensing.set .left (s.flies .left s.scanSerial), scanSerial := s.scanSerial + 1 })
    ∧ (¬ s.Asks .left → s.Asks .right → s.requestScans = { s with
        sensing := s.sensing.set .right (s.flies .right s.scanSerial), scanSerial := s.scanSerial + 1 })
    ∧ (s.Asks .left → s.Asks .right → s.requestScans = { s with
        sensing := ⟨s.flies .left s.scanSerial, s.flies .right (s.scanSerial + 1)⟩, scanSerial := s.scanSerial + 2 }) := by
  have e : s.requestScans = (s.requestLane .left).requestLane .right := by simp [State.requestScans, hm]
  have right : (s.fly .left).nextSerial.Asks .right ↔ s.Asks .right := Iff.rfl
  rw [e]
  refine ⟨fun hl hr => ?_, fun hl hr => ?_, fun hl hr => ?_, fun hl hr => ?_⟩
  · rw [requestLane_still hl, requestLane_still hr]
  · rw [requestLane_asks hh hl (hn _), requestLane_still (right.not.mpr hr)]
    rfl
  · rw [requestLane_still hl, requestLane_asks hh hr (hn _)]
    rfl
  · have hlen : (s.fly .left).nextSerial.effectiveLength .right = s.effectiveLength .right := effectiveLength_fly s .left .right
    rw [requestLane_asks hh hl (hn _), requestLane_asks (s := (s.fly .left).nextSerial) hh (right.mpr hr) (hlen.symm ▸ hn _), fly_eq,
      State.flies, hlen]
    rfl

/-- Both lanes read the same number of slots in PAIRED mode (R4). -/
theorem effectiveLength_paired (hm : s.head.mode = .paired) : s.effectiveLength .right = s.effectiveLength .left := by
  simp only [State.effectiveLength, effectiveLength, hm]
  exact Nat.min_comm ..

/-- One request of both lanes in PAIRED mode (R10). -/
theorem requestScans_paired (hh : s.head.state = .active) (hm : s.head.mode = .paired) (hn : 0 < s.effectiveLength .left) :
    (¬ s.AsksPair → s.requestScans = s)
    ∧ (s.AsksPair → s.effectiveLength .right = s.effectiveLength .left ∧ s.requestScans = { s with
        sensing := ⟨s.flies .left s.scanSerial, s.flies .right s.scanSerial⟩, scanSerial := s.scanSerial + 1 }) := by
  classical
  have e : s.requestScans = s.requestPair := by simp [State.requestScans, hm]
  rw [e, requestPair_eq hh]
  refine ⟨fun h => if_neg h, fun h => ⟨effectiveLength_paired hm, ?_⟩⟩
  rw [if_pos h, if_neg (Nat.pos_iff_ne_zero.mp hn), fly_eq (s.fly .left), State.flies, effectiveLength_fly]
  rfl

/-! ### Needs served without a scan (R11, R21) -/

/-- An injected set serves the run need of a lane in SERVICE (R21). -/
theorem serveInjection_serves {raws : List Nat} (hi : (s.sensing.get l).injection = some raws) (hp : (s.psc.get l).state = .service)
    (hm : (s.sensing.get l).runMode = .normal) (hr : (s.sensing.get l).needs.run = true) :
    s.serveInjection l = ((s.modSensing l fun x => { x with injection := none }).takes l true raws
      { (s.sensing.get l).needs with run := false }).pduTakes l (s.formed l true true raws) := by
  have hserv : (s.modSensing l fun x => { x with injection := none }).servable l true false = ⟨true, none, false⟩ := by
    simp [State.servable, hr]
  have e := deliver_run hserv raws
  simp only [State.modSensing_sensing, PerLane.get_set, State.formed] at e
  simp only [State.serveInjection, hi, State.injects, hp, hm, hr, decide_true, Bool.and_self, if_true, e, State.formed]

theorem serveInjection_still (h : (s.sensing.get l).injection = none ∨ ¬ ((s.psc.get l).state = .service
    ∧ (s.sensing.get l).runMode = .normal ∧ (s.sensing.get l).needs.run = true)) : s.serveInjection l = s := by
  unfold State.serveInjection
  dsimp only
  split
  · rename_i raws hi
    refine if_neg fun hc => h.resolve_left (by simp [hi]) ?_
    simp only [State.injects, Bool.and_eq_true, decide_eq_true_eq] at hc
    exact ⟨hc.1.1, hc.1.2, hc.2⟩
  · rfl

theorem dsuPump_active (hh : s.head.state = .active) : s.dsuPump = ((s.serveInjection .left).serveInjection .right).requestScans := by
  have e : s.headWake = s := by simp [State.headWake, hh]
  rw [State.dsuPump, e]

theorem not_asks_of_empty (h : (s.sensing.get l).needs = ⟨false, none, false⟩) : ¬ s.Asks l := by
  rintro ⟨hw, -⟩
  simp [State.Wants, h] at hw

/-- A lane without slots to read that alone has needs is served by an empty set (R11). -/
theorem requestScans_empty (hh : s.head.state = .active) (hn : s.effectiveLength l = 0)
    (hidle : ∀ j, (s.sensing.get j).fault = false ∧ (s.sensing.get j).scan = none) (hw : s.Wants l)
    (ho : (s.sensing.get (otherLane l)).needs = ⟨false, none, false⟩) : s.requestScans = s.deliver l false true [] := by
  classical
  unfold State.requestScans
  split
  · have hl : s.requestLane l = s.deliver l false true [] := requestLane_empty hh ⟨hw, hidle l⟩ hn
    cases l with
    | left =>
      rw [hl]
      refine requestLane_still (not_asks_of_empty ?_)
      rw [((Spares.refl (P := (· = .right)) s).deliver (l := .left) (by decide) _ _ _).sensing .right rfl]
      exact ho
    | right => rw [requestLane_still (l := .left) (not_asks_of_empty ho), hl]
  · rename_i hm
    have hboth : s.AsksPair := ⟨by cases l; exacts [.inl hw, .inr hw], hidle⟩
    have hlen : s.effectiveLength .left = 0 := by cases l; exacts [hn, effectiveLength_paired hm ▸ hn]
    rw [requestPair_eq hh, if_pos hboth, if_pos hlen, deliver_pair ho ⟨true, true⟩ [] []]
    cases l <;> rfl

/-- A list that takes an empty set keeps its slots. -/
theorem takes_nil (s : State) (l : Lane) (run : Bool) (left : Needs) : s.takes l run [] left =
    { s with sensing := s.sensing.set l { s.sensing.get l with needs := left } } := by
  have e : readSlots run (s.sensing.get l).slots [] = [] := by cases (s.sensing.get l).slots <;> rfl
  simp [State.takes, SensingLane.took, modSensing_eq, e]

/-- The set of a lane without slots to read: every point is UNSENSED (R11). -/
theorem formed_nil (s : State) (l : Lane) (injected run : Bool) : s.formed l injected run [] =
    { lane := l, injected := injected, readings := [], points := List.replicate 12 none, crossed := false } := by
  have e : readSlots run (s.sensing.get l).slots [] = [] := by cases (s.sensing.get l).slots <;> rfl
  rw [State.formed, e]
  rfl

theorem checkSet_unsensed (expected : Pins) : checkSet expected (List.replicate 12 none) = .mismatch := by
  cases h : checkSet expected (List.replicate 12 none) with
  | mismatch => rfl
  | noReading => exact absurd h (by unfold checkSet; dsimp only; split <;> exact nofun)
  | matched =>
    obtain ⟨w, hw⟩ := ((checkSet_matched_iff ..).mp h).1 0
    exact absurd hw nofun

end

/-! ### The head at the end of an event (R1, R3) -/

section
variable (s : State)

/-- The end of an event writes of the lines their versions and copies, and else ports and feeds alone. -/
theorem inside_flushLine (x : Exempt) (i : LineId) : ∃ v : State, State.inside (s.flushLine x i) = (State.inside s).withLines v := by
  have tellOne (p : Prop) [Decidable p] (v : State) (k : Link) (c : CopyState) (n : Notice) :
      State.inside (if p then v else v.tellHolder k c n) = State.inside v := by
    split
    · rfl
    · unfold State.tellHolder
      split <;> rfl
  unfold State.flushLine
  split
  · split
    · exact ⟨s.setLine i _, (inside_markShowing ..).trans ((tellOne ..).trans ((tellOne ..).trans (tellOne ..)))⟩
    · exact ⟨s, rfl⟩
  · exact ⟨s, rfl⟩

theorem inside_finishLines : ∃ v : State, State.inside s.finishLines = (State.inside s).withLines v := by
  have fold (is : List LineId) : ∀ t : State, ∃ v : State, State.inside (is.foldl (State.flushLine none) t) = (State.inside t).withLines v := by
    induction is with
    | nil => exact fun t => ⟨t, rfl⟩
    | cons i is ih =>
      intro t
      obtain ⟨v, hv⟩ := ih (t.flushLine none i)
      obtain ⟨w, hw⟩ := inside_flushLine t none i
      exact ⟨v, by rw [List.foldl_cons, hv, hw]⟩
  obtain ⟨v, hv⟩ := fold lineIds s
  refine ⟨{ v with dirty := 0#16 }, ?_⟩
  rw [State.finishLines, inside_feedLoads]
  exact congrArg (fun t : State => { t with dirty := 0#16 }) hv

/-- A need that waits on a lane without a sensing fault (R1, R3). -/
def State.Waits (l : Lane) : Prop := (s.sensing.get l).fault = false ∧ s.Wants l

theorem needWaits_iff : s.needWaits = true ↔ s.Waits .left ∨ s.Waits .right := by
  simp only [State.needWaits, Bool.or_eq_true, Bool.and_eq_true, headNeed_iff, Bool.not_eq_true', State.Waits]
  exact or_congr and_comm and_comm

theorem headWakes_iff : s.headWakes = true ↔
    ∃ l, (s.sessions.get l).state = .opening ∨ (s.psc.get l).state = .service ∨ s.Waits l := by
  simp only [State.headWakes, Bool.or_eq_true, decide_eq_true_eq, needWaits_iff]
  constructor
  · rintro ((((h | h) | h) | h) | h | h)
    exacts [⟨.left, .inl h⟩, ⟨.right, .inl h⟩, ⟨.left, .inr (.inl h)⟩, ⟨.right, .inr (.inl h)⟩, ⟨.left, .inr (.inr h)⟩,
      ⟨.right, .inr (.inr h)⟩]
  · rintro ⟨_ | _, h | h | h⟩
    exacts [.inl (.inl (.inl (.inl h))), .inl (.inl (.inr h)), .inr (.inl h), .inl (.inl (.inl (.inr h))), .inl (.inr h), .inr (.inr h)]

/-- Neither lane keeps the head awake (R3). -/
def State.Rests : Prop := ∀ l,
  ¬ ((s.sessions.get l).state = .opening ∨ (s.sessions.get l).state = .opened ∨ (s.sessions.get l).state = .overtime
      ∨ (s.sessions.get l).state = .closing)
    ∧ (s.psc.get l).state ≠ .service ∧ (s.sensing.get l).scan = none ∧ ¬ s.Waits l

theorem keepsAwake_iff (st : SessionState) : st.keepsAwake = true ↔ st = .opening ∨ st = .opened ∨ st = .overtime ∨ st = .closing := by
  cases st <;> simp [SessionState.keepsAwake]

theorem headIdles_iff : s.headIdles = true ↔ s.Rests := by
  have waits : s.needWaits = false ↔ ¬ s.Waits .left ∧ ¬ s.Waits .right := by
    rw [← not_or, ← needWaits_iff, Bool.not_eq_true]
  simp only [State.headIdles, State.Rests, forall_lane .left, Bool.and_eq_true, Bool.not_eq_true', ← Bool.not_eq_true, keepsAwake_iff,
    decide_eq_true_eq, Option.isNone_iff_eq_none]
  rw [Bool.not_eq_true, waits]
  constructor
  · rintro ⟨⟨⟨⟨⟨⟨ha, hb⟩, hp⟩, hq⟩, hx⟩, hy⟩, hw, hv⟩
    exact ⟨⟨ha, hp, hx, hw⟩, hb, hq, hy, hv⟩
  · rintro ⟨⟨ha, hp, hx, hw⟩, hb, hq, hy, hv⟩
    exact ⟨⟨⟨⟨⟨⟨ha, hb⟩, hp⟩, hq⟩, hx⟩, hy⟩, hw, hv⟩

theorem headStandby_inside : State.inside s.headStandby = { State.inside s with
    head := if s.head.state = .active && s.headIdles then { s.head with state := .standby, warmTimer := none } else s.head } := by
  unfold State.headStandby
  split
  · rw [inside_setHead]
    rfl
  · rfl

/-- What follows the judgement of the standby condition leaves the head, and what the condition reads. -/
theorem finishLines_rests : (s.headStandby.bannersEval.finishLines).headIdles = s.headIdles
    ∧ (s.headStandby.bannersEval.finishLines).head = s.headStandby.head := by
  obtain ⟨w, hw⟩ := inside_finishLines s.headStandby.bannersEval
  rw [inside_bannersEval] at hw
  have hidles : (s.headStandby.bannersEval.finishLines).headIdles = s.headStandby.headIdles := (congrArg State.headIdles hw :)
  exact ⟨hidles.trans (congrArg State.headIdles (headStandby_inside s) :), (congrArg State.head hw :)⟩

/-- The head after the end of an event: where it wakes, and back in STANDBY when it is ACTIVE and its condition holds (R1, R3). -/
theorem finish_head : s.finish.head =
    if s.headWake.head.state = .active && s.finish.headIdles then { s.headWake.head with state := .standby, warmTimer := none }
    else s.headWake.head := by
  obtain ⟨v, hv, e⟩ : ∃ v : State, v.head = s.headWake.head ∧ s.finish = v.headStandby.bannersEval.finishLines :=
    ⟨_, (Spares.refl s.headWake).finish_between.head, rfl⟩
  obtain ⟨hidles, hhead⟩ := finishLines_rests v
  have hstand : v.headStandby.head = _ := (congrArg State.head (headStandby_inside v) :)
  rw [e, hidles, hhead, hstand, hv]

theorem headWake_still (h : s.head.state ≠ .standby ∨ s.headWakes = false) : s.headWake = s := by
  unfold State.headWake
  rcases h with h | h <;> simp [h]

/-- A head that wakes is WARMING, or ACTIVE for a warm-up of 0 (R1). -/
theorem headWake_head (hs : s.head.state = .standby) (hw : s.headWakes = true) : s.headWake.head =
    if s.settings.warmUp = 0 then { s.head with state := .active, warmTimer := none }
      else { s.head with state := .warming, warmTimer := some s.settings.warmUp } := by
  have e : s.headWake = s.warmHead := by simp [State.headWake, hs, hw]
  rw [e]
  exact (congrArg State.head (inside_warmHead s) :)

end

/-- Settles O40: the timers, the requests, the needs that no scan serves, and the head at the end of an event. -/
theorem headTimers : Obligations.HeadTimers := by
  unfold Obligations.HeadTimers
  refine ⟨fun s => ?timers, fun s => ⟨requestScans_inactive, requestScans_split, requestScans_paired, fun l => ⟨?injected, ?still⟩,
    dsuPump_active⟩, fun s l => ⟨?skips, fun hh hn hidle ho => ⟨fun hneeds hp => ?run, fun expected hneeds => ?check⟩⟩, fun s => ?head⟩
  case timers =>
    refine ⟨fun hw ht => ⟨s.setHead .active, exec_warmUpExpiry ?_, ?_⟩, fun ht => exec_warmUpExpiry ?_,
      fun l => ⟨fun ht => ⟨_, exec_continuousScanExpiry rfl, ?_⟩, fun ht => exec_continuousScanExpiry ?_,
        fun hs => exec_readoutTimeout ?_, fun f hf ht hn =>
          ⟨_, exec_readoutTimeout (readoutExpires_running hf ht), fun j => ?_, failRequest_rest _ hn⟩⟩⟩
    · simp [State.warmExpires, hw, Option.isSome_iff_ne_none.mpr ht]
    · rw [sameInside_iff_inside, inside_setHead]
      rfl
    · simp [State.warmExpires, ht]
    · simp [State.contExpires, Option.isSome_iff_ne_none.mpr ht, modSensing_eq]
    · simp [State.contExpires, ht]
    · simp [State.readoutExpires, hs]
    · obtain ⟨hsens, hpdu⟩ := failRequest_lane f.serial hn j
      refine ⟨fun h => ?_, fun h => ?_⟩
      · have hc := (covers_iff s f.serial j).mpr h
        exact ⟨hsens.trans (faultedUnder_covered hc), hpdu.trans ((if_pos hc).trans (by simp [Pdu.stalls]))⟩
      · have hc := mt (covers_iff s f.serial j).mp h
        exact ⟨hsens.trans (if_neg hc), hpdu.trans (if_neg hc)⟩
  case injected =>
    rintro raws hi ⟨hp, hm, hr⟩
    rw [serveInjection_serves hi hp hm hr]
    simp only [State.takes, SensingLane.took, modSensing_eq, PerLane.get_set, PerLane.set_set]
    rfl
  case still => exact serveInjection_still
  case skips =>
    intro f expected r hf ht hc ho hp hr hfree
    obtain ⟨hsens, hdeck, hpsc⟩ := failRequest_skips ((covers_iff s f.serial l).mpr ⟨f, hf, rfl⟩) hc ho hp hr
    exact ⟨_, exec_readoutTimeout (readoutExpires_running hf ht), hsens, hdeck, hpsc.trans (endsCycle_free s l hfree)⟩
  case run =>
    have hserv : s.servable l false true = ⟨true, none, false⟩ := by
      rw [servable_of_needs s l hneeds, decide_eq_true hp]
      rfl
    rw [requestScans_empty hh hn hidle (.inr (.inr ⟨congrArg Needs.run hneeds, hp⟩)) ho, deliver_run hserv, takes_nil, formed_nil, hneeds]
  case check =>
    have hserv : s.servable l false true = ⟨false, some expected, false⟩ := by
      rw [servable_of_needs s l hneeds]
      rfl
    rw [requestScans_empty hh hn hidle (.inl (by simp [hneeds])) ho, deliver_check hserv, takes_nil, formed_nil, hneeds]
    simp only [checkSet_unsensed]
  case head =>
    intro waits rests wakes h t
    have ht : t.head = if s.headWake.head.state = .active && t.headIdles then { s.headWake.head with state := .standby, warmTimer := none }
      else s.headWake.head := finish_head s
    have hrests : t.headIdles = true ↔ rests t := headIdles_iff t
    have hwakes : s.headWakes = true ↔ wakes := headWakes_iff s
    have sleeps (hn : h.state ≠ .active) (hw : s.headWake = s) : t.head = h := by
      rw [ht, hw, if_neg (by simp [show s.head.state ≠ .active from hn])]
    refine ⟨hwakes, headIdles_iff s, fun hs => sleeps ?_ ?_, fun hs hw => sleeps ?_ ?_, fun hs hw hup => ?_, fun hs => ?_⟩
    · rcases hs with hs | hs <;> simp [hs]
    · exact headWake_still s (.inl (by rcases hs with hs | hs <;> simp [show s.head.state = _ from hs]))
    · simp [hs]
    · exact headWake_still s (.inr (by rwa [← Bool.not_eq_true, hwakes]))
    · rw [ht, headWake_head s hs (hwakes.mpr hw), if_neg (Nat.pos_iff_ne_zero.mp hup)]
      rfl
    · have hwoken : s.headWake.head.state = .active ∧ s.headWake.head.mode = h.mode
          ∧ { s.headWake.head with state := .standby, warmTimer := none } = { h with state := .standby, warmTimer := none } := by
        rcases hs with hs | ⟨hs, hw, hup⟩
        · rw [headWake_still s (.inl (by simp [show s.head.state = _ from hs]))]
          exact ⟨hs, rfl, rfl⟩
        · rw [headWake_head s hs (hwakes.mpr hw), if_pos hup]
          exact ⟨rfl, rfl, rfl⟩
      obtain ⟨hact, hmode, hrest⟩ := hwoken
      refine ⟨fun hr => ?_, fun hr => ?_⟩
      · rw [ht, if_pos (by simp [hact, hrests.mpr hr]), hrest]
      · rw [ht, if_neg (by simp [hrests, hr])]
        exact ⟨hact, hmode⟩

end Sys2Proof.Machine
end

section
/-! Pinfall decisions (chapter 2): the recipe table, and connected pin sets. -/
namespace Sys2Proof.Machine

/-! ### The recipe table (R38, R43) -/

/-- The pins of a deck are all down, or the ball is a foul: a new rack is due where the table asks (R38). -/
def BallRecord.clears (r : BallRecord) (d : Deck) : Prop := (r.count = d.count ∧ r.foul = false) ∨ r.foul = true

/-- Where the table asks what stands: FULL for a ball that clears the deck, PICK for another (R38). -/
def PicksWhatStands (r : BallRecord) (d : Deck) (choice : RecipeKind × Deck) : Prop :=
  (r.clears d → choice = (.full, .known allPins))
    ∧ (¬ r.clears d → (∀ st, r.standing = some st → choice = (.pick, .known st))
      ∧ (r.standing = none → choice = (.pick, .unknown (d.count - r.count))))

/-- The ball's row of the table asks what stands: ball 1, ball 2 of frame 10 after a strike, and a test ball (R38). -/
def Binding.asksStanding (b : Binding) (strike : Bool) : Prop :=
  b.frame = none ∨ ∃ f, b.frame = some f ∧ (b.ball = some 1 ∨ b.ball = some 2 ∧ f = 10 ∧ strike = true)

theorem chooseRecipe_of_asks {b : Binding} {strike : Bool} (h : b.asksStanding strike) (r : BallRecord) (d : Deck) :
    PicksWhatStands r d (chooseRecipe b r d strike) := by
  have hclears : r.clears d ↔ (decide (r.count = d.count) && !r.foul || r.foul) = true := by simp [BallRecord.clears]
  unfold PicksWhatStands
  rw [hclears, chooseRecipe]
  generalize (decide (r.count = d.count) && !r.foul || r.foul) = down
  rcases h with hf | ⟨f, hf, hb | ⟨hb, rfl, rfl⟩⟩ <;> cases down <;> simp +contextual [*, fullDeck]

/-- Elsewhere the recipe is FULL, whatever stands (R38). -/
theorem chooseRecipe_full {b : Binding} {strike : Bool} {f n : Nat} (hf : b.frame = some f) (hb : b.ball = some n) (h1 : n ≠ 1)
    (h2 : n = 2 → f = 10 → strike = false) (r : BallRecord) (d : Deck) : chooseRecipe b r d strike = (.full, .known allPins) := by
  by_cases h : f = 10 ∧ n = 2
  · simp [chooseRecipe, hf, hb, h, h2 h.2 h.1, fullDeck]
  · simp [chooseRecipe, hf, hb, h, h1, fullDeck]

/-- Settles O46: row by row of the table, by whether the row asks what stands. -/
theorem recipeTable : Obligations.RecipeTable := by
  unfold Obligations.RecipeTable
  intro b r d strike allDown full pick
  have asks (h : b.asksStanding strike) : PicksWhatStands r d (chooseRecipe b r d strike) := chooseRecipe_of_asks h r d
  refine ⟨fun f hf h1 h10 => ⟨fun hb => asks (.inr ⟨f, hf, .inl hb⟩), fun hb h => ?_,
    fun hb h hs => asks (.inr ⟨f, hf, .inr ⟨hb, h, hs⟩⟩), fun hb => ?_⟩, fun hf => asks (.inl hf)⟩
  · exact chooseRecipe_full hf hb (by decide) (fun _ e => h.resolve_left (by omega)) r d
  · exact chooseRecipe_full hf hb (by decide) (by simp) r d

end Sys2Proof.Machine
end

section
/-! Pinfall decisions (chapter 2): connected pin sets. -/
namespace Sys2Proof.Machine

/-! ### Connected pin sets (R36) -/

theorem adjacent_symm : ∀ p q : Fin 10, hasPin (adjacent p) q = hasPin (adjacent q) p := by decide

theorem hasPin_pinSet_single : ∀ p q : Fin 10, hasPin (pinSet [p.val + 1]) q = decide (p = q) := by decide

theorem hasPin_or (a b : Pins) (p : Fin 10) : hasPin (a ||| b) p = (hasPin a p || hasPin b p) := BitVec.getLsbD_or

theorem hasPin_and (a b : Pins) (p : Fin 10) : hasPin (a &&& b) p = (hasPin a p && hasPin b p) := BitVec.getLsbD_and

theorem hasPin_empty (p : Fin 10) : hasPin 0#10 p = false := BitVec.getLsbD_zero

theorem hasPin_foldl_adjacent (r : Pins) (l : List (Fin 10)) (a : Pins) (q : Fin 10) :
    hasPin (l.foldl (fun acc p => if hasPin r p then acc ||| adjacent p else acc) a) q = true ↔
      hasPin a q = true ∨ ∃ p ∈ l, hasPin r p = true ∧ hasPin (adjacent p) q = true := by
  induction l generalizing a with
  | nil => simp
  | cons p l ih =>
    rw [List.foldl_cons, ih]
    cases hp : hasPin r p <;> simp [hp, hasPin_or, or_assoc]

/-- The growth adds the pins of the set that stand next to a pin reached. -/
theorem hasPin_grow (s r : Pins) (q : Fin 10) : hasPin (grow s r) q = true ↔
    hasPin s q = true ∧ (hasPin r q = true ∨ ∃ p, hasPin r p = true ∧ hasPin (adjacent p) q = true) := by
  simp only [grow, hasPin_and, hasPin_or, Bool.and_eq_true, Bool.or_eq_true, hasPin_foldl_adjacent, hasPin_empty, mem_pinList,
    true_and, Bool.false_eq_true, false_or]

theorem reach_eq_iterate (s : Pins) (n : Nat) (r : Pins) : reach s n r = (grow s)^[n] r := by
  induction n generalizing r with
  | zero => rfl
  | succ n ih => exact ih (grow s r)

theorem reach_succ (s : Pins) (n : Nat) (r : Pins) : reach s (n + 1) r = grow s (reach s n r) := by
  simp only [reach_eq_iterate, Function.iterate_succ_apply']

/-- The pins of a set. -/
def pinFinset (s : Pins) : Finset (Fin 10) := Finset.univ.filter fun p => hasPin s p = true

theorem mem_pinFinset {s : Pins} {p : Fin 10} : p ∈ pinFinset s ↔ hasPin s p = true := by simp [pinFinset]

theorem pinFinset_inj {s r : Pins} (h : pinFinset s = pinFinset r) : s = r :=
  pins_ext fun p => by rw [Bool.eq_iff_iff, ← mem_pinFinset, ← mem_pinFinset, h]

section
variable {s r : Pins}

/-- Chains stay in the set. -/
theorem reach_subset (h : pinFinset r ⊆ pinFinset s) (n : Nat) : pinFinset (reach s n r) ⊆ pinFinset s := by
  cases n with
  | zero => exact h
  | succ n =>
    intro q hq
    rw [reach_succ, mem_pinFinset, hasPin_grow] at hq
    exact mem_pinFinset.mpr hq.1

theorem subset_grow (h : pinFinset r ⊆ pinFinset s) : pinFinset r ⊆ pinFinset (grow s r) := fun q hq =>
  mem_pinFinset.mpr ((hasPin_grow s r q).mpr ⟨mem_pinFinset.mp (h hq), .inl (mem_pinFinset.mp hq)⟩)

/-- While a growth adds pins, each step adds one at least. -/
theorem reach_grows (h : pinFinset r ⊆ pinFinset s) (n : Nat) :
    grow s (reach s n r) = reach s n r ∨ (pinFinset r).card + n ≤ (pinFinset (reach s n r)).card := by
  induction n with
  | zero => exact .inr le_rfl
  | succ n ih =>
    rw [reach_succ]
    by_cases he : grow s (reach s n r) = reach s n r
    · exact .inl (by rw [he, he])
    · have hlt : (pinFinset (reach s n r)).card < (pinFinset (grow s (reach s n r))).card :=
        Finset.card_lt_card ((subset_grow (reach_subset h n)).ssubset_of_ne fun e => he (pinFinset_inj e).symm)
      have := ih.resolve_left he
      exact .inr (by omega)

/-- Nine steps from a pin reach all that chains reach, as a set has ten pins at most. -/
theorem reach_nine_closed (h : pinFinset r ⊆ pinFinset s) (hr : (pinFinset r).Nonempty) : grow s (reach s 9 r) = reach s 9 r := by
  refine (reach_grows h 9).elim id fun hc => ?_
  have hpos := hr.card_pos
  have hall : pinFinset (reach s 9 r) = Finset.univ := (Finset.card_eq_iff_eq_univ _).mp
    (le_antisymm (Finset.card_le_univ _) (by simp only [Fintype.card_fin]; omega))
  exact pinFinset_inj (Finset.Subset.antisymm (hall ▸ Finset.subset_univ _) (subset_grow (reach_subset h 9)))

end

/-- Two adjacent pins of a set. -/
def Touching (s : Pins) (a b : Fin 10) : Prop := hasPin s a = true ∧ hasPin s b = true ∧ hasPin (adjacent a) b = true

theorem touching_symm {s : Pins} {a b : Fin 10} (h : Touching s a b) : Touching s b a := ⟨h.2.1, h.1, (adjacent_symm b a).trans h.2.2⟩

theorem chain_symm {s : Pins} {a b : Fin 10} (h : Relation.ReflTransGen (Touching s) a b) : Relation.ReflTransGen (Touching s) b a :=
  have : Std.Symm (Touching s) := ⟨fun _ _ => touching_symm⟩
  Std.Symm.symm _ _ h

/-- Each pin that `n` steps of growth reach, a chain reaches. -/
theorem chain_of_reach {s : Pins} {p : Fin 10} (hp : hasPin s p = true) (n : Nat) {q : Fin 10}
    (h : hasPin (reach s n (pinSet [p.val + 1])) q = true) : hasPin s q = true ∧ Relation.ReflTransGen (Touching s) p q := by
  induction n generalizing q with
  | zero =>
    obtain rfl : p = q := by simpa [reach, hasPin_pinSet_single] using h
    exact ⟨hp, .refl⟩
  | succ n ih =>
    rw [reach_succ, hasPin_grow] at h
    obtain ⟨hq, hr | ⟨o, ho, ha⟩⟩ := h
    · exact ih hr
    · obtain ⟨hos, chain⟩ := ih ho
      exact ⟨hq, chain.tail ⟨hos, hq, ha⟩⟩

/-- The nine steps of growth reach just what chains of the set reach (R36). -/
theorem hasPin_reach_nine {s : Pins} {p q : Fin 10} (hp : hasPin s p = true) :
    hasPin (reach s 9 (pinSet [p.val + 1])) q = true ↔ Relation.ReflTransGen (Touching s) p q := by
  have hself : hasPin (pinSet [p.val + 1]) p = true := by simp [hasPin_pinSet_single]
  have hsub : pinFinset (pinSet [p.val + 1]) ⊆ pinFinset s := fun o ho => by
    obtain rfl : p = o := by simpa [mem_pinFinset, hasPin_pinSet_single] using ho
    exact mem_pinFinset.mpr hp
  have hclosed := reach_nine_closed hsub ⟨p, mem_pinFinset.mpr hself⟩
  refine ⟨fun h => (chain_of_reach hp 9 h).2, fun chain => ?_⟩
  induction chain with
  | refl =>
    have start (n : Nat) : hasPin (reach s n (pinSet [p.val + 1])) p = true := by
      induction n with
      | zero => exact hself
      | succ n ih => exact reach_succ .. ▸ (hasPin_grow ..).mpr ⟨hp, .inl ih⟩
    exact start 9
  | tail _ step ih =>
    rw [← hclosed, hasPin_grow]
    exact ⟨step.2.1, .inr ⟨_, ih, step.2.2⟩⟩

/-- Connected: chains of the set reach each pin from every other (R36). -/
theorem connected_iff (s : Pins) : connected s = true ↔
    ∀ p q : Fin 10, hasPin s p = true → hasPin s q = true → Relation.ReflTransGen (Touching s) p q := by
  unfold connected
  split
  · rename_i h
    have none (p : Fin 10) : hasPin s p ≠ true := List.find?_eq_none.mp h p (mem_pinList p)
    exact iff_of_true rfl fun p _ hp => absurd hp (none p)
  · rename_i o h
    have ho : hasPin s o = true := List.find?_some h
    rw [decide_eq_true_eq]
    constructor
    · intro hall p q hp hq
      rw [← hall] at hp hq
      exact (chain_symm ((hasPin_reach_nine ho).mp hp)).trans ((hasPin_reach_nine ho).mp hq)
    · refine fun hall => pins_ext fun q => Bool.eq_iff_iff.mpr ⟨fun hq => (chain_of_reach ho 9 hq).1, fun hq => ?_⟩
      exact (hasPin_reach_nine ho).mpr (hall o q ho hq)

/-- Settles O31: the table by its entries, and connectedness by the closure of the growth from one pin. -/
theorem connectedPinSets : Obligations.ConnectedPinSets := by
  unfold Obligations.ConnectedPinSets
  exact ⟨by decide, connected_iff⟩

end Sys2Proof.Machine
end

section
/-! Pinfall decisions (chapter 2): arrivals, foul breaks and the foul grace. -/
namespace Sys2Proof.Machine

/-! ### Arrivals (R28, R40) -/

section
variable {s : State} {l : Lane}

/-- A machine that leaves READY for IN_PLAY: no timer runs (R28, R48). -/
def Pinsetter.inPlay (m : Pinsetter) : Pinsetter :=
  { m with state := .inPlay, cause := none, startTimer := none, stepTimer := none }

/-- The machine of an ARMED lane enters IN_PLAY; besides, the pause condition is evaluated (R28, R148). -/
theorem behind_setInPlay (h : (s.psc.get l).state = .ready) :
    State.behind (s.setMachine l .inPlay) = (State.behind s).modPsc l Pinsetter.inPlay := by
  rw [behind_setMachine _ _ _ _ _ (by simp [h])]
  rfl

/-- The run of a PDU that enters DELAY, with the pin action delay running (R28, R44). -/
def Pdu.delays (p : Pdu) (delay : Nat) : Pdu := { p with run := .delay, pinTimer := some delay, lastSet := none }

/-- The pin action delay is over: the first run need is due (R29), and a ball that waits on a faulted lane stalls (R30). -/
def Pdu.delayOver (p : Pdu) (t : Settings) (fault : Bool) : Pdu :=
  { p with
    pinTimer := none, elapsed := true, scanTimer := some t.scanInterval, settleTarget := t.settleCount
    stalled := p.stalled || (fault && !p.testing) }

/-- A lane's scan list at the start of a run: sides and wobbling marks are cleared, and the run need is raised (R14, R29). -/
def SensingLane.runStarts (x : SensingLane) : SensingLane :=
  { x with
    slots := x.slots.map fun k => { k with obs := { k.obs with side := none, wobbling := false } }
    needs := { x.needs with run := true } }

theorem inside_delayOver (h : (s.pdu.get l).run = .delay) : State.inside (s.delayOver l) =
    ((State.inside s).modSensing l SensingLane.runStarts).modPdu l fun p => p.delayOver s.settings (s.sensing.get l).fault := by
  rw [State.delayOver, inside_stallCheck]
  simp [State.raiseRunNeed, State.startRun, modPdu_eq, modSensing_eq, Pdu.stalls, Pdu.delayOver, Pdu.testing, h,
    SensingLane.runStarts, SlotObservation.startRun, State.inside]

theorem delayExpires_running (hp : (s.pdu.get l).pinTimer ≠ none) (h : (s.pdu.get l).run = .delay) :
    s.delayExpires l = s.delayOver l := by
  simp [State.delayExpires, Option.isSome_iff_ne_none.mpr hp, h]

theorem enterDelay_running (h : 0 < s.settings.pinActionDelay) :
    s.enterDelay l = s.modPdu l fun p => p.delays s.settings.pinActionDelay := by
  simp [State.enterDelay, Nat.pos_iff_ne_zero.mp h, Pdu.delays]

/-- A pin action delay of 0 is over at once (R28). -/
theorem enterDelay_zero (h : s.settings.pinActionDelay = 0) :
    s.enterDelay l = (s.modPdu l fun p => p.delays 0).delayOver l := by
  simp [State.enterDelay, h, Pdu.delays]

theorem arrive_dead (h : (s.pdu.get l).run ≠ .armed) :
    s.arrive l = s.broadcast (.deadBall (s.laneNumber l) (s.pdu.get l).run ((s.pdu.get l).binding.bind (·.line))) := by
  simp [State.arrive, h]

/-- An arrival that no run senses: the lane waits for an entry (R28). -/
theorem arrive_entry (h : (s.pdu.get l).run = .armed) (hm : (s.pdu.get l).source = .manual ∨ (s.pdu.get l).deck.set? = none) :
    s.arrive l = (s.setMachine l .inPlay).modPdu l fun p => { p with run := .awaitingEntry, foulOpen := false } := by
  unfold State.arrive
  simp only [h, if_true]
  split
  · rename_i hs hd
    simp [hs, hd, Deck.set?] at hm
  · rfl

/-- An arrival under AUTO with a known deck: the foul grace and the pin action delay start (R28, R35). -/
theorem arrive_sensed (h : (s.pdu.get l).run = .armed) (hs : (s.pdu.get l).source = .auto) (hd : (s.pdu.get l).deck.set? ≠ none) :
    s.arrive l = ((s.setMachine l .inPlay).modPdu l fun p => p.startGrace s.settings.foulGrace).enterDelay l := by
  unfold State.arrive
  simp only [h, if_true]
  split
  · rfl
  · rename_i hn
    cases hk : (s.pdu.get l).deck with
    | known pins => exact absurd hk (hn pins hs)
    | unknown n => simp [hk, Deck.set?] at hd

theorem Pdu.startGrace_eq (p : Pdu) (grace : Nat) : p.startGrace grace =
    { p with foulOpen := p.foulOpen && decide (0 < grace), graceTimer := if grace = 0 then none else some grace } := by
  unfold Pdu.startGrace
  split <;> simp [*, Nat.pos_iff_ne_zero]

/-- The state of an arrival but for what its run does: the machine is IN_PLAY, and the PDU changes. -/
theorem arrived_of_behind {u : State} {f : Pdu → Pdu}
    (h : State.behind u = ((State.behind s).modPsc l Pinsetter.inPlay).modPdu l f) :
    (u.psc = s.psc.set l (s.psc.get l).inPlay ∧ u.pdu = s.pdu.set l (f (s.pdu.get l)))
      ∧ SameInside u { s with psc := u.psc, pdu := u.pdu, sessions := u.sessions } := by
  have hpsc : u.psc = _ := (congrArg State.psc h :)
  have hpdu : u.pdu = _ := (congrArg State.pdu h :)
  refine ⟨⟨hpsc, hpdu⟩, (sameInside_iff_behind u { s with psc := u.psc, pdu := u.pdu }).mpr ?_⟩
  rw [h, hpsc, hpdu]
  rfl

/-- The PDU of a lane on which a sensed ball arrives, before the pin action delay starts (R28, R35). -/
theorem behind_sensed (h : (s.psc.get l).state = .ready) (g : Pdu → Pdu) :
    State.behind (((s.setMachine l .inPlay).modPdu l fun p => p.startGrace s.settings.foulGrace).modPdu l g)
      = ((State.behind s).modPsc l Pinsetter.inPlay).modPdu l fun p => g (p.startGrace s.settings.foulGrace) := by
  rw [behind_modPdu, behind_modPdu, behind_setInPlay h]
  simp [modPdu_eq]

theorem setInPlay_settings (h : (s.psc.get l).state = .ready) : (s.setMachine l .inPlay).settings = s.settings :=
  (congrArg State.settings (behind_setInPlay h) :)

theorem setInPlay_sensing (h : (s.psc.get l).state = .ready) : (s.setMachine l .inPlay).sensing = s.sensing :=
  (congrArg State.sensing (behind_setInPlay h) :)

/-- With a pin action delay of 0 the run need is due at once (R28, R29). -/
theorem behind_sensed_zero (h : (s.psc.get l).state = .ready) :
    State.behind ((((s.setMachine l .inPlay).modPdu l fun p => p.startGrace s.settings.foulGrace).modPdu l fun p =>
        p.delays 0).delayOver l) =
      (((State.behind s).modPsc l Pinsetter.inPlay).modSensing l SensingLane.runStarts).modPdu l fun p =>
        ((p.startGrace s.settings.foulGrace).delays 0).delayOver s.settings (s.sensing.get l).fault := by
  rw [behind_of_inside ((inside_delayOver (by simp [Pdu.delays])).trans (by rw [← inside_modSensing, ← inside_modPdu]))]
  rw [behind_modPdu, behind_modSensing, behind_sensed h]
  simp [setInPlay_settings h, setInPlay_sensing h, modPdu_eq, modSensing_eq]

theorem exec_arrival (h : (s.pdu.get l).run = .armed) {u : State} (hu : s.arrive l = u) :
    exec (.arrival l) s = .next u.finish.pump := by
  subst hu
  exact congrArg (fun t : State => Host.Outcome.next t.pump) (if_pos h)

/-! ### Foul breaks (R35) -/

/-- Nothing of a line is due when no line changed in the event (R125, log 7). -/
theorem flushLines_clean (h : s.dirty = 0#16) (x : Exempt) : s.flushLines x = s := by
  have still (i : LineId) : s.flushLine x i = s := by simp [State.flushLine, h]
  have fold (is : List LineId) : is.foldl (State.flushLine x) s = s := by
    induction is with
    | nil => rfl
    | cons i is ih => rw [List.foldl_cons, still, ih]
  rw [State.flushLines, fold, ← h]

theorem foulBroken_closed (h : (s.pdu.get l).foulOpen = false ∨ (s.pdu.get l).foulFlag = true) : s.foulBroken l = s := by
  rcases h with h | h <;> simp [State.foulBroken, h]

/-- A break in an open window sets the flag (R35). -/
theorem foulBroken_flags (ho : (s.pdu.get l).foulOpen = true) (hf : (s.pdu.get l).foulFlag = false)
    (h : (s.pdu.get l).run ≠ .settled) : s.foulBroken l = s.modPdu l fun p => { p with foulFlag := true } := by
  unfold State.foulBroken
  simp only [ho, hf, Bool.not_false, Bool.and_self, if_true]
  split
  · exact absurd ‹_› h
  · rfl

/-- In SETTLED the record is revised to a foul of count 0 (R35). -/
theorem foulBroken_revises (ho : (s.pdu.get l).foulOpen = true) (hf : (s.pdu.get l).foulFlag = false)
    (h : (s.pdu.get l).run = .settled) {r : BallRecord} (hr : (s.pdu.get l).record = some r) :
    s.foulBroken l = (s.modPdu l fun p => { p with foulFlag := true }).publish l
      { r with foul := true, count := 0, split := false } .ballRevised := by
  simp [State.foulBroken, ho, hf, h, hr]

/-- A record published by a PDU that has changed: the PDU holds it, and it is placed on its line. -/
theorem publish_modPdu (s : State) (l : Lane) (f : Pdu → Pdu) (b : BallRecord) (kind : BallRecord → Option Mark → Notice) :
    ((s.modPdu l f).publish l b kind).pdu = s.pdu.set l { f (s.pdu.get l) with record := some b }
      ∧ SameInside ((s.modPdu l f).publish l b kind)
          ({ s with pdu := ((s.modPdu l f).publish l b kind).pdu }.withLines (s.placeBall b)) := by
  have hin := publish_inside (s.modPdu l f) l b kind
  rw [placeBall_congr (s := s) (t := s.modPdu l f) rfl rfl rfl rfl] at hin
  exact ⟨by simp [publish_pdu], hin⟩

end

/-- Settles O44: an arrival by the run, the source and the deck of its lane, and a foul break by the window and the flag. -/
theorem arrivalsAndFouls : Obligations.ArrivalsAndFouls := by
  unfold Obligations.ArrivalsAndFouls
  refine ⟨fun l s => ⟨fun h => ?dead, fun h hm he => ⟨_, exec_arrival h rfl, ?entry⟩,
      fun h hm hs hd => ⟨_, exec_arrival h rfl, ?sensed⟩⟩,
    fun l s => ⟨fun h => ?closed, fun ho hf h hd => ?flags, fun ho hf h r hr => ?revises, fun h => ?grace, fun h => ?stopped⟩⟩
  case dead =>
    rw [← arrive_dead h]
    exact congrArg (fun t : State => Host.Outcome.next t.pump) (if_neg h)
  case entry =>
    rw [arrive_entry h he]
    exact arrived_of_behind ((behind_modPdu ..).trans (congrArg (fun t => State.modPdu t l _) (behind_setInPlay hm)))
  case sensed =>
    have hset := setInPlay_settings hm
    have hstart := behind_sensed hm
    rw [arrive_sensed h hs hd]
    refine ⟨fun hpos => ?_, fun hzero => ?_⟩
    · rw [enterDelay_running (by simpa [hset] using hpos)]
      have e := arrived_of_behind (hstart fun p => p.delays s.settings.pinActionDelay)
      simp only [Pdu.startGrace_eq] at e
      simp only [State.modPdu_settings, hset, Pdu.startGrace_eq]
      exact e
    · rw [enterDelay_zero (by simpa [hset] using hzero)]
      have e := behind_sensed_zero hm
      simp only [Pdu.startGrace_eq] at e ⊢
      have hpsc := congrArg State.psc e
      have hpdu := congrArg State.pdu e
      have hsens := congrArg (fun t => (t.sensing.get l).needs.run) e
      exact ⟨⟨hpsc, hpdu⟩, hsens.trans (by simp [SensingLane.runStarts])⟩
  case closed => exact congrArg (fun u : State => Host.Outcome.next u.finishLines.pump) (foulBroken_closed h)
  case flags =>
    refine ⟨_, rfl, ?_⟩
    rw [foulBroken_flags ho hf h, State.finishLines, flushLines_clean (s := s.modPdu l _) hd,
      sameInside_iff_inside, inside_pump, inside_feedLoads]
    rfl
  case revises =>
    refine ⟨_, rfl, ?_⟩
    rw [foulBroken_revises ho hf h hr]
    exact publish_modPdu ..
  case grace =>
    refine ⟨_, rfl, ?_⟩
    simp only [State.graceExpires, Option.isSome_iff_ne_none.mpr h, if_true]
    rfl
  case stopped => exact congrArg (fun u : State => Host.Outcome.next u.pump) (by simp [State.graceExpires, h])

end Sys2Proof.Machine
end

section
/-! Pinfall decisions (chapter 2): the timers of a run, the settle window and the split flag. -/
namespace Sys2Proof.Machine

/-! ### The timers of a run (R29, R30, R32) -/

section
variable {s u : State} {l : Lane}

theorem exec_pinActionDelayExpiry (h : s.delayExpires l = u) : exec (.pinActionDelayExpiry l) s = .next u.finish.pump := by
  subst h
  rfl

theorem exec_scanTimerExpiry (h : s.scanExpires l = u) : exec (.scanTimerExpiry l) s = .next u.finish.pump := by
  subst h
  rfl

theorem exec_settleWindowExpiry (h : s.windowExpires l = u) : exec (.settleWindowExpiry l) s = .next u.finish.pump := by
  subst h
  rfl

theorem exec_cycleDelayExpiry (h : s.cycleExpires l = u) : exec (.cycleDelayExpiry l) s = .next u.finish.pump := by
  subst h
  rfl

theorem delayExpires_stopped (h : (s.pdu.get l).pinTimer = none) : s.delayExpires l = s := by simp [State.delayExpires, h]

theorem scanExpires_stopped (h : (s.pdu.get l).scanTimer = none) : s.scanExpires l = s := by simp [State.scanExpires, h]

theorem windowExpires_stopped (h : (s.pdu.get l).windowTimer = none) : s.windowExpires l = s := by simp [State.windowExpires, h]

theorem cycleExpires_stopped (h : (s.pdu.get l).cycleTimer = none) : s.cycleExpires l = s := by
  unfold State.cycleExpires
  dsimp only
  split
  · simp [h]
  · rfl

/-- The scan timer restarts, and a run need is raised (R29). -/
theorem scanExpires_running (ht : (s.pdu.get l).scanTimer ≠ none)
    (h : ((s.pdu.get l).run = .delay ∧ (s.pdu.get l).elapsed = true) ∨ (s.pdu.get l).run = .settling ∨ (s.pdu.get l).run = .settled) :
    s.scanExpires l = (s.modPdu l fun p => { p with scanTimer := some s.settings.scanInterval }).raiseRunNeed l := by
  have hs : (((s.pdu.get l).run = .delay && (s.pdu.get l).elapsed) || (s.pdu.get l).run = .settling
      || (s.pdu.get l).run = .settled) = true := by simpa [or_assoc] using h
  simp only [State.scanExpires, Option.isSome_iff_ne_none.mpr ht, hs, Bool.and_self, if_true]

theorem windowExpires_settling (ht : (s.pdu.get l).windowTimer ≠ none) (h : (s.pdu.get l).run = .settling) :
    s.windowExpires l = s.settle l := by
  simp [State.windowExpires, Option.isSome_iff_ne_none.mpr ht, h]

/-! ### The ball that the window settles (R32, R33) -/

/-- The state with the ball of a lane settled by its last set and published, its cycle delay running (R33). -/
def State.windowSettled (s : State) (l : Lane) (b : Binding) (points : List PointClass) : State :=
  (s.modPdu l fun p => { p with run := .settled, windowTimer := none, cycleTimer := some s.settings.cycleDelay }).publish l
    (provisionalRecord l b (s.pdu.get l).upAtArming (s.pdu.get l).deck.pins (s.pdu.get l).foulFlag points) .ballProvisional

theorem settle_eq {b : Binding} {points : List PointClass} (hb : (s.pdu.get l).binding = some b)
    (hp : (s.pdu.get l).lastSet = some points) : s.settle l =
      if s.settings.cycleDelay = 0 then (s.windowSettled l b points).cycleExpires l else s.windowSettled l b points := by
  simp only [State.settle, hb, hp, publish_settings, State.modPdu_settings, State.windowSettled]

/-- The settled ball is held by its PDU and placed on its line; nothing else changes (R33, R96). -/
theorem windowSettled_effect (s : State) (l : Lane) (b : Binding) (points : List PointClass) :
    let p := s.pdu.get l
    let r := provisionalRecord l b p.upAtArming p.deck.pins p.foulFlag points
    let v := s.windowSettled l b points
    v.pdu = s.pdu.set l { p with
        run := .settled, windowTimer := none, cycleTimer := some s.settings.cycleDelay, record := some r }
      ∧ SameInside v ({ s with pdu := v.pdu }.withLines (s.placeBall r)) := publish_modPdu ..

/-- A settled ball at the expiry of its cycle delay: its record is FINAL, and a test ball's PDU is IDLE (R38, R44). -/
theorem cycleExpires_final {b : Binding} {r : BallRecord} (hb : (s.pdu.get l).binding = some b) (hr : (s.pdu.get l).record = some r)
    (h : (s.pdu.get l).run = .settled) (ht : (s.pdu.get l).cycleTimer ≠ none) :
    ((s.cycleExpires l).pdu.get l).run = (if b.test then .idle else .final)
      ∧ ((s.cycleExpires l).pdu.get l).record = some { r with state := .final } := by
  rw [cycleExpires_settled hr h ht, (finalize_reach hb _).2, PerLane.get_set, Pdu.finalized]
  split <;> exact ⟨rfl, rfl⟩

end

/-! ### The split flag (R37) -/

theorem splitEligible_iff {b : Binding} (h : ∀ f, b.frame = some f → f ≤ 10) : splitEligible b = true ↔
    (∃ f, b.frame = some f ∧ f ≤ 9 ∧ b.ball = some 1) ∨ (b.frame = some 10 ∧ b.fullRack = true) := by
  unfold splitEligible
  cases hf : b.frame with
  | none => simp
  | some f =>
    have := h f hf
    by_cases h10 : f = 10
    · simp [h10]
    · have hlt : f < 10 := by omega
      simp [hlt, h10, Nat.le_of_lt_succ hlt]

theorem splitFlag_iff {b : Binding} (h : ∀ f, b.frame = some f → f ≤ 10) (foul : Bool) (standing : Pins) :
    splitFlag b foul standing = true ↔
      ((∃ f, b.frame = some f ∧ f ≤ 9 ∧ b.ball = some 1) ∨ (b.frame = some 10 ∧ b.fullRack = true)) ∧ foul = false
        ∧ hasPin standing 0 = false ∧ 2 ≤ pinCount standing
        ∧ ¬ ∀ p q : Fin 10, hasPin standing p = true → hasPin standing q = true → Relation.ReflTransGen (Touching standing) p q := by
  simp only [splitFlag, splitSet, Bool.and_eq_true, Bool.not_eq_true', decide_eq_true_eq, splitEligible_iff h, ← connected_iff,
    Bool.not_eq_true]
  exact ⟨fun ⟨⟨hn, he⟩, ⟨h0, h2⟩, hc⟩ => ⟨he, hn, h0, h2, hc⟩, fun ⟨he, hn, h0, h2, hc⟩ => ⟨⟨hn, he⟩, ⟨h0, h2⟩, hc⟩⟩

/-- The pins that stand in a record: those up that its set does not show LOW (R33). -/
theorem hasPin_standingIn_iff (up : Pins) (points : List PointClass) (p : Fin 10) : hasPin (standingIn up points) p = true ↔
    hasPin up p = true ∧ ∀ w, points[p.val]? ≠ some (some (.low, w)) := by
  rw [hasPin_standingIn, not_exists]

/-- Settles O45: each timer by its own lemma, the record by the set it is formed from. -/
theorem runTimers : Obligations.RunTimers := by
  unfold Obligations.RunTimers
  refine ⟨fun l s => ⟨fun ht h => ⟨_, exec_pinActionDelayExpiry (delayExpires_running ht h), ?delay⟩,
    fun ht h => ⟨_, exec_scanTimerExpiry (scanExpires_running ht h), rfl⟩,
    fun ht h hc b points hb hp => ?settles, fun ht h hc b points hb hp => ?final,
    fun h => exec_pinActionDelayExpiry (delayExpires_stopped h), fun h => exec_scanTimerExpiry (scanExpires_stopped h),
    fun h => exec_settleWindowExpiry (windowExpires_stopped h)⟩,
    fun b foul hf => ⟨fun standing => splitFlag_iff hf foul standing, fun l armed up points =>
      ⟨_, rfl, rfl, hasPin_standingIn_iff up points⟩⟩⟩
  case delay =>
    rw [sameInside_iff_inside, inside_delayOver h]
    rfl
  case settles =>
    have e := settle_eq hb hp
    rw [if_neg (Nat.pos_iff_ne_zero.mp hc)] at e
    obtain ⟨hpdu, hin⟩ := windowSettled_effect s l b points
    exact ⟨_, _, exec_settleWindowExpiry ((windowExpires_settling ht h).trans e), hpdu, rfl, rfl, rfl, rfl, rfl, rfl, rfl, rfl, rfl,
      ⟨_, rfl, rfl, rfl, hasPin_standingIn_iff _ points⟩, hin⟩
  case final =>
    have e := settle_eq hb hp
    rw [if_pos hc] at e
    obtain ⟨hpdu, hin⟩ := windowSettled_effect s l b points
    rw [hc] at hpdu
    have hget := (congrArg (fun x => x.get l) hpdu).trans (PerLane.get_set ..)
    obtain ⟨hrun, hrec⟩ := cycleExpires_final ((congrArg Pdu.binding hget).trans hb) (congrArg Pdu.record hget)
      (congrArg Pdu.run hget) (by rw [hget]; exact nofun)
    exact ⟨_, _, exec_settleWindowExpiry ((windowExpires_settling ht h).trans e), hrun, hrec, rfl, hpdu, hin⟩

end Sys2Proof.Machine
end

section
/-! Pinfall decisions (chapter 2): the scoring source, test runs, and arming. -/
namespace Sys2Proof.Machine

/-- A request that the rights table admits and that its block refuses is answered so (R188). -/
theorem request_refused {i : Instr} {k : Link} {tag : Tag} {r : Request} {c : Code} {s : State} (hi : i.request = some (k, tag, r))
    (hl : LinkIdle s k) (ha : admits k r.kind = true) (hn : r ≠ .linkReset)
    (h : handle k r (s.queuedUp k tag r) = refuse c (s.queuedUp k tag r)) :
    exec i s = .next ((s.queuedUp k tag r).answered k tag r (.refused c)) := by
  rw [exec_request hi, State.request_of_idle hl tag hn ha, h]
  rfl

section
variable {s : State} {l : Lane}

/-! ### MANUAL set on a lane (R42) -/

/-- A PDU under MANUAL with no timer running, which waits for an entry: what R42 makes of a run that has not settled. -/
def Pdu.awaits (p : Pdu) : Pdu :=
  { p with
    source := .manual, run := .awaitingEntry, foulOpen := false, lastSet := none, pinTimer := none, scanTimer := none
    windowTimer := none, graceTimer := none, cycleTimer := none }

theorem setManual_still (h : (s.pdu.get l).run = .idle ∨ (s.pdu.get l).run = .awaitingEntry ∨ (s.pdu.get l).run = .final) :
    s.setManual l = s.modPdu l fun p => { p with source := .manual } := by
  rcases h with h | h | h <;> simp [State.setManual, h]

theorem setManual_armed (h : (s.pdu.get l).run = .armed) :
    s.setManual l = s.modPdu l fun p => { p with source := .manual, foulOpen := false } := by
  simp [State.setManual, h, modPdu_eq]

theorem setManual_runs (h : (s.pdu.get l).run = .delay ∨ (s.pdu.get l).run = .settling) :
    s.setManual l = (s.dropRunNeed l).modPdu l Pdu.awaits := by
  rcases h with h | h <;> simp [State.setManual, h, State.dropRunNeed, modPdu_eq, modSensing_eq, Pdu.awaits]

theorem setManual_settled (h : (s.pdu.get l).run = .settled) :
    s.setManual l = (s.dropRunNeed l).modPdu l fun p => { p with source := .manual, scanTimer := none } := by
  simp [State.setManual, h, State.dropRunNeed, modPdu_eq, modSensing_eq]

/-! ### set-scoring-source (R42) -/

/-- Where AUTO is accepted (R42). -/
def State.takesAuto (s : State) (l : Lane) : Prop :=
  ((s.pdu.get l).run = .idle ∨ (s.pdu.get l).run = .armed) ∧ (s.sensing.get l).fault = false ∧ (s.pdu.get l).deck.set? ≠ none

theorem takesAuto_iff {s : State} {l : Lane} : (((s.pdu.get l).run = .idle || (s.pdu.get l).run = .armed) && !(s.sensing.get l).fault
    && (s.pdu.get l).deck.set?.isSome) = true ↔ s.takesAuto l := by
  simp [State.takesAuto, Option.isSome_iff_ne_none, and_assoc]

section
variable {lane source : Nat} {src : ScoringSource} (hl : laneOf lane = some l) (hs : sourceOf source = some src)
include hl hs

theorem handleSetScoringSource_same (h : src = (s.pdu.get l).source) : handleSetScoringSource lane source s = (s, .ok []) := by
  simp [handleSetScoringSource, hl, hs, h, accept]

theorem handleSetScoringSource_manual (hm : src = .manual) (h : (s.pdu.get l).source = .auto) :
    handleSetScoringSource lane source s = ((s.setManual l).broadcast (.scoringSource (s.laneNumber l) src), .ok []) := by
  subst hm
  simp [handleSetScoringSource, hl, hs, h, accept]

theorem handleSetScoringSource_auto (ha : src = .auto) (h : (s.pdu.get l).source = .manual) (hok : s.takesAuto l) :
    handleSetScoringSource lane source s
      = ((s.modPdu l fun p => { p with source := .auto }).broadcast (.scoringSource (s.laneNumber l) src), .ok []) := by
  subst ha
  simp only [handleSetScoringSource, hl, hs, h, takesAuto_iff.mpr hok, if_true, if_false, reduceCtorEq, accept]

theorem handleSetScoringSource_refused (ha : src = .auto) (h : (s.pdu.get l).source = .manual) (hno : ¬ s.takesAuto l) :
    handleSetScoringSource lane source s = refuse .state s := by
  subst ha
  simp only [handleSetScoringSource, hl, hs, h, if_neg (mt takesAuto_iff.mp hno), if_false, reduceCtorEq]

end

/-! ### arm-test (R44) -/

/-- Where a test run may start (R44). -/
def State.takesTest (s : State) (l : Lane) : Prop :=
  (s.psc.get l).state = .service ∧ (s.sensing.get l).runMode = .normal ∧ (s.pdu.get l).run = .idle

/-- The PDU of a test run on a set (R44). -/
def Pdu.armTest (p : Pdu) (up : Pins) : Pdu :=
  { p with
    deck := .known up, upAtArming := some up, binding := some ⟨none, none, none, none, decide (up = allPins), true⟩
    foulFlag := false, foulOpen := false, elapsed := false, settleCount := 0, stalled := false }

theorem handleArmTest_accepted {lane pins : Nat} {up : Pins} (hl : laneOf lane = some l) (hp : pinsOf pins = some up) (hu : up ≠ 0#10)
    (h : s.takesTest l) : handleArmTest lane pins s = ((s.modPdu l fun p => p.armTest up).enterDelay l, .ok []) := by
  simp [handleArmTest, hl, hp, hu, h.1, h.2.1, h.2.2, accept, Pdu.armTest]

theorem handleArmTest_refused {lane pins : Nat} {up : Pins} (hl : laneOf lane = some l) (hp : pinsOf pins = some up) (hu : up ≠ 0#10)
    (h : ¬ s.takesTest l) : handleArmTest lane pins s = refuse .state s := by
  simp only [handleArmTest, hl, hp, hu, if_false]
  exact if_neg fun hc => h (by simpa [State.takesTest, and_assoc] using hc)

/-! ### Arming (R26, R27, R39) -/

theorem Deck.agree_eq (d e : Deck) :
    d.agree e = if d = e ∨ d = .unknown e.count then d else .unknown e.count := by
  unfold Deck.agree
  by_cases h : d = e
  · simp [h]
  · by_cases hu : d = .unknown e.count <;> simp [h, hu]

/-- The group that bowls on a lane with an up bowler is the lane's occupant (R95). -/
theorem bowling_of_upBowler {u : LineId × Nat × Nat} {g : Slot} (h : s.upBowler l = some u) (hg : (s.lanes.get l).occupant = some g) :
    s.bowling l = some g := by
  by_cases hp : (s.groups.get g).state = .playing
  · simp [State.bowling, hg, hp]
  · have hb : s.bowling l = none := by simp [State.bowling, hg, hp]
    simp [State.upBowler, hb] at h

theorem bindingFor_up {i : LineId} {f n : Nat} {g : Slot} {d : Deck} (h : s.upBowler l = some (i, f, n))
    (hg : (s.lanes.get l).occupant = some g) (hd : (s.pdu.get l).deck.agree (s.expectedDeck l) = d) :
    s.bindingFor l = some ({ line := some i, game := (s.groups.get g).game, frame := some f, ball := some n
                             fullRack := decide (d = .known allPins), test := false }, d) := by
  subst hd
  simp only [State.bindingFor, h, bowling_of_upBowler h hg]
  rfl

theorem bindingFor_none (h : s.upBowler l = none) : s.bindingFor l = none := by simp [State.bindingFor, h]

/-- An arming changes its PDU, and the last ball of the lane becomes absent (R26, R164). -/
theorem arm_effect (s : State) (l : Lane) (b : Binding) (d : Deck) :
    SameInside (s.arm l b d) { s with pdu := s.pdu.set l { s.pdu.get l with
        run := .armed, binding := some b, deck := d, upAtArming := d.set?, foulFlag := false, elapsed := false, settleCount := 0
        stalled := false, foulOpen := (s.sessions.get l).foulDetect && decide ((s.pdu.get l).source = .auto) } }
      ∧ ((s.arm l b d).feeds.get l).lastBall = none := by
  constructor
  · rw [sameInside_iff_inside, State.arm, inside_showBall]
    rfl
  · simp only [State.arm, State.showBall, State.markFeed, State.modFeed_feeds, PerLane.get_set, Feed.mark]
    split <;> rfl

section
variable {b : Binding} {d : Deck} (hr : (s.psc.get l).state = .ready) (hb : s.bindingFor l = some (b, d))
include hr hb

theorem pduSync_arms (h : (s.pdu.get l).run = .idle ∨ (s.pdu.get l).run = .final) : s.pduSync l = s.arm l b d := by
  rcases h with h | h <;> simp [State.pduSync, h, hr, hb]

theorem pduSync_rebinds (h : (s.pdu.get l).run = .armed) : s.pduSync l = s.rebind l b d := by
  simp [State.pduSync, h, hr, hb]

end

/-- Without READY or an up bowler an ARMED PDU is disarmed (R27). -/
theorem pduSync_disarms (h : (s.pdu.get l).run = .armed) (hn : (s.psc.get l).state ≠ .ready ∨ s.upBowler l = none) :
    s.pduSync l = s.disarm l := by
  rcases hn with hn | hn
  · simp [State.pduSync, h, hn]
  · simp [State.pduSync, h, bindingFor_none hn]

/-- In READY without an up bowler a FINAL PDU is disarmed (R39). -/
theorem pduSync_ends (h : (s.pdu.get l).run = .final) (hr : (s.psc.get l).state = .ready) (hn : s.upBowler l = none) :
    s.pduSync l = s.disarm l := by
  simp [State.pduSync, h, hr, bindingFor_none hn]

/-- A ball in play keeps its PDU, and a PDU that rests does so until its machine is READY and has an up bowler. -/
theorem pduSync_still (h : (s.pdu.get l).run = .delay ∨ (s.pdu.get l).run = .settling ∨ (s.pdu.get l).run = .settled
    ∨ (s.pdu.get l).run = .awaitingEntry
    ∨ (((s.pdu.get l).run = .idle ∨ (s.pdu.get l).run = .final) ∧ (s.psc.get l).state ≠ .ready)
    ∨ ((s.pdu.get l).run = .idle ∧ s.upBowler l = none)) : s.pduSync l = s := by
  rcases h with h | h | h | h | ⟨h | h, hn⟩ | ⟨h, hn⟩
  case inr.inr.inr.inr.inr => simp [State.pduSync, h, bindingFor_none hn]
  all_goals simp [State.pduSync, *]

/-- Two bindings of the same ball. -/
theorem sameBinding_iff (a b : Binding) : sameBinding a b = true ↔
    a.line = b.line ∧ a.game = b.game ∧ a.frame = b.frame ∧ a.ball = b.ball := by
  simp [sameBinding, and_assoc]

theorem rebind_same {old b : Binding} (ho : (s.pdu.get l).binding = some old) (h : sameBinding old b = true) (d : Deck) :
    s.rebind l b d = s := by
  simp [State.rebind, ho, h]

theorem rebind_other {b : Binding} (h : ∀ old, (s.pdu.get l).binding = some old → ¬ sameBinding old b = true) (d : Deck) :
    s.rebind l b d = s.modPdu l fun p => { p with binding := some b, deck := d, upAtArming := d.set? } := by
  cases ho : (s.pdu.get l).binding with
  | none => simp [State.rebind, ho]
  | some old => simp [State.rebind, ho, h old ho]

end

/-- Settles O48: the requests by their handlers, and arming by what the up bowler and the machine have become. -/
theorem sourcesAndTests : Obligations.SourcesAndTests := by
  unfold Obligations.SourcesAndTests
  refine ⟨fun tag lane l s hl => ⟨?source, ?test⟩, ?arming⟩
  case source =>
    intro k source src hi hk hs q becomes manual
    have ha : admits k q.kind = true := by rcases hk with rfl | rfl <;> rfl
    have served {u : State} {p' : Pdu} {needs : Needs} (hh : handleSetScoringSource lane source (s.queuedUp k tag q) = (u, .ok []))
        (hu : SameInside u { s with pdu := s.pdu.set l p', sensing := s.sensing.set l { s.sensing.get l with needs := needs } }) :
        becomes p' needs := State.serves_with' (r := q) rfl hi ha (by nofun) (by nofun) ⟨u, hh, hu⟩
    have hx : s.sensing.set l { s.sensing.get l with needs := (s.sensing.get l).needs } = s.sensing := PerLane.set_get _ _
    have hp' : s.pdu.set l (s.pdu.get l) = s.pdu := PerLane.set_get _ _
    let v := s.queuedUp k tag q
    refine ⟨fun h => served (handleSetScoringSource_same hl hs h) ?_, fun h hp => ?_, fun h hp => ⟨fun hok => ?_, fun hno => ?_⟩⟩
    · rw [hx, hp']
      rfl
    · have hh := handleSetScoringSource_manual (s := v) hl hs h hp
      refine ⟨fun hr => served hh ?_, fun hr => served hh ?_, fun hr => served hh ?_, fun hr => served hh ?_⟩
      all_goals rw [sameInside_iff_inside, inside_broadcast]
      · rw [setManual_still (s := v) hr, hx]
        rfl
      · rw [setManual_armed (s := v) hr, hx]
        rfl
      · rw [setManual_runs (s := v) hr]
        rfl
      · rw [setManual_settled (s := v) hr]
        rfl
    · refine served (handleSetScoringSource_auto (s := v) hl hs h hp hok) ?_
      rw [sameInside_iff_inside, inside_broadcast, hx]
      rfl
    · exact request_refused rfl hi ha (by nofun) (handleSetScoringSource_refused (s := v) hl hs h hp hno)
  case test =>
    intro pins up hi hp hu q ready
    refine ⟨fun hr hd => ?_, fun hr => ?_⟩
    · refine State.serves_with' (r := q) rfl hi rfl (by nofun) (by nofun)
        ⟨_, handleArmTest_accepted (s := s.queuedUp .service tag q) hl hp hu hr, ?_⟩
      rw [enterDelay_running (s := (s.queuedUp .service tag q).modPdu l _) hd, sameInside_iff_inside]
      simp [modPdu_eq, Pdu.armTest, Pdu.delays, State.inside]
    · exact request_refused rfl hi rfl (by nofun) (handleArmTest_refused (s := s.queuedUp .service tag q) hl hp hu hr)
  case arming =>
    intro s l p t ready e d idle becomes
    have made {v : State} {q : Pdu} (ht : t = v) (hv : SameInside v { s with pdu := s.pdu.set l q }) : becomes q := by
      rw [← ht] at hv
      exact hv
    refine ⟨?bound, fun hn h => made (pduSync_disarms h hn) rfl, fun hr hn h => made (pduSync_ends h hr hn) rfl, pduSync_still⟩
    case bound =>
      intro i f n g hr hup hg b
      have hb : s.bindingFor l = some (b, d) := bindingFor_up hup hg (Deck.agree_eq p.deck e)
      refine ⟨fun h => ?_, fun h ⟨old, ho, hsame⟩ => ?_, fun h hother => ?_⟩
      · have ht : t = s.arm l b d := pduSync_arms hr hb h
        obtain ⟨hin, hlast⟩ := arm_effect s l b d
        exact ⟨made ht hin, (congrArg (fun v : State => (v.feeds.get l).lastBall) ht).trans hlast⟩
      · exact (pduSync_rebinds hr hb h).trans (rebind_same ho ((sameBinding_iff old b).mpr hsame) d)
      · exact made ((pduSync_rebinds hr hb h).trans (rebind_other (fun old ho => mt (sameBinding_iff old b).mp (hother old ho)) d)) rfl

end Sys2Proof.Machine
end

section
/-! Pinfall decisions (chapter 2): what follows a FINAL ball keeps of the machines, the return and the configuration. -/
namespace Sys2Proof.Machine

theorem behind_startMachine (s : State) (l : Lane) : State.behind (s.startMachine l) =
    if (s.psc.get l).state = .standby then (State.behind s).modPsc l fun p => { p with
      state := .starting, cause := none, startTimer := some (100 * s.settings.startTime), stepTimer := none }
    else State.behind s := by
  unfold State.startMachine
  split
  · rename_i h
    rw [behind_setMachine _ _ _ _ _ (by simp [h]), behind_modPsc, modPsc_comp]
    rfl
  · rfl

/-- The return, the configuration, the rates and the handicap parameters. -/
def State.plant (s : State) : BallReturn × Settings × List Band × HandicapParams := (s.ret, s.settings, s.rates, s.handicap)

/-- What play leaves of the rest: the plant, and every machine but one in STANDBY, which a new occupant of its lane starts
(R49). -/
structure Plays (s t : State) : Prop where
  plant : t.plant = s.plant
  psc   : ∀ l, (s.psc.get l).state ≠ .standby → t.psc.get l = s.psc.get l

namespace Plays

variable {s t u : State}

theorem refl (s : State) : Plays s s := ⟨rfl, fun _ _ => rfl⟩

theorem same (h : Plays s t) (hq : u.plant = t.plant) (hp : u.psc = t.psc) : Plays s u :=
  ⟨hq.trans h.plant, fun l hl => by rw [hp, h.psc l hl]⟩

theorem ite {p : Prop} [Decidable p] (ht : p → Plays s t) (hu : ¬ p → Plays s u) : Plays s (if p then t else u) := by
  split
  · exact ht ‹p›
  · exact hu ‹¬ p›

theorem foldl {α : Type} {f : State → α → State} (hf : ∀ s t a, Plays s t → Plays s (f t a)) (l : List α) (h : Plays s t) :
    Plays s (l.foldl f t) := by
  induction l generalizing t with
  | nil => exact h
  | cons a l ih => exact ih (hf s t a h)

/-! ### Single updates -/

theorem modGroup (h : Plays s t) (g : Slot) (f : Group → Group) : Plays s (t.modGroup g f) := h.same rfl rfl

theorem modLane (h : Plays s t) (l : Lane) (f : LaneRecord → LaneRecord) : Plays s (t.modLane l f) := h.same rfl rfl

theorem modSession (h : Plays s t) (l : Lane) (f : Session → Session) : Plays s (t.modSession l f) := h.same rfl rfl

theorem modFeed (h : Plays s t) (l : Lane) (f : Feed → Feed) : Plays s (t.modFeed l f) := h.same rfl rfl

theorem tell (h : Plays s t) (k : Link) (n : Notice) : Plays s (t.tell k n) := h.same rfl rfl

theorem broadcast (h : Plays s t) (n : Notice) : Plays s (t.broadcast n) :=
  h.same (by simp [State.plant]) (by simp)

/-! ### Machines, sessions and lines -/

theorem startMachine (h : Plays s t) (l : Lane) : Plays s (t.startMachine l) := by
  have e := behind_startMachine t l
  split at e
  · rename_i hs
    have hp : (t.startMachine l).psc = t.psc.set l _ := (congrArg State.psc e :)
    refine ⟨(congrArg State.plant e).trans h.plant, fun m hm => ?_⟩
    have hml : m ≠ l := fun hml => hm (by rw [← h.psc m hm, hml, hs])
    rw [hp, PerLane.get_set_of_ne _ hml, h.psc m hm]
  · exact h.same (congrArg State.plant e :) (congrArg State.psc e :)

theorem changeLine (h : Plays s t) (i : LineId) (f : Line → Line) : Plays s (t.changeLine i f) := by
  unfold State.changeLine
  split
  · exact h.same rfl rfl
  · exact h

theorem voidCorrections (h : Plays s t) (gone : Correction → Bool) (home : Lane) : Plays s (t.voidCorrections gone home) := by
  have hf := foldl (f := fun t (e : Correction) => t.tellDeskConsole (.correctionVoid e)) (fun _ _ _ h => (h.tell ..).tell ..)
    (t.corrections.filter gone) (h.same (u := { t with corrections := t.corrections.filter fun e => !gone e }) rfl rfl)
  exact ite (fun _ => hf) fun _ => hf.modFeed home _

theorem enterSession (h : Plays s t) (l : Lane) (state : SessionState) (pausedFrom : Option SessionState) :
    Plays s (t.enterSession l state pausedFrom) := (((h.modSession l _).broadcast _).modFeed l _).modFeed l _

theorem countGames (h : Plays s t) (l : Lane) (n : Nat) : Plays s (t.countGames l n) := (h.modSession l _).modFeed l _

theorem charge (h : Plays s t) (l : Lane) (n : Nat) : Plays s (t.charge l n) := by
  have added : Plays s (t.addCents l n) :=
    ite (fun _ => ((h.modSession l _).modFeed l _).tell _ _) fun _ => (h.modSession l _).modFeed l _
  exact ite (fun _ => added.enterSession ..) fun _ => added

/-- The decision on a game changes sessions alone (R150). -/
theorem permitGame (h : Plays s t) (l : Lane) (n : Nat) : Plays s (t.permitGame l n).1 := by
  unfold State.permitGame
  dsimp only
  split
  · exact h
  · split
    · split
      · exact h.enterSession ..
      · exact (h.modSession ..).countGames l n
    · exact (h.countGames l n).charge l _
    · exact h.countGames l n

/-! ### Groups and games -/

theorem announceGroup (h : Plays s t) (before : State) (g : Slot) (refused : Option Code) :
    Plays s (t.announceGroup before g refused) :=
  ite (fun _ => ((h.broadcast _).modFeed _ _).modFeed _ _) fun _ => h

theorem announceLane (h : Plays s t) (before : State) (l : Lane) : Plays s (t.announceLane before l) := by
  have marked {p : Prop} [Decidable p] : Plays s (if p then t.markFeed l true true else t) := ite (fun _ => h.modFeed l _) fun _ => h
  exact ite (fun _ => marked.startMachine l) fun _ => marked

theorem announce (h : Plays s t) (before : State) (refused : Option (Slot × Code)) : Plays s (t.announce before refused) :=
  (((((((h.modGroup .g1 _).modGroup .g2 _).announceGroup before .g1 _).announceGroup before .g2 _).announceLane before
    .left).announceLane before .right).modFeed .left _).modFeed .right _

theorem becomes (h : Plays s t) (g : Slot) (state : GroupState) : Plays s (t.becomes g state) := h.modGroup g _

theorem releaseLane (h : Plays s t) (g : Slot) (l : Lane) : Plays s (t.releaseLane g l) := by
  unfold State.releaseLane
  dsimp only
  refine ite (fun _ => ?_) fun _ => ite (fun _ => h.modLane l _) fun _ => h
  split
  · exact (h.modLane l _).becomes _ _
  · exact h.modLane l _

theorem releaseLanes (h : Plays s t) (g : Slot) : Plays s (t.releaseLanes g) := (h.releaseLane g .left).releaseLane g .right

theorem askLane (h : Plays s t) (g : Slot) (l : Lane) : Plays s (t.askLane g l) := by
  unfold State.askLane
  split <;> exact (h.modLane l _).becomes g _

theorem permitStart (h : Plays s t) (g : Slot) : Plays s (t.permitStart g).1 := by
  unfold State.permitStart
  dsimp only
  split
  · exact h
  split
  · exact h
  split
  · exact h
  · exact h.permitGame _ _

theorem startGame (h : Plays s t) (g : Slot) : Plays s (t.startGame g) :=
  (((foldl (fun _ _ i h => h.changeLine i fun l => { l with frames := [] }) (t.groups.get g).order h).voidCorrections _ _).modGroup
    g _).askLane g _

theorem gameEnd (h : Plays s t) (before : State) (g : Slot) : Plays s (t.gameEnd before g) := by
  have entered := foldl (fun _ _ (e : LineId × GameEntry) h => h.changeLine e.1 fun l => { l with games := appendGame l.games e.2 })
    (t.gameEntries g) h
  have ended := ((entered.releaseLanes g).modGroup g fun r => { r with inProgress := false, position := none }).becomes g
    .idle
  unfold State.gameEnd
  dsimp only
  refine ite (fun _ => ?_) fun _ => (ended.announce before none).broadcast _
  have hp := ended.permitStart g
  split
  · rename_i e
    rw [e] at hp
    exact (hp.announce before _).broadcast _
  · rename_i e
    rw [e] at hp
    exact (((hp.announce before none).broadcast _).startGame g).announce _ none

theorem advance (h : Plays s t) (before : State) (g : Slot) : Plays s (t.advance before g) := by
  unfold State.advance
  dsimp only
  have next : Plays s (t.modGroup g fun r => { r with frame := r.frame + 1 }) := h.modGroup g _
  exact ite (fun _ => h.announce before none) fun _ =>
    ite (fun _ => (ite (fun _ => next) fun _ => (next.releaseLanes g).askLane g _).announce before none) fun _ => h.gameEnd before g

theorem advanceFor (h : Plays s t) (b : BallRecord) : Plays s (t.advanceFor b) := by
  unfold State.advanceFor
  split
  · split
    · exact ite (fun _ => h.advance _ _) fun _ => h
    · exact h
  · exact h

end Plays
end Sys2Proof.Machine
end

section
/-! Pinfall decisions (chapter 2): balls on their lines, and balls that become FINAL. -/
namespace Sys2Proof.Machine

/-! ### A line of the directory that changes (R96, R109) -/

theorem line_setLine (s : State) (i j : LineId) (o : Option Line) : (s.setLine i o).line j = if j = i then o else s.line j := by
  change (s.lines.set i.val o i.isLt)[j.val] = _
  rw [Vector.getElem_set]
  by_cases h : j = i
  · simp [h]
  · rw [if_neg (fun e => h (Fin.ext e.symm)), if_neg h]
    rfl

theorem getLsbD_lineBit : ∀ i j : LineId, (1#16 <<< i.val).getLsbD j.val = decide (j = i) := by decide

/-- A line whose frames are replaced and computed again, with the totals of its group; its change waits to be announced. -/
def State.Reframed (s t : State) (i : LineId) (l : Line) (frames : List FrameRecord) : Prop :=
  t.line i = some (computeLine s.handicap { l with frames := frames }) ∧ (∀ j, j ≠ i → t.line j = s.line j)
    ∧ (∀ j : LineId, t.dirty.getLsbD j.val = (s.dirty.getLsbD j.val || decide (j = i)))
    ∧ (∀ g, { t.groups.get g with
        runningTotal := (s.groups.get g).runningTotal, groupTotal := (s.groups.get g).groupTotal } = s.groups.get g)
    ∧ { t with lines := s.lines, groups := s.groups, dirty := s.dirty } = s

theorem changeLine_reframes {s : State} {i : LineId} {l : Line} (hl : s.line i = some l) {f : Line → Line} {frames : List FrameRecord}
    (hf : f l = { l with frames := frames }) : s.Reframed (s.changeLine i f) i l frames := by
  have e : s.changeLine i f =
      ((s.setLine i (some (computeLine s.handicap { l with frames := frames }))).refreshTotals l.group).touch i := by
    simp only [State.changeLine, hl, hf]
  rw [e]
  refine ⟨?_, fun j hj => ?_, fun j => ?_, fun g => ?_, rfl⟩
  · exact (line_setLine ..).trans (if_pos rfl)
  · exact (line_setLine ..).trans (if_neg hj)
  · exact BitVec.getLsbD_or.trans (congrArg _ (getLsbD_lineBit i j))
  · change { (s.groups.set l.group _).get g with
      runningTotal := (s.groups.get g).runningTotal, groupTotal := (s.groups.get g).groupTotal } = s.groups.get g
    by_cases hg : g = l.group
    · subst hg
      rw [PerSlot.get_set]
      rfl
    · rw [PerSlot.get_set_of_ne _ hg]

/-! ### A ball on its line (R96) -/

theorem placeIn_eq (balls : List BallRecord) (b : BallRecord) {n : Nat} (hn : 1 ≤ n) :
    placeIn balls b n = if n ≤ balls.length then balls.set (n - 1) b else balls ++ [b] := by
  unfold placeIn
  split
  · refine List.ext_getElem (by simp) fun k hk hk' => ?_
    simp only [List.getElem_mapIdx, List.getElem_set]
    exact if_congr (by omega) rfl rfl
  · rfl

theorem frameAt_isSome (l : Line) (f : Nat) : (l.frameAt f).isSome = true ↔ ∃ x ∈ l.frames, x.number = f := by
  simp [Line.frameAt]

/-- The frames of a line with a ball placed, for a frame that the line has. -/
def framesPlaced (frames : List FrameRecord) (b : BallRecord) (f n : Nat) : List FrameRecord :=
  frames.map fun x => if x.number = f then
    { x with balls := if n ≤ x.balls.length then x.balls.set (n - 1) b else x.balls ++ [b] } else x

theorem placeBall_old {l : Line} {f : Nat} (h : ∃ x ∈ l.frames, x.number = f) (b : BallRecord) {n : Nat} (hn : 1 ≤ n) :
    l.placeBall b f n = { l with frames := framesPlaced l.frames b f n } := by
  rw [Line.placeBall, if_pos ((frameAt_isSome l f).mpr h)]
  simp only [placeIn_eq _ b hn, framesPlaced]

theorem placeBall_new {l : Line} {f : Nat} (h : ∀ x ∈ l.frames, x.number ≠ f) (b : BallRecord) (n : Nat) :
    l.placeBall b f n = { l with frames := l.frames ++ [⟨f, false, [b], none, none, none, []⟩] } :=
  if_neg fun hs => by
    obtain ⟨x, hx, he⟩ := (frameAt_isSome l f).mp hs
    exact h x hx he

section
variable {s : State} {b : BallRecord}

/-- A ball of no line in use is placed on none. -/
theorem lineForBall_none (h : b.line = none ∨ ∃ i, b.line = some i ∧ s.line i = none) : s.lineForBall b = none := by
  rcases h with h | ⟨i, h, hi⟩
  · simp [State.lineForBall, h]
  · simp [State.lineForBall, h, hi]

theorem placeBall_none (h : s.lineForBall b = none) : s.placeBall b = s := by simp [State.placeBall, h]

theorem removeBall_none (h : s.lineForBall b = none) : s.removeBall b = s := by simp [State.removeBall, h]

theorem lineForBall_some {i : LineId} {l : Line} (hb : b.line = some i) (hl : s.line i = some l)
    (hg : (s.groups.get l.group).game = b.game) : s.lineForBall b = some i := by
  simp [State.lineForBall, hb, hl, hg]

theorem placeBall_some {i : LineId} {f n : Nat} (h : s.lineForBall b = some i) (hf : b.frame = some f) (hn : b.ball = some n) :
    s.placeBall b = s.changeLine i fun l => l.placeBall b f n := by
  simp [State.placeBall, h, hf, hn]

theorem removeBall_some {i : LineId} {f n : Nat} (h : s.lineForBall b = some i) (hf : b.frame = some f) (hn : b.ball = some n) :
    s.removeBall b = s.changeLine i fun l => l.removeBall f n := by
  simp [State.removeBall, h, hf, hn]

end

/-! ### What a FINAL ball publishes and hands over (R38, R52, R67) -/

section
variable (s : State) (l : Lane) (b : Binding) (r : BallRecord)

@[simp] theorem inside_highlightBall : State.inside (s.highlightBall l r) = State.inside s := by
  unfold State.highlightBall
  split
  · split
    · split
      · exact inside_setOneShot ..
      · rfl
    · rfl
  · rfl

/-- A ball published as FINAL is held by its PDU and placed on its line; the rest is notices and the monitor. -/
theorem inside_publishFinal : State.inside (s.publishFinal l r) =
    (State.inside (s.modPdu l fun p => { p with record := some r })).withLines (s.placeBall r) := by
  rw [State.publishFinal, inside_highlightBall, inside_publish]

/-- The state with the ball of a lane FINAL and published (R38). -/
def State.ballIsFinal : State := ((s.dropRunNeed l).modPdu l Pdu.finished).publishFinal l r

theorem inside_ballIsFinal : State.inside (s.ballIsFinal l r) =
    (((State.inside s).modSensing l fun x => { x with needs := { x.needs with run := false } }).modPdu l
      fun p => { p.finished with record := some r }).withLines (s.placeBall r) := by
  rw [State.ballIsFinal, inside_publishFinal, placeBall_congr (s := s) (t := (s.dropRunNeed l).modPdu l Pdu.finished) rfl rfl rfl rfl]
  simp [State.dropRunNeed, modPdu_eq, modSensing_eq, State.inside]

theorem ballIsFinal_psc : (s.ballIsFinal l r).psc = s.psc := (congrArg State.psc (inside_ballIsFinal s l r) :)

theorem ballIsFinal_settings : (s.ballIsFinal l r).settings = s.settings := (congrArg State.settings (inside_ballIsFinal s l r) :)

/-- The recipe of a FINAL ball. -/
def State.recipeOf : RecipeKind × Deck := chooseRecipe b r (s.pdu.get l).deck ((s.ballIsFinal l r).boundStrike b)

/-- The state with the ball's recipe handed over as well; after a test ball the PDU is IDLE (R44). -/
def State.recipeHanded : State :=
  let t := (s.ballIsFinal l r).handRecipe l (s.recipeOf l b r).1 (s.recipeOf l b r).2
  if b.test then t.disarm l else t

theorem finalize_eq {s : State} {l : Lane} {b : Binding} (hb : (s.pdu.get l).binding = some b) (r : BallRecord) :
    s.finalize l r = (s.recipeHanded l b r).advanceFor r := by
  simp only [State.finalize, hb]
  rfl

/-- But for ball 2 of frame 10 the recipe does not ask whether ball 1 was a strike (R38). -/
theorem chooseRecipe_strike {b : Binding} (h : b.frame ≠ some 10 ∨ b.ball ≠ some 2) (r : BallRecord) (d : Deck) (x y : Bool) :
    chooseRecipe b r d x = chooseRecipe b r d y := by
  unfold chooseRecipe
  cases hf : b.frame with
  | none => rfl
  | some f =>
    cases hn : b.ball with
    | none => rfl
    | some n =>
      have hne : ¬ (f = 10 ∧ n = 2) := fun ⟨ef, en⟩ => by simp [hf, hn, ef, en] at h
      simp [hne]

theorem recipeOf_eq {b : Binding} (h : b.frame ≠ some 10 ∨ b.ball ≠ some 2) (s : State) (l : Lane) (r : BallRecord) :
    s.recipeOf l b r = chooseRecipe b r (s.pdu.get l).deck false :=
  chooseRecipe_strike h ..

end

/-! ### A recipe handed to a machine (R52, R67) -/

section
variable {s : State} {l : Lane} (kind : RecipeKind) (target : Deck)

theorem handRecipe_inPlay (h : (s.psc.get l).state = .inPlay) :
    s.handRecipe l kind target = s.cycle l ⟨kind, target, .play⟩ := by
  simp [State.handRecipe, h]

theorem handRecipe_taken (h : (s.psc.get l).state = .service) (hs : (s.psc.get l).step = none) (hr : (s.psc.get l).recipe = none) :
    s.handRecipe l kind target = s.takeRecipe l ⟨kind, target, .test⟩ := by
  simp [State.handRecipe, h, hs, hr]

theorem handRecipe_ignored (h : (s.psc.get l).state = .service) (hr : (s.psc.get l).step ≠ none ∨ (s.psc.get l).recipe ≠ none) :
    s.handRecipe l kind target = s.tell .service (.recipeIgnored (s.laneNumber l) kind) := by
  have hb : ((s.psc.get l).step.isSome || (s.psc.get l).recipe.isSome) = true := by
    simpa [Option.isSome_iff_ne_none] using hr
  simp only [State.handRecipe, h, hb, if_true]

theorem handRecipe_none (h : (s.psc.get l).state ≠ .inPlay ∧ (s.psc.get l).state ≠ .service) : s.handRecipe l kind target = s := by
  unfold State.handRecipe
  dsimp only
  split
  · exact absurd ‹_› h.1
  · exact absurd ‹_› h.2
  all_goals rfl

/-- A machine in SERVICE that takes a recipe stays there, and keeps its cause and start timer (R67). -/
theorem takeRecipe_psc (s : State) (l : Lane) (r : Recipe) : (s.takeRecipe l r).psc.get l =
    { (s.psc.get l).takes r (s.psc.get l).state s.settings.stepTimeouts.guardDown with
        cause := (s.psc.get l).cause, startTimer := (s.psc.get l).startTimer } := by
  rcases r with ⟨_ | _ | _, target, origin⟩ <;>
    simp [State.takeRecipe, State.layOut, recipeSteps, State.issue, Pinsetter.takes, seconds, stepTime]

/-- A recipe handed over reaches its machine alone, but for the sessions that the machine's entry to CYCLING may pause. -/
theorem behind_handRecipe (s : State) (l : Lane) : State.behind (s.handRecipe l kind target) =
    { State.behind s with psc := (s.handRecipe l kind target).psc } := by
  by_cases hp : (s.psc.get l).state = .inPlay
  · have e := behind_cycle s l ⟨kind, target, .play⟩ (by simp [hp])
    have hpsc : (s.cycle l ⟨kind, target, .play⟩).psc = _ := (congrArg State.psc e :)
    rw [handRecipe_inPlay kind target hp, e, hpsc]
    rfl
  · by_cases hs : (s.psc.get l).state = .service
    · by_cases hr : (s.psc.get l).step = none ∧ (s.psc.get l).recipe = none
      · rw [handRecipe_taken kind target hs hr.1 hr.2, State.takeRecipe, layOut_eq]
        simp [modPsc_eq, State.behind]
      · rw [handRecipe_ignored kind target hs (by rwa [ne_eq, ne_eq, ← not_and_or])]
        rfl
    · rw [handRecipe_none kind target ⟨hp, hs⟩]
      rfl

end

/-- What is the same behind the links does not ask for the ports. -/
theorem SameInside.ports {t u : State} (h : SameInside t u) (P : PerLink Port) : SameInside t { u with ports := P } :=
  (sameInside_iff_inside t _).mpr ((sameInside_iff_inside t u).mp h)

/-! ### A ball that becomes FINAL (R38, R43, R44) -/

section
variable {s : State} {l : Lane} {b : Binding}

theorem recipeHanded_psc (s : State) (l : Lane) (b : Binding) (r : BallRecord) : (s.recipeHanded l b r).psc =
    ((s.ballIsFinal l r).handRecipe l (s.recipeOf l b r).1 (s.recipeOf l b r).2).psc := by
  unfold State.recipeHanded
  dsimp only
  split <;> rfl

/-- The ball FINAL and its recipe handed over: its PDU, the run need, its machine and its line change, and sessions that the
machine's entry to CYCLING may pause. -/
theorem behind_recipeHanded (s : State) (l : Lane) (b : Binding) (r : BallRecord) :
    let v := s.recipeHanded l b r
    State.behind v = State.behind ({ s with pdu := v.pdu, sensing := v.sensing, psc := v.psc }.withLines (s.placeBall r)) := by
  have hfinal : State.behind (s.ballIsFinal l r) = _ := (congrArg State.behind (inside_ballIsFinal s l r) :)
  have hhand := behind_handRecipe (s.recipeOf l b r).1 (s.recipeOf l b r).2 (s.ballIsFinal l r) l
  rw [hfinal] at hhand
  have made {v : State} {f : Pdu → Pdu} (hv : State.behind v = State.behind
      (((s.ballIsFinal l r).handRecipe l (s.recipeOf l b r).1 (s.recipeOf l b r).2).modPdu l f)) : State.behind v
        = State.behind ({ s with pdu := v.pdu, sensing := v.sensing, psc := v.psc }.withLines (s.placeBall r)) := by
    rw [behind_modPdu, hhand] at hv
    have hpdu : v.pdu = _ := (congrArg State.pdu hv :)
    have hsens : v.sensing = _ := (congrArg State.sensing hv :)
    have hpsc : v.psc = _ := (congrArg State.psc hv :)
    rw [hv, hpdu, hsens, hpsc]
    rfl
  unfold State.recipeHanded
  dsimp only
  split
  · exact made rfl
  · exact made (f := id) (by simp [modPdu_eq])

theorem tell_ports_congr {t u : State} (h : t.ports = u.ports) (k : Link) (n : Notice) : (t.tell k n).ports = (u.tell k n).ports := by
  simp only [State.tell, State.modPort_ports, h]

/-- A ball of no line is published without a mark (R196, log 20). -/
theorem ballIsFinal_lineless_ports {r : BallRecord} (hr : r.line = none) :
    (s.ballIsFinal l r).ports = (s.broadcast (.ballFinal r none)).ports := by
  have hnone (v : State) : v.lineForBall r = none := lineForBall_none (.inl hr)
  have hmark (v : State) : v.markOfBall r = none := by simp [State.markOfBall, hnone]
  have e (v : State) : v.publishFinal l r = ((v.modPdu l fun p => { p with record := some r }).broadcast (.ballFinal r none)).showBall l
      (some r) := by
    simp only [State.publishFinal, State.publish, placeBall_none (hnone _), State.highlightBall, hmark, shines, Bool.false_eq_true,
      if_false]
  rw [State.ballIsFinal, e]
  rfl

section
variable (hb : (s.pdu.get l).binding = some b) (r : BallRecord)
include hb

/-- What follows the ball on its line reaches neither its PDU nor its scans. -/
theorem finalize_advances : (s.finalize l r).pdu = (s.recipeHanded l b r).pdu
    ∧ (s.finalize l r).sensing = (s.recipeHanded l b r).sensing := by
  have h := (Spares.refl (P := AllLanes) (s.recipeHanded l b r)).advanceFor r
  rw [finalize_eq hb]
  exact ⟨h.pdu_eq, h.sensing_eq⟩

theorem finalize_plays : Plays (s.recipeHanded l b r) (s.finalize l r) := by
  rw [finalize_eq hb]
  exact (Plays.refl _).advanceFor r

/-- A ball that becomes FINAL leaves the return, the head and the configuration. -/
theorem finalize_keeps : (s.finalize l r).ret = s.ret ∧ (s.finalize l r).head = s.head ∧ (s.finalize l r).settings = s.settings
    ∧ (s.finalize l r).rates = s.rates ∧ (s.finalize l r).handicap = s.handicap := by
  have hplant : (s.finalize l r).plant = s.plant :=
    (finalize_plays hb r).plant.trans (congrArg State.plant (behind_recipeHanded s l b r) :)
  have hhead : (s.finalize l r).head = s.head := ((Spares.refl s).finalize (P := NoLane) id r).head
  simp only [State.plant, Prod.mk.injEq] at hplant
  obtain ⟨hret, hset, hrates, hhand⟩ := hplant
  exact ⟨hret, hhead, hset, hrates, hhand⟩

/-- The ball is placed on its line before play advances (R96, R97). -/
theorem finalize_places : SameInside (s.recipeHanded l b r) ({ s with
    pdu := (s.finalize l r).pdu, sensing := (s.finalize l r).sensing, psc := (s.recipeHanded l b r).psc
    sessions := (s.recipeHanded l b r).sessions }.withLines (s.placeBall r)) := by
  obtain ⟨hpdu, hsens⟩ := finalize_advances hb r
  rw [hpdu, hsens]
  exact (sameInside_iff_behind _ (State.withLines { s with
    pdu := (s.recipeHanded l b r).pdu, sensing := (s.recipeHanded l b r).sensing, psc := (s.recipeHanded l b r).psc }
      (s.placeBall r))).mpr (behind_recipeHanded s l b r)

/-- A machine that is not in STANDBY keeps through the advance what the recipe made of it. -/
theorem finalize_machine {m : Pinsetter} (hm : ((s.ballIsFinal l r).handRecipe l (s.recipeOf l b r).1 (s.recipeOf l b r).2).psc.get l = m)
    (h : m.state ≠ .standby) : (s.finalize l r).psc.get l = m := by
  rw [← recipeHanded_psc] at hm
  rw [(finalize_plays hb r).psc l (by rwa [hm]), hm]

/-- In IN_PLAY the machine takes the recipe with origin PLAY (R52). -/
theorem finalize_inPlay (h : (s.psc.get l).state = .inPlay) : (s.finalize l r).psc.get l =
    (s.psc.get l).takes ⟨(s.recipeOf l b r).1, (s.recipeOf l b r).2, .play⟩ .cycling s.settings.stepTimeouts.guardDown := by
  refine finalize_machine hb r ?_ (by simp [Pinsetter.takes])
  have ht : ((s.ballIsFinal l r).psc.get l).state = .inPlay := by rw [ballIsFinal_psc, h]
  rw [handRecipe_inPlay _ _ ht]
  refine (congrArg (fun v => v.psc.get l) (behind_cycle (s.ballIsFinal l r) l _ (by simp [ht]))).trans ?_
  simp [ballIsFinal_psc, ballIsFinal_settings]

/-- In SERVICE, with no step and no recipe in hand, it takes it with origin TEST (R67). -/
theorem finalize_taken (h : (s.psc.get l).state = .service) (hs : (s.psc.get l).step = none) (hr : (s.psc.get l).recipe = none) :
    (s.finalize l r).psc.get l = { (s.psc.get l).takes ⟨(s.recipeOf l b r).1, (s.recipeOf l b r).2, .test⟩ .service
      s.settings.stepTimeouts.guardDown with cause := (s.psc.get l).cause, startTimer := (s.psc.get l).startTimer } := by
  refine finalize_machine hb r ?_ (by simp [Pinsetter.takes])
  rw [handRecipe_taken _ _ (by rw [ballIsFinal_psc, h]) (by rw [ballIsFinal_psc, hs]) (by rw [ballIsFinal_psc, hr]), takeRecipe_psc,
    ballIsFinal_psc, ballIsFinal_settings, h]

/-- In SERVICE with a step or a recipe in hand it ignores it (R67). -/
theorem finalize_ignored (h : (s.psc.get l).state = .service) (hr : (s.psc.get l).step ≠ none ∨ (s.psc.get l).recipe ≠ none) :
    (s.finalize l r).psc.get l = s.psc.get l := by
  refine finalize_machine hb r ?_ (by simp [h])
  rw [handRecipe_ignored _ _ (by rw [ballIsFinal_psc, h]) (by rwa [ballIsFinal_psc]), State.tell_psc, ballIsFinal_psc]

/-! ### A ball of no line (R44, R96) -/

/-- Nothing follows a ball of no line. -/
theorem finalize_lineless (hr : r.line = none) : s.finalize l r = s.recipeHanded l b r := by
  rw [finalize_eq hb]
  simp only [State.advanceFor, lineForBall_none (.inl hr)]

theorem finalize_lineless_sameInside (hr : r.line = none) : SameInside (s.finalize l r) { s with
    pdu := (s.finalize l r).pdu, sensing := (s.finalize l r).sensing, psc := (s.finalize l r).psc
    sessions := (s.finalize l r).sessions } := by
  have h := finalize_places hb r
  rwa [placeBall_none (lineForBall_none (.inl hr)), ← finalize_lineless hb r hr] at h

theorem finalize_ignored_ports (h : (s.psc.get l).state = .service) (hr : (s.psc.get l).step ≠ none ∨ (s.psc.get l).recipe ≠ none)
    (hline : r.line = none) : (s.finalize l r).ports =
      ((s.broadcast (.ballFinal r none)).tell .service (.recipeIgnored (s.laneNumber l) (s.recipeOf l b r).1)).ports := by
  have hnumber : (s.ballIsFinal l r).laneNumber l = s.laneNumber l := by simp only [State.laneNumber, ballIsFinal_settings]
  have hports : (s.recipeHanded l b r).ports
      = ((s.ballIsFinal l r).handRecipe l (s.recipeOf l b r).1 (s.recipeOf l b r).2).ports := by
    unfold State.recipeHanded
    dsimp only
    split <;> rfl
  rw [finalize_lineless hb r hline, hports, handRecipe_ignored _ _ (by rw [ballIsFinal_psc, h]) (by rwa [ballIsFinal_psc]), hnumber]
  exact tell_ports_congr (ballIsFinal_lineless_ports hline) _ _

end
end

/-! ### manual-ball (R43) -/

section
variable {s : State} {l : Lane} {lane count : Nat} (foul : Bool) (hl : laneOf lane = some l)
include hl

theorem handleManualBall_accepted {b : Binding} (h : (s.pdu.get l).run = .awaitingEntry) (hb : (s.pdu.get l).binding = some b)
    (hc : count ≤ (s.pdu.get l).deck.count) : handleManualBall lane count foul s
      = (s.finalize l (manualRecord l b (s.pdu.get l).upAtArming (s.pdu.get l).foulFlag count foul), .ok []) := by
  simp only [handleManualBall, hl, h, hb, if_neg (Nat.not_lt.mpr hc), accept]

theorem handleManualBall_above (h : (s.pdu.get l).run = .awaitingEntry) (hb : (s.pdu.get l).binding ≠ none)
    (hc : (s.pdu.get l).deck.count < count) : handleManualBall lane count foul s = refuse .range s := by
  obtain ⟨b, hb⟩ := Option.ne_none_iff_exists'.mp hb
  simp only [handleManualBall, hl, h, hb, if_pos hc]

theorem handleManualBall_none (h : (s.pdu.get l).run ≠ .awaitingEntry) : handleManualBall lane count foul s = refuse .state s := by
  simp only [handleManualBall, hl]
  split
  · exact absurd ‹_› h
  · rfl

end

/-- Settles O47: a FINAL ball by what it publishes, hands over and advances; a ball on its line by the line that is
computed again. -/
theorem ballsBecomeFinal : Obligations.BallsBecomeFinal := by
  unfold Obligations.BallsBecomeFinal
  refine ⟨fun l s => ?final, fun s b => ⟨fun h => ?none, ?lines⟩⟩
  case none => exact ⟨placeBall_none (lineForBall_none h), removeBall_none (lineForBall_none h)⟩
  case lines =>
    intro i l f n hb hl hg hf hn h1
    have hfor := lineForBall_some hb hl hg
    rw [placeBall_some hfor hf hn, removeBall_some hfor hf hn]
    exact ⟨fun h => changeLine_reframes hl (placeBall_new h b n), fun h => changeLine_reframes hl (placeBall_old h b h1),
      changeLine_reframes hl rfl⟩
  case final =>
    intro p x final
    have finals (P : PerLink Port) {b : Binding} (r : BallRecord) (hb : p.binding = some b) :
        final { s with ports := P } ({ s with ports := P }.finalize l r) b r := by
      let t : State := { s with ports := P }
      have hpdu : (t.finalize l r).pdu = t.pdu.set l (p.finalized b r) := (finalize_reach (s := t) hb r).2
      have hrecipe (h : b.frame ≠ some 10 ∨ b.ball ≠ some 2) : t.recipeOf l b r = chooseRecipe b r p.deck false := recipeOf_eq h t l r
      obtain ⟨hret, hhead, hset, hrates, hhand⟩ := finalize_keeps (s := t) hb r
      refine ⟨hpdu, (finalize_reach (s := t) hb r).1, fun h hne => ?_,
        fun h hne => ⟨fun hs hm => ?_, fun hm => ⟨?_, fun hline => ?_⟩⟩,
        hret, hhead, hset, hrates, hhand, ⟨t.recipeHanded l b r, finalize_eq (s := t) hb r, ?_⟩, fun hline => ?_⟩
      · exact hrecipe hne ▸ finalize_inPlay (s := t) hb r h
      · exact hrecipe hne ▸ finalize_taken (s := t) hb r h hs hm
      · exact finalize_ignored (s := t) hb r h hm
      · exact hrecipe hne ▸ finalize_ignored_ports (s := t) hb r h hm hline
      · have hp := finalize_places (s := t) hb r
        rw [placeBall_congr (s := s) (t := t) rfl rfl rfl rfl] at hp
        exact hp.ports s.ports
      · exact (finalize_lineless_sameInside (s := t) hb r hline).ports s.ports
    refine ⟨fun ht h b r hb hr => ⟨_, exec_cycleDelayExpiry (cycleExpires_settled hr h ht), finals s.ports _ hb⟩,
      fun h => exec_cycleDelayExpiry (cycleExpires_stopped h), ?manual⟩
    intro k tag lane count foul hi hk hl q
    have ha : admits k q.kind = true := by rcases hk with rfl | rfl <;> rfl
    let v := s.queuedUp k tag q
    refine ⟨fun b h hb hc => State.serves_with' (r := q) rfl hi ha (by nofun) (by nofun)
      ⟨_, handleManualBall_accepted (s := v) foul hl h hb hc, finals v.ports _ hb⟩, fun h hb hc => ?_, fun h => ?_⟩
    · exact request_refused rfl hi ha (by nofun) (handleManualBall_above (s := v) foul hl h hb hc)
    · exact request_refused rfl hi ha (by nofun) (handleManualBall_none (s := v) foul hl h)

end Sys2Proof.Machine
end

section
/-! Pinsetter control (chapter 3): the failures of a step and stray completions. -/
namespace Sys2Proof.Machine

/-! ### A change of machine state (R48) -/

section
variable (s : State) (l : Lane)

theorem leaveService_psc : (s.leaveService l).psc = s.psc := by
  unfold State.leaveService
  dsimp only
  split <;> rfl

theorem opens_psc : (s.opens l).psc = s.psc := (congrArg State.psc (behind_opens s l) :)

theorem pauseEval_psc : (s.pauseEval l).psc = s.psc := (congrArg State.psc (behind_pauseEval s l) :)

/-- What a change of machine state makes due reaches no machine. -/
theorem machineChanged_psc (before : MachineState) (classes : Option (List PointClass)) :
    (s.machineChanged l before classes).psc = s.psc := by
  unfold State.machineChanged
  dsimp only
  rw [State.bannerEval, State.modFeed_psc, pauseEval_psc, opens_psc]
  split
  · rw [leaveService_psc, State.markFeed_psc, State.broadcast_psc]
  · rw [State.markFeed_psc, State.broadcast_psc]

/-- A machine that enters a state, SERVICE left or not (R48). -/
theorem setMachine_psc (state : MachineState) (cause : Option FaultCause) (classes : Option (List PointClass)) :
    (s.setMachine l state cause classes).psc = s.psc.set l ((s.psc.get l).enter state cause) := by
  unfold State.setMachine
  dsimp only
  split
  · rfl
  · rw [machineChanged_psc]
    rfl

end

/-! ### A step that fails (R54, R55, R66) -/

section
variable {s : State} {l : Lane} {k : StepKind}

/-- A machine whose step has failed: the recipe is emptied and the pit hold is off. -/
def Pinsetter.stepFailed (p : Pinsetter) : Pinsetter :=
  { p with step := none, queue := [], remainder := none, recipe := none, stepTimer := none, pitHold := false }

/-- A machine in FAULT after a step (R55). -/
def Pinsetter.faulted (p : Pinsetter) (cause : FaultCause) : Pinsetter :=
  { p.stepFailed with state := .fault, cause := some cause, closingOwed := false, windingDown := false, startTimer := none }

/-- The state with a machine's step failed and its hold told to the return. -/
def State.stepFailed (s : State) (l : Lane) : State :=
  { s with psc := s.psc.set l (s.psc.get l).stepFailed, ret := { s.ret with holds := s.ret.holds.set l false } }

theorem setHold_emptied : (s.modPsc l Pinsetter.emptied).setHold l false = s.stepFailed l := by
  simp [State.setHold, modPsc_eq, modReturn_eq, State.stepFailed, Pinsetter.emptied, Pinsetter.stepFailed]

/-- In SERVICE a failed step ends, with its cause told (R66). -/
theorem machineFails_service (h : (s.psc.get l).state = .service) (cause : FaultCause) :
    s.machineFails l k cause = (s.stepFailed l).tell .service (.stepResult (s.laneNumber l) k (some cause)) := by
  rw [State.machineFails, setHold_emptied, if_pos h]
  rfl

/-- In play a failed step leads to FAULT (R55). -/
theorem behind_machineFails (h : (s.psc.get l).state ≠ .service) (cause : FaultCause) :
    State.behind (s.machineFails l k cause) = State.behind
      { s with psc := s.psc.set l ((s.psc.get l).faulted cause), ret := { s.ret with holds := s.ret.holds.set l false } } := by
  have hs : (((s.stepFailed l).modPsc l fun p => { p with closingOwed := false, windingDown := false }).psc.get l).state ≠ .service := by
    simpa [State.stepFailed, Pinsetter.stepFailed] using h
  rw [State.machineFails, setHold_emptied, if_neg h, behind_setMachine _ _ _ _ _ hs]
  simp [State.stepFailed, Pinsetter.faulted, Pinsetter.stepFailed, Pinsetter.enter, modPsc_eq, State.behind]

theorem machineFails_ret (cause : FaultCause) :
    (s.machineFails l k cause).ret = { s.ret with holds := s.ret.holds.set l false } := by
  by_cases h : (s.psc.get l).state = .service
  · rw [machineFails_service h]
    rfl
  · exact (congrArg State.ret (behind_machineFails (k := k) h cause) :)

theorem machineFails_step (cause : FaultCause) : ((s.machineFails l k cause).psc.get l).step = none := by
  by_cases h : (s.psc.get l).state = .service
  · rw [machineFails_service h]
    simp [State.stepFailed, Pinsetter.stepFailed]
  · have e : (s.machineFails l k cause).psc = _ := (congrArg State.psc (behind_machineFails (k := k) h cause) :)
    simp [e, Pinsetter.faulted, Pinsetter.stepFailed]

/-- The failure of an executing step makes all of an event due. -/
theorem finishStep_machineFails (hk : (s.psc.get l).step = some k) (cause : FaultCause) :
    (s.machineFails l k cause).finishStep s l = (s.machineFails l k cause).finish := by
  simp [State.finishStep, hk, machineFails_step]

theorem exec_redo {u : State} (h : s.completeRedo l = u) : exec (.redo l) s = .next (u.finishStep s l).pump := by
  subst h
  rfl

theorem exec_faultCompletion {u : State} {cause : CompletionFault} (h : s.completeFault l (causeOf cause) = u) :
    exec (.faultCompletion l cause) s = .next (u.finishStep s l).pump := by
  subst h
  rfl

theorem exec_stepTimerExpiry {u : State} (h : s.stepExpires l = u) :
    exec (.stepTimerExpiry l) s = .next (u.finishStep s l).pump := by
  subst h
  rfl

/-- A completion with no step executing is stray (R56). -/
theorem completes_stray (h : (s.psc.get l).step = none) : s.completeDone l = s.stray l ∧ s.completeRedo l = s.stray l
    ∧ ∀ cause, s.completeFault l cause = s.stray l := by
  simp [State.completeDone, State.completeRedo, State.completeFault, h]

/-- A stray completion is counted, and makes nothing due (R56). -/
theorem exec_stray (h : (s.psc.get l).step = none) {c : Instr}
    (hc : c = .done l ∨ c = .redo l ∨ ∃ cause, c = .faultCompletion l cause) : exec c s = .next (s.stray l).pump := by
  obtain ⟨done, redo, fault⟩ := completes_stray h
  have hdone : (s.stray l).finishDone s l = s.stray l := by simp [State.finishDone, h]
  have hstep : (s.stray l).finishStep s l = s.stray l := by simp [State.finishStep, h]
  rcases hc with rfl | rfl | ⟨cause, rfl⟩
  · exact congrArg (fun u : State => Host.Outcome.next u.pump) (by rw [done, hdone])
  · rw [exec_redo redo, hstep]
  · rw [exec_faultCompletion (fault _), hstep]

/-- A REDO within its limit restarts the step (R54). -/
theorem completeRedo_again (hk : (s.psc.get l).step = some k) (h : (s.psc.get l).redo < 3) :
    s.completeRedo l = { s with psc := s.psc.set l { s.psc.get l with
      redo := (s.psc.get l).redo + 1, stepTimer := some (100 * stepTime s.settings.stepTimeouts k) } } := by
  simp [State.completeRedo, hk, h, modPsc_eq, seconds]

theorem completeRedo_fails (hk : (s.psc.get l).step = some k) (h : 3 ≤ (s.psc.get l).redo) :
    s.completeRedo l = s.machineFails l k .redoLimit := by
  simp [State.completeRedo, hk, Nat.not_lt.mpr h]

theorem completeFault_fails (hk : (s.psc.get l).step = some k) (cause : FaultCause) :
    s.completeFault l cause = s.machineFails l k cause := by
  simp [State.completeFault, hk]

theorem stepExpires_fails (hk : (s.psc.get l).step = some k) (h : (s.psc.get l).stepTimer ≠ none) :
    s.stepExpires l = s.machineFails l k .timeout := by
  simp [State.stepExpires, hk, Option.isSome_iff_ne_none.mpr h]

end

/-- Settles O50: each failure is that of `machineFails`, and each stray completion that of `stray`. -/
theorem stepsFail : Obligations.StepsFail := by
  unfold Obligations.StepsFail
  refine ⟨fun l k s hk => ?_, fun l c s h hc => ⟨_, exec_stray h hc, fun j => ?_, ?_⟩⟩
  · intro p fails
    have failed {c : Instr} {cause : FaultCause}
        (h : exec c s = .next ((s.machineFails l k cause).finishStep s l).pump) : fails c cause := by
      rw [finishStep_machineFails hk] at h
      have hret := machineFails_ret (s := s) (l := l) (k := k) cause
      refine ⟨_, h, hret, fun hs => ?_, fun hs => ?_⟩
      · rw [hret]
        exact machineFails_service hs cause
      · rw [hret]
        exact (sameInside_iff_behind _ _).mpr (behind_machineFails hs cause)
    have fault (cause : CompletionFault) : fails (.faultCompletion l cause) (causeOf cause) :=
      failed (exec_faultCompletion (completeFault_fails hk _))
    refine ⟨fun h => ?_, fun h => failed (exec_redo (completeRedo_fails hk h)), fault .jam, fault .motor, fault .table, fault .guard,
      fun h => failed (exec_stepTimerExpiry (stepExpires_fails hk h))⟩
    have again := completeRedo_again hk h
    refine ⟨_, exec_redo again, ?_⟩
    rw [← again, State.finishStep, if_neg (by simp [again, hk]), again]
    rfl
  · cases j <;> rfl
  · rw [← satInc_eq_min]
    rfl

end Sys2Proof.Machine
end

section
/-! Pinsetter control (chapter 3): re-rack and issue-step. -/
namespace Sys2Proof.Machine

/-- A recipe taken into play reaches its machine, and sessions that the machine's entry to CYCLING may pause (R51, R52). -/
theorem cycle_sameInside (s : State) (l : Lane) (r : Recipe) (h : (s.psc.get l).state ≠ .service) :
    SameInside (s.cycle l r) { s with
      psc := s.psc.set l ((s.psc.get l).takes r .cycling s.settings.stepTimeouts.guardDown), sessions := (s.cycle l r).sessions } :=
  (sameInside_iff_behind _ { s with psc := _ }).mpr (behind_cycle s l r h)

/-- A request that makes nothing due leaves its own effect, but for the link ports. -/
theorem answered_withPorts {u : State} {r : Request} (hf : finishRequest r u = u) (k : Link) (tag : Tag) (a : Answer)
    (P : PerLink Port) : { u.answered k tag r a with ports := P } = { u with ports := P } := by
  rw [State.answered, hf]
  rfl

section
variable {s : State} {l : Lane} {lane step : Nat} {k : StepKind} (hl : laneOf lane = some l)
include hl

/-! ### re-rack (R63) -/

theorem handleReRack_ready (h : (s.psc.get l).state = .ready) :
    handleReRack lane s = (s.cycle l { kind := .rerack, target := (s.pdu.get l).deck, origin := .rerack }, .ok []) := by
  simp only [handleReRack, hl, h, if_true, accept]

theorem handleReRack_refused (h : (s.psc.get l).state ≠ .ready) : handleReRack lane s = refuse .state s := by
  simp only [handleReRack, hl, if_neg h]

/-! ### issue-step (R65) -/

variable (hk : stepOf step = some k)
include hk

theorem handleIssueStep_elsewhere (h : (s.psc.get l).state ≠ .service) : handleIssueStep lane step s = refuse .state s := by
  simp only [handleIssueStep, hl, hk, if_pos h]

variable (hs : (s.psc.get l).state = .service)
include hs

/-- In SERVICE with a step or a recipe in hand the request is refused. -/
theorem handleIssueStep_busy (h : (s.psc.get l).step ≠ none ∨ (s.psc.get l).recipe ≠ none) :
    handleIssueStep lane step s = refuse .busy s := by
  have hb : ((s.psc.get l).step.isSome || (s.psc.get l).recipe.isSome) = true := by
    simpa [Option.isSome_iff_ne_none] using h
  simp only [handleIssueStep, hl, hk, hs, ne_eq, not_true, if_false, hb, if_true]

/-- In SERVICE with nothing in hand the step is issued, but for a SWEEP before a full pit (R57). -/
theorem handleIssueStep_free (h : (s.psc.get l).step = none) (hr : (s.psc.get l).recipe = none) :
    handleIssueStep lane step s
      = if k = .sweep ∧ 2 ≤ (s.ret.pits.get l).length then refuse .state s else accept (s.issue l k) := by
  simp [handleIssueStep, hl, hk, hs, h, hr, State.pitFull]

end

/-- Settles O51: both requests by the branches of their handlers. -/
theorem stepsByRequest : Obligations.StepsByRequest := by
  unfold Obligations.StepsByRequest
  intro tag lane l s hl p
  refine ⟨fun k hi hk => ⟨fun h => ?rerack, fun h => ?refused⟩, fun step k hi hk => ?issue⟩
  case rerack =>
    have ha : admits k (Request.reRack lane).kind = true := by rcases hk with rfl | rfl <;> rfl
    let v := s.queuedUp k tag (.reRack lane)
    have hn : (v.psc.get l).state ≠ .service := fun e => by cases h.symm.trans e
    refine State.serves_with' rfl hi ha (by nofun) (by nofun) ⟨_, handleReRack_ready (s := v) hl h, ?_⟩
    exact (cycle_sameInside v l _ hn).ports s.ports
  case refused =>
    have ha : admits k (Request.reRack lane).kind = true := by rcases hk with rfl | rfl <;> rfl
    exact request_refused rfl hi ha (by nofun) (handleReRack_refused (s := s.queuedUp k tag _) hl h)
  case issue =>
    intro q refused full
    let v := s.queuedUp .service tag q
    have answered {u : State} {a : Answer} (h : handle .service q v = (u, a)) (hu : u.ports = v.ports) :
        ∃ t, exec (.issueStep .service tag lane step) s = .next t ∧ Replied t .service tag q a ∧ OthersIdle s t .service
          ∧ { t with ports := s.ports } = { u with ports := s.ports } := by
      obtain ⟨he, hrep⟩ := State.served (i := .issueStep .service tag lane step) rfl hi rfl (by nofun) (by nofun) h
      exact ⟨_, he, hrep, State.others_of_same tag q a hu, answered_withPorts rfl .service tag a s.ports⟩
    have refuses {c : Code} (h : handle .service q v = refuse c v) : refused c := answered (u := v) h rfl
    have free (hs : p.state = .service) := handleIssueStep_free (s := v) hl hk hs
    refine ⟨fun hs => refuses (handleIssueStep_elsewhere (s := v) hl hk hs),
      fun hs h => refuses (handleIssueStep_busy (s := v) hl hk hs h),
      fun hs h hr hf => refuses ((free hs h hr).trans (if_pos hf)), fun hs h hr hf => ?_⟩
    exact answered ((free hs h hr).trans (if_neg hf)) rfl

end Sys2Proof.Machine
end

section
/-! Pinsetter control (chapter 3): machines that leave SERVICE, and the entry to CHECKING. -/
namespace Sys2Proof.Machine

/-! ### A machine that leaves SERVICE (R19, R21, R44) -/

section
variable {s : State} {l : Lane}

theorem behind_leaveService : State.behind (s.leaveService l) = (State.behind s).leaveService l :=
  apply_ite State.behind _ _ _

/-- What leaving SERVICE makes of the lane: CONTINUOUS and the injection end; the sensing fault and the scoring source stay. -/
theorem leaveService_lane : ((s.leaveService l).sensing.get l).runMode = .normal ∧ ((s.leaveService l).sensing.get l).injection = none
    ∧ ((s.leaveService l).sensing.get l).fault = (s.sensing.get l).fault
    ∧ ((s.leaveService l).pdu.get l).source = (s.pdu.get l).source := by
  unfold State.leaveService State.endContinuous State.dropRunNeed
  dsimp only
  split <;> simp [Pdu.dropped]

theorem behind_setMachine_leaves (h : (s.psc.get l).state = .service) {state : MachineState} (hs : state ≠ .service)
    (cause : Option FaultCause) (classes : Option (List PointClass)) :
    State.behind (s.setMachine l state cause classes) = ((State.behind s).modPsc l fun p => p.enter state cause).leaveService l := by
  have hne : (s.psc.get l).state ≠ state := fun e => hs (e.symm.trans h)
  unfold State.setMachine
  dsimp only
  rw [if_neg hne]
  simp [State.machineChanged, h, behind_leaveService]

end

/-! ### The entry to CHECKING (R60) -/

section
variable {s : State} {l : Lane} {r : Recipe}

/-- The machine in CHECKING with its attempt counted. -/
def State.checks (s : State) (l : Lane) : State :=
  (s.modPsc l fun p => { p with attempts := p.attempts + 1 }).setMachine l .checking

/-- A machine in CHECKING after its last step. -/
def Pinsetter.checks (p : Pinsetter) : Pinsetter :=
  { p with state := .checking, cause := none, startTimer := none, stepTimer := none, attempts := p.attempts + 1 }

/-- A check need raised: a scan in flight does not serve it (R8). -/
def SensingLane.checks (x : SensingLane) (pins : Pins) : SensingLane :=
  { x with needs := { x.needs with check := some pins }, scan := x.scan.map fun f => { f with checkPresent := false } }

theorem checks_psc : (s.checks l).psc = s.psc.set l (s.psc.get l).checks := by
  rw [State.checks, setMachine_psc]
  simp [Pinsetter.enter, Pinsetter.checks]

theorem behind_checks (h : (s.psc.get l).state ≠ .service) :
    State.behind (s.checks l) = (State.behind s).modPsc l Pinsetter.checks := by
  rw [State.checks, behind_setMachine _ _ _ _ _ (by simpa using h), behind_modPsc, modPsc_comp]
  rfl

section
variable (hr : (s.psc.get l).recipe = some r)
include hr

theorem checks_recipe : ((s.checks l).psc.get l).recipe = some r := by simp [checks_psc, Pinsetter.checks, hr]

/-- The check need of a known target is raised under AUTO without a sensing fault. -/
theorem enterChecking_raises {pins : Pins} (ht : r.target = .known pins) (hs : ((s.checks l).pdu.get l).source = .auto)
    (hf : ((s.checks l).sensing.get l).fault = false) :
    s.enterChecking l = (s.checks l).modSensing l fun x => x.checks pins := by
  unfold State.enterChecking
  rw [← State.checks]
  simp [checks_recipe hr, ht, hs, State.raiseCheck, hf, SensingLane.checks]

/-- Under MANUAL, and with an UNKNOWN target, the cycle ends without a check. -/
theorem enterChecking_skips (h : ((s.checks l).pdu.get l).source = .manual ∨ r.target.set? = none) :
    s.enterChecking l = (s.checks l).cycleEnd l := by
  unfold State.enterChecking
  rw [← State.checks]
  simp only [checks_recipe hr]
  cases ht : r.target with
  | unknown n => rfl
  | known pins => exact if_pos (h.resolve_right (by simp [ht, Deck.set?]))

/-- With a sensing fault the check need is answered NO_READING at once (R16). -/
theorem enterChecking_faulted {pins : Pins} (ht : r.target = .known pins) (hs : ((s.checks l).pdu.get l).source = .auto)
    (hf : ((s.checks l).sensing.get l).fault = true) : s.enterChecking l = (s.checks l).checkAnswer l .noReading [] := by
  unfold State.enterChecking
  rw [← State.checks]
  simp [checks_recipe hr, ht, hs, State.raiseCheck, hf]

end
end

end Sys2Proof.Machine
end

section
/-! Pinsetter control (chapter 3): the service stop, the clear of a fault, and the resume. -/
namespace Sys2Proof.Machine

/-! ### The service stop and the clear of a fault (R41, R64, R68) -/

section
variable {s : State} {l : Lane}

/-- A PDU after a service stop: its run is dropped, and its deck is UNKNOWN with its count. -/
def Pdu.stopped (p : Pdu) : Pdu :=
  if p.run = .idle then { p with deck := p.deck.forget } else { p.dropped with deck := p.deck.forget }

/-- The scans of a lane whose run, that of `p`, is dropped. -/
def SensingLane.stopped (x : SensingLane) (p : Pdu) : SensingLane :=
  if p.run = .idle then x else { x with needs := { x.needs with run := false } }

/-- The state with the provisional record of a lane, if it has one, removed from its line (R41, R96). -/
def State.discards (s : State) (l : Lane) : State :=
  if (s.pdu.get l).run = .settled ∧ (s.pdu.get l).testing = false then ((s.pdu.get l).record.map s.removeBall).getD s else s

theorem discards_none (h : (s.pdu.get l).run ≠ .settled ∨ (s.pdu.get l).testing = true) : s.discards l = s :=
  if_neg fun ⟨hr, ht⟩ => h.elim (absurd hr) (by simp [ht])

theorem discards_some (h : (s.pdu.get l).run = .settled) (ht : (s.pdu.get l).testing = false) {r : BallRecord}
    (hr : (s.pdu.get l).record = some r) : s.discards l = s.removeBall r := by
  simp [State.discards, h, ht, hr]

/-- The removal of a ball reads and changes lines and totals alone. -/
theorem removeBall_congr {s t : State} (hl : t.lines = s.lines) (hg : t.groups = s.groups) (hh : t.handicap = s.handicap)
    (hd : t.dirty = s.dirty) (b : BallRecord) : t.removeBall b = t.withLines (s.removeBall b) := by
  have hfor : t.lineForBall b = s.lineForBall b := by
    unfold State.lineForBall State.line
    rw [hl, hg]
  unfold State.removeBall
  rw [hfor]
  split
  · exact changeLine_congr hl hg hh hd _ _
  · simp only [State.withLines, ← hl, ← hg, ← hd]

theorem removeBall_self (s : State) (b : BallRecord) : s.removeBall b = s.withLines (s.removeBall b) :=
  removeBall_congr rfl rfl rfl rfl b

/-- A run dropped changes the PDU and the run need of its lane. -/
theorem dropRun_stops (s : State) (l : Lane) : (s.dropRun l).modPdu l (fun p => { p with deck := p.deck.forget }) =
    { s with pdu := s.pdu.set l (s.pdu.get l).stopped, sensing := s.sensing.set l ((s.sensing.get l).stopped (s.pdu.get l)) } := by
  unfold State.dropRun
  split
  · rename_i h
    simp [Pdu.stopped, SensingLane.stopped, h, modPdu_eq]
  · rename_i h
    simp [Pdu.stopped, SensingLane.stopped, h, State.dropRunNeed, modPdu_eq, modSensing_eq, Pdu.dropped]

/-- A service stop discards a provisional record, but for a test ball's, before it drops the run (R41). -/
theorem stopRun_cases (s : State) (l : Lane) : (s.stopRun l = s.dropRun l ∧ s.discards l = s) ∨
    ∃ r n, s.stopRun l = (((s.removeBall r).broadcast n).showBall l none).dropRun l ∧ s.discards l = s.removeBall r := by
  by_cases h : (s.pdu.get l).run = .settled ∧ (s.pdu.get l).testing = false
  · obtain ⟨hrun, ht⟩ := h
    cases hr : (s.pdu.get l).record with
    | none => exact .inl (by simp [State.stopRun, State.discards, hrun, hr])
    | some r => exact .inr ⟨r, .ballDiscarded r.line r.frame r.ball, by simp [State.stopRun, hrun, hr, ht], discards_some hrun ht hr⟩
  · refine .inl ⟨?_, if_neg h⟩
    unfold State.stopRun
    dsimp only
    split
    · rename_i hrun _
      exact if_pos (by simpa [hrun] using h)
    · rfl

/-- A service stop of a PDU: the lines and totals are those without the record that it discards. -/
theorem inside_stopDeck (s : State) (l : Lane) : State.inside (s.stopDeck l) = State.inside ({ s with
    pdu := s.pdu.set l (s.pdu.get l).stopped
    sensing := s.sensing.set l ((s.sensing.get l).stopped (s.pdu.get l)) }.withLines (s.discards l)) := by
  unfold State.stopDeck
  rcases stopRun_cases s l with ⟨hrun, hlines⟩ | ⟨r, n, hrun, hlines⟩
  · rw [hrun, hlines, dropRun_stops]
  · rw [hrun, hlines, dropRun_stops, removeBall_self]
    simp [State.inside, State.showBall]

/-- What is discarded reads the PDUs, and reads and changes lines and totals alone. -/
theorem discards_congr {s t : State} (hl : t.lines = s.lines) (hg : t.groups = s.groups) (hh : t.handicap = s.handicap)
    (hd : t.dirty = s.dirty) (hp : t.pdu = s.pdu) (l : Lane) : t.discards l = t.withLines (s.discards l) := by
  have same : t = t.withLines s := by simp only [State.withLines, ← hl, ← hg, ← hd]
  unfold State.discards
  rw [hp]
  split
  · cases (s.pdu.get l).record with
    | none => exact same
    | some r => exact removeBall_congr hl hg hh hd r
  · exact same

/-- A machine after a service stop (R64). -/
def Pinsetter.stopped (p : Pinsetter) : Pinsetter :=
  { p with
    state := .service, cause := none, recipe := none, step := none, queue := [], remainder := none, attempts := 0
    closingOwed := false, windingDown := false, pitHold := false, startTimer := none, stepTimer := none }

/-- The state with a machine stopped, its run dropped and its check need withdrawn; the return is told its hold. -/
def State.stopped (s : State) (l : Lane) : State :=
  { s with
    psc := s.psc.set l (s.psc.get l).stopped, ret := { s.ret with holds := s.ret.holds.set l false }
    pdu := s.pdu.set l (s.pdu.get l).stopped
    sensing := s.sensing.set l
      ({ s.sensing.get l with needs := { (s.sensing.get l).needs with check := none } }.stopped (s.pdu.get l)) }.withLines
        (s.discards l)

theorem behind_serviceStop (h : (s.psc.get l).state ≠ .service) : State.behind (s.serviceStop l) = State.behind (s.stopped l) := by
  let t := ((s.modPsc l fun p => { p.emptied with
    attempts := 0, closingOwed := false, windingDown := false, startTimer := none }).setHold l false).withdrawCheck l
  have hstop := inside_stopDeck t l
  have hpsc : (t.stopDeck l).psc = t.psc := (congrArg State.psc hstop :)
  have hs : ((t.stopDeck l).psc.get l).state ≠ .service := by
    rw [hpsc]
    simpa [t, State.setHold, State.withdrawCheck, Pinsetter.emptied] using h
  rw [State.serviceStop, behind_setMachine _ _ _ _ _ hs, behind_of_inside hstop,
    discards_congr (s := s) (t := t) rfl rfl rfl rfl rfl l]
  simp [t, State.setHold, State.withdrawCheck, Pinsetter.emptied, State.stopped, Pinsetter.stopped, Pinsetter.enter, modPsc_eq,
    modReturn_eq, modSensing_eq, State.behind]

/-- A fault cleared (R68). -/
theorem behind_clearFault (h : (s.psc.get l).state = .fault) : State.behind ((s.stopDeck l).setMachine l .service) =
    State.behind ({ s with
      psc := s.psc.set l { s.psc.get l with state := .service, cause := none, startTimer := none }
      pdu := s.pdu.set l (s.pdu.get l).stopped
      sensing := s.sensing.set l ((s.sensing.get l).stopped (s.pdu.get l)) }.withLines (s.discards l)) := by
  have hstop := inside_stopDeck s l
  have hpsc : (s.stopDeck l).psc = s.psc := (congrArg State.psc hstop :)
  rw [behind_setMachine _ _ _ _ _ (by simp [hpsc, h]), behind_of_inside hstop]
  simp [Pinsetter.enter, modPsc_eq, State.behind]

theorem Pdu.stopped_run (p : Pdu) : p.stopped.run = .idle ∧ p.stopped.deck = .unknown p.deck.count
    ∧ (p.run ≠ .idle → p.stopped.binding = none) := by
  unfold Pdu.stopped
  split
  · exact ⟨‹_›, rfl, fun h => absurd ‹_› h⟩
  · exact ⟨rfl, rfl, fun _ => rfl⟩

theorem SensingLane.stopped_needs (x : SensingLane) (p : Pdu) : (x.stopped p).needs.check = x.needs.check
    ∧ (p.run ≠ .idle → (x.stopped p).needs.run = false) := by
  unfold SensingLane.stopped
  split
  · exact ⟨rfl, fun h => absurd ‹_› h⟩
  · exact ⟨rfl, fun _ => rfl⟩

end

/-- A recipe taken into play, from SERVICE or out of it (R51, R52, R69). -/
theorem cycle_psc (s : State) (l : Lane) (r : Recipe) : (s.cycle l r).psc
    = s.psc.set l ((s.psc.get l).takes r .cycling s.settings.stepTimeouts.guardDown) := by
  rw [State.cycle, setMachine_psc, State.takeRecipe, layOut_enter, layOut_eq]
  simp [Pinsetter.takes]

/-! ### The requests of the mechanic (R64, R68, R69) -/

section
variable {s : State} {l : Lane} {lane : Nat} (hl : laneOf lane = some l)
include hl

theorem handleStopMachine_refused (h : (s.psc.get l).state = .off ∨ (s.psc.get l).state = .fault) :
    handleStopMachine lane s = refuse .state s := by
  rcases h with h | h <;> simp only [handleStopMachine, hl, h]

theorem handleStopMachine_stops (h : (s.psc.get l).state ≠ .off) (hf : (s.psc.get l).state ≠ .fault)
    (hs : (s.psc.get l).state ≠ .service) : handleStopMachine lane s = (s.serviceStop l, .ok []) := by
  simp only [handleStopMachine, hl]
  split
  all_goals first | rfl | exact absurd ‹_› ‹_›

theorem handleClearFault_clears (h : (s.psc.get l).state = .fault) :
    handleClearFault lane s = ((s.stopDeck l).setMachine l .service, .ok []) := by
  simp only [handleClearFault, hl, if_pos h, accept]

theorem handleClearFault_refused (h : (s.psc.get l).state ≠ .fault) : handleClearFault lane s = refuse .state s := by
  simp only [handleClearFault, hl, if_neg h]

/-- A resume of a machine in SERVICE with nothing in hand: with the rack as its choice, or as the deck is recorded. -/
theorem handleResumeMachine_free (hs : (s.psc.get l).state = .service) (h : (s.psc.get l).step = none)
    (hr : (s.psc.get l).recipe = none) :
    handleResumeMachine lane 0 s = ((s.modPsc l fun p => { p with
        recipe := some ⟨.rerack, s.expectedDeck l, .resume⟩, attempts := 0 }).enterChecking l, .ok [])
    ∧ handleResumeMachine lane 1 s = if s.expectedDeck l = fullDeck then
        (s.cycle l ⟨.full, fullDeck, .resume⟩, .ok []) else refuse .state s := by
  simp [handleResumeMachine, hl, choiceOf, hs, h, hr, accept]

end

/-- A machine that enters CHECKING from SERVICE leaves there its lane's continuous run and injected set (R19, R21). -/
theorem checks_from_service {s : State} {l : Lane} (h : (s.psc.get l).state = .service) :
    ((s.checks l).sensing.get l).runMode = .normal ∧ ((s.checks l).sensing.get l).injection = none
      ∧ ((s.checks l).sensing.get l).fault = (s.sensing.get l).fault ∧ ((s.checks l).pdu.get l).source = (s.pdu.get l).source := by
  have e := behind_setMachine_leaves (s := s.modPsc l fun p => { p with attempts := p.attempts + 1 }) (l := l) (by simpa using h)
    (state := .checking) (by decide) none none
  have hsens : (s.checks l).sensing = _ := (congrArg State.sensing e :)
  have hpdu : (s.checks l).pdu = _ := (congrArg State.pdu e :)
  rw [hsens, hpdu]
  exact leaveService_lane

/-- A resume AS_RECORDED of a known deck under AUTO, without a sensing fault (R69): the machine leaves SERVICE for CHECKING. -/
theorem resume_checks {s : State} {l : Lane} {r : Recipe} {pins : Pins} (hs : (s.psc.get l).state = .service)
    (ha : (s.pdu.get l).source = .auto) (hf : (s.sensing.get l).fault = false) (hr : r.target = .known pins) :
    let u := (s.modPsc l fun p => { p with recipe := some r, attempts := 0 }).enterChecking l
    u.psc = s.psc.set l { s.psc.get l with
        state := .checking, cause := none, recipe := some r, attempts := 1, startTimer := none, stepTimer := none }
      ∧ (u.sensing.get l).needs.check = some pins ∧ (u.sensing.get l).runMode = .normal ∧ (u.sensing.get l).injection = none := by
  let t := s.modPsc l fun p => { p with recipe := some r, attempts := 0 }
  obtain ⟨hmode, hinj, hfault, hsource⟩ := checks_from_service (s := t) (l := l) (by simpa [t] using hs)
  have hu := enterChecking_raises (s := t) (l := l) (r := r) (by simp [t]) hr (hsource.trans ha) (hfault.trans hf)
  intro u
  rw [show u = _ from hu]
  refine ⟨?_, by simp [SensingLane.checks], by simp [SensingLane.checks, hmode], by simp [SensingLane.checks, hinj]⟩
  rw [State.modSensing_psc, checks_psc]
  simp [t, Pinsetter.checks]

/-- Settles O52: the requests by their handlers, the stop and the clear by what they leave behind the links. -/
theorem mechanicStopsAndResumes : Obligations.MechanicStopsAndResumes := by
  unfold Obligations.MechanicStopsAndResumes
  intro tag lane l s hi hl p d dropped
  have drops {u : State} {x : SensingLane} (hp : u.pdu = s.pdu.set l d.stopped) (hx : u.sensing = s.sensing.set l (x.stopped d)) :
      dropped u := by
    obtain ⟨hrun, hdeck, hbinding⟩ := d.stopped_run
    obtain ⟨-, hneed⟩ := x.stopped_needs d
    simp only [dropped, hp, hx, PerLane.get_set, get_set_otherLane]
    exact ⟨hrun, hdeck, fun h => ⟨hbinding h, hneed h⟩, trivial⟩
  refine ⟨fun h => ?_, fun ho hf hs => ?stop, fun h => ?clear, fun h => ?_, fun hs h hr => ⟨fun pins he ha hf => ?recorded,
    fun he => ?rack, fun he => ?_⟩⟩
  · exact request_refused rfl hi rfl (by nofun) (handleStopMachine_refused (s := s.queuedUp .service tag _) hl h)
  case stop =>
    let v := s.queuedUp .service tag (.stopMachine lane)
    refine State.serves_with' rfl hi rfl (by nofun) (by nofun) ⟨_, handleStopMachine_stops (s := v) hl ho hf hs, ?_⟩
    have e := behind_serviceStop (s := v) (l := l) hs
    generalize v.serviceStop l = u at e
    have hpsc : u.psc = _ := (congrArg State.psc e :)
    have hret : u.ret = _ := (congrArg State.ret e :)
    have hpdu : u.pdu = _ := (congrArg State.pdu e :)
    have hsens : u.sensing = _ := (congrArg State.sensing e :)
    refine ⟨hpsc, hret, ?_, drops hpdu hsens, ?_⟩
    · rw [hsens]
      simp [SensingLane.stopped_needs, State.stopped]
    · have hlines : v.discards l = v.withLines (s.discards l) := discards_congr (s := s) (t := v) rfl rfl rfl rfl rfl l
      have hu : SameInside u { v.stopped l with sessions := u.sessions } := (sameInside_iff_behind _ _).mpr e
      rw [State.stopped, hlines] at hu
      intro stopped
      have hstopped : SameInside u (stopped.withLines (s.discards l)) := by
        simp only [stopped, hpsc, hret, hpdu, hsens]
        exact hu.ports s.ports
      refine ⟨fun h => ?_, fun r h ht hr => ?_⟩
      · rwa [discards_none h] at hstopped
      · rwa [discards_some h ht hr] at hstopped
  case clear =>
    refine State.serves_with' rfl hi rfl (by nofun) (by nofun)
      ⟨_, handleClearFault_clears (s := s.queuedUp .service tag _) hl h, ?_⟩
    have e := behind_clearFault (s := s.queuedUp .service tag (.clearFault lane)) (l := l) h
    exact ⟨(congrArg State.psc e :), drops (congrArg State.pdu e :) (congrArg State.sensing e :)⟩
  · exact request_refused rfl hi rfl (by nofun) (handleClearFault_refused (s := s.queuedUp .service tag _) hl h)
  case recorded =>
    obtain ⟨hh, -⟩ := handleResumeMachine_free (s := s.queuedUp .service tag (.resumeMachine lane 0)) hl hs h hr
    rw [State.queuedUp_expectedDeck, he] at hh
    exact State.serves_with' rfl hi rfl (by nofun) (by nofun)
      ⟨_, hh, resume_checks (s := s.queuedUp .service tag _) hs ha hf rfl⟩
  case rack =>
    obtain ⟨-, hh⟩ := handleResumeMachine_free (s := s.queuedUp .service tag (.resumeMachine lane 1)) hl hs h hr
    exact State.serves_with' rfl hi rfl (by nofun) (by nofun) ⟨_, hh.trans (if_pos he), cycle_psc _ l _⟩
  · obtain ⟨-, hh⟩ := handleResumeMachine_free (s := s.queuedUp .service tag (.resumeMachine lane 1)) hl hs h hr
    exact request_refused rfl hi rfl (by nofun) (hh.trans (if_neg he))

end Sys2Proof.Machine
end

section
/-! Pinsetter control (chapter 3): the steps of a recipe, the completion DONE, and the start timer. -/
namespace Sys2Proof.Machine

/-! ### The next step of a recipe (R53, R57 to R59) -/

section
variable {s : State} {l : Lane} {k : StepKind} {rest : List StepKind}

/-- A machine whose step has ended. -/
def Pinsetter.stepEnded (p : Pinsetter) : Pinsetter := { p with step := none, stepTimer := none }

def State.stepEnded (s : State) (l : Lane) : State := s.modPsc l Pinsetter.stepEnded

/-- A machine that issues the step `k`; `rest` is the queue behind it, which the remainder joins. -/
def Pinsetter.issues (p : Pinsetter) (k : StepKind) (rest : List StepKind) (t : StepTimes) : Pinsetter :=
  { p with
    step := some k, queue := rest ++ p.remainder.toList, remainder := none, redo := 0, stepTimer := some (100 * stepTime t k)
    pitHold := false }

/-- The state with a step issued and the hold that the return has turned off. -/
def State.issues (s : State) (l : Lane) (k : StepKind) (rest : List StepKind) : State :=
  { s with
    psc := s.psc.set l ((s.psc.get l).issues k rest s.settings.stepTimeouts)
    ret := { s.ret with holds := s.ret.holds.set l false } }

/-- A machine that holds a SWEEP before a full pit. -/
def Pinsetter.holds (p : Pinsetter) : Pinsetter := { p with step := none, stepTimer := none, pitHold := true }

/-- The state with a SWEEP held and its hold told to the return. -/
def State.holds (s : State) (l : Lane) : State :=
  { s with psc := s.psc.set l (s.psc.get l).holds, ret := { s.ret with holds := s.ret.holds.set l true } }

theorem pitFull_iff : s.pitFull l = true ↔ 2 ≤ (s.ret.pits.get l).length := by simp [State.pitFull]

/-- A step that the pit gate lets pass is issued (R53, R57). -/
theorem nextStep_issues (hq : (s.psc.get l).queue = k :: rest) (hp : k ≠ .sweep ∨ (s.ret.pits.get l).length < 2)
    (hs : (s.psc.get l).state ≠ .heldPit) : s.nextStep l = s.issues l k rest := by
  have hgate : ¬ (k = .sweep ∧ s.pitFull l = true) := by
    rintro ⟨rfl, hfull⟩
    rw [pitFull_iff] at hfull
    exact (hp.resolve_left (· rfl)).not_ge hfull
  have hhead : s.issueHead l k rest = s.issues l k rest := by
    simp [State.issueHead, State.issue, State.setHold, hs, State.issues, Pinsetter.issues, modPsc_eq, modReturn_eq, seconds]
  unfold State.nextStep
  rw [hq]
  simpa [hgate] using hhead

/-- A SWEEP before a full pit is held; a machine in CYCLING then enters HELD(PIT) (R57). -/
theorem nextStep_holds (hq : (s.psc.get l).queue = .sweep :: rest) (hp : 2 ≤ (s.ret.pits.get l).length) :
    s.nextStep l = if (s.psc.get l).state = .cycling then (s.holds l).setMachine l .heldPit else s.holds l := by
  have hhold : (s.modPsc l fun p => { p with step := none, stepTimer := none }).setHold l true = s.holds l := by
    simp [State.setHold, State.holds, Pinsetter.holds, modPsc_eq, modReturn_eq]
  have hstate : ((s.holds l).psc.get l).state = (s.psc.get l).state := by simp [State.holds, Pinsetter.holds]
  unfold State.nextStep
  rw [hq]
  simp only [decide_true, pitFull_iff.mpr hp, Bool.and_self, if_true, State.holdSweep, hhold, hstate]

/-- A held SWEEP is issued once the pit has room (R58). -/
theorem releaseHold_issues (hh : (s.psc.get l).pitHold = true) (hq : (s.psc.get l).queue = k :: rest)
    (hp : (s.ret.pits.get l).length < 2) (hs : (s.psc.get l).state ≠ .heldPit) : s.releaseHold l = s.issues l k rest := by
  have hfull : s.pitFull l = false := by
    rw [← Bool.not_eq_true, pitFull_iff]
    exact hp.not_ge
  rw [State.releaseHold, if_pos (by simp [hh, hfull]), nextStep_issues hq (.inr hp) hs]

end

/-! ### DONE (R53, R60, R66, R67, R72) -/

section
variable {s : State} {l : Lane} {k : StepKind}

theorem exec_done (hk : (s.psc.get l).step = some k) : exec (.done l) s = .next (s.completeDone l).finish.pump := by
  have hfinish : (s.completeDone l).finishDone s l = (s.completeDone l).finish := by simp [State.finishDone, hk]
  rw [← hfinish]
  rfl

/-- DONE of the executing step: its end, and what follows by the machine and its queue. -/
theorem completeDone_step (hk : (s.psc.get l).step = some k) : s.completeDone l =
    if (s.psc.get l).windingDown then (s.stepEnded l).woundDown l
    else if (s.psc.get l).state = .service then (s.stepEnded l).serviceDone l k
    else if (s.psc.get l).queue.isEmpty then (s.stepEnded l).enterChecking l
    else (s.stepEnded l).nextStep l := by
  simp only [State.completeDone, hk]
  rfl

section
variable (hk : (s.psc.get l).step = some k) (hw : (s.psc.get l).windingDown = false)
include hk hw

theorem completeDone_next (hs : (s.psc.get l).state ≠ .service) (hq : (s.psc.get l).queue ≠ []) :
    s.completeDone l = (s.stepEnded l).nextStep l := by
  simp [completeDone_step hk, hw, hs, hq]

theorem completeDone_last (hs : (s.psc.get l).state ≠ .service) (hq : (s.psc.get l).queue = []) :
    s.completeDone l = (s.stepEnded l).enterChecking l := by
  simp [completeDone_step hk, hw, hs, hq]

theorem completeDone_service (hs : (s.psc.get l).state = .service) : s.completeDone l = (s.stepEnded l).serviceDone l k := by
  simp [completeDone_step hk, hw, hs]

end

/-- The state with a step of a machine in SERVICE ended by DONE, which the service link is told (R66). -/
def State.toldDone (s : State) (l : Lane) (k : StepKind) : State := s.tell .service (.stepResult (s.laneNumber l) k none)

theorem serviceDone_step (hr : (s.psc.get l).recipe = none) : s.serviceDone l k = s.toldDone l k := by
  have hr' : ((s.toldDone l k).psc.get l).recipe = none := hr
  unfold State.serviceDone
  rw [State.stepResult, ← State.toldDone]
  simp only [hr']

/-- DONE of a step of a test recipe (R67). -/
theorem serviceDone_recipe {r : Recipe} (hr : (s.psc.get l).recipe = some r) : s.serviceDone l k =
    if (s.psc.get l).queue.isEmpty then (s.toldDone l k).testCycleDone l r else (s.toldDone l k).nextStep l := by
  have hr' : ((s.toldDone l k).psc.get l).recipe = some r := hr
  unfold State.serviceDone
  rw [State.stepResult, ← State.toldDone]
  simp only [hr']
  rfl

end

/-! ### The end of a recipe in play (R60, R61) -/

section
variable {s : State} {l : Lane} {r : Recipe}

/-- Under MANUAL, with an UNKNOWN target and with a sensing fault the cycle ends as the check is skipped (R60). -/
theorem enterChecking_ends (hs : (s.psc.get l).state ≠ .service) (hr : (s.psc.get l).recipe = some r)
    (h : (s.pdu.get l).source = .manual ∨ r.target.set? = none ∨ (s.sensing.get l).fault = true) :
    ∃ o : CheckOutcome, (o = .matched ∨ o = .noReading) ∧ s.enterChecking l = (s.checks l).checkAnswer l o [] := by
  have hb := behind_checks hs
  have hpdu : (s.checks l).pdu = s.pdu := (congrArg State.pdu hb :)
  have hsens : (s.checks l).sensing = s.sensing := (congrArg State.sensing hb :)
  by_cases hskip : (s.pdu.get l).source = .manual ∨ r.target.set? = none
  · exact ⟨.matched, .inl rfl, enterChecking_skips hr (by rwa [hpdu])⟩
  · obtain ⟨hm, ht⟩ := not_or.mp hskip
    have ha : ((s.checks l).pdu.get l).source = .auto := by
      rw [hpdu]
      cases hsource : (s.pdu.get l).source with
      | auto => rfl
      | manual => exact absurd hsource hm
    have hf : ((s.checks l).sensing.get l).fault = true := by rw [hsens]; exact (h.resolve_left hm).resolve_left ht
    cases htarget : r.target with
    | unknown n => exact absurd (by simp [htarget, Deck.set?]) ht
    | known pins => exact ⟨.noReading, .inr rfl, enterChecking_faulted hr htarget ha hf⟩

/-- The cycle end of a machine that skips its check: the target is the deck, and the machine is that of `endsCycle`. -/
theorem behind_enterChecking_ends (hs : (s.psc.get l).state ≠ .service) (hr : (s.psc.get l).recipe = some r)
    (h : (s.pdu.get l).source = .manual ∨ r.target.set? = none ∨ (s.sensing.get l).fault = true) :
    State.behind (s.enterChecking l) = ((State.behind s).modPdu l fun p => { p with deck := r.target }).modPsc l fun p =>
      (s.checks l).endsCycle l r p.checks := by
  obtain ⟨o, ho, e⟩ := enterChecking_ends hs hr h
  have hcs : ((s.checks l).psc.get l).state ≠ .service := by simp [checks_psc, Pinsetter.checks]
  rw [e, behind_checkAnswer_ended _ l [] r ho hcs (checks_recipe hr), behind_checks hs]
  simp [modPsc_eq, modPdu_eq]

end
end Sys2Proof.Machine
end

section
/-! Pinsetter control (chapter 3): the standby condition of a machine. -/
namespace Sys2Proof.Machine

/-! ### The condition (R50) -/

section
variable {s t : State} {l m : Lane}

/-- The standby condition of a lane's machine, of its session and of the groups that hold the lane or wait for it. -/
def State.Idles (s : State) (l : Lane) : Prop :=
  (s.sessions.get l).state = .closed
    ∨ ((s.sessions.get l).state = .locked ∧ ∀ g, (s.lanes.get l).occupant = some g ∨ (s.lanes.get l).waiter = some g →
        (s.groups.get g).inProgress = false)

theorem gameOnLane_eq_false_iff : s.gameOnLane l = false ↔
    ∀ g, (s.lanes.get l).occupant = some g ∨ (s.lanes.get l).waiter = some g → (s.groups.get g).inProgress = false := by
  unfold State.gameOnLane
  dsimp only
  cases (s.lanes.get l).occupant <;> cases (s.lanes.get l).waiter <;> simp [or_imp, forall_and]

theorem machineIdles_iff : s.machineIdles l = true ↔ s.Idles l := by
  simp only [State.machineIdles, State.Idles, ← gameOnLane_eq_false_iff, Bool.or_eq_true, Bool.and_eq_true, decide_eq_true_eq,
    Bool.not_eq_true']

/-- What the standby condition and the machines are judged on. -/
def State.judged (s : State) : PerLane Pinsetter × PerLane Session × PerLane LaneRecord × PerSlot Group :=
  (s.psc, s.sessions, s.lanes, s.groups)

theorem psc_of_judged (h : t.judged = s.judged) : t.psc = s.psc := congrArg (·.1) h

theorem sessions_of_judged (h : t.judged = s.judged) : t.sessions = s.sessions := congrArg (·.2.1) h

theorem idles_congr (hs : (t.sessions.get l).state = (s.sessions.get l).state) (hl : t.lanes = s.lanes) (hg : t.groups = s.groups) :
    t.Idles l ↔ s.Idles l := by rw [State.Idles, hs, hl, hg, State.Idles]

theorem enterSession_lanes (s : State) (m : Lane) (state : SessionState) (from_ : Option SessionState) :
    (s.enterSession m state from_).lanes = s.lanes := (congrArg State.lanes (behind_enterSession s m state from_) :)

theorem enterSession_groups (s : State) (m : Lane) (state : SessionState) (from_ : Option SessionState) :
    (s.enterSession m state from_).groups = s.groups := (congrArg State.groups (behind_enterSession s m state from_) :)

/-! ### Sessions that a change of machine leaves (R147, R148) -/

/-- A session that no pause condition moves: neither OPEN nor OVERTIME nor PAUSED. -/
def Session.Steady (x : Session) : Prop := x.state ≠ .opened ∧ x.state ≠ .overtime ∧ x.state ≠ .paused

theorem pauseEval_steady (h : (s.sessions.get l).Steady) : s.pauseEval l = s := by
  obtain ⟨ho, ht, hp⟩ := h
  unfold State.pauseEval
  dsimp only
  split
  · exact absurd ‹_› ho
  · exact absurd ‹_› ht
  · exact absurd ‹_› hp
  all_goals rfl

theorem opens_still (h : (s.psc.get l).state ≠ .ready) : s.opens l = s := by simp [State.opens, h]

/-- What a change of machine state makes due in sessions follows after its notice, its mark and what leaving SERVICE ends. -/
theorem machineChanged_eq (s : State) (l : Lane) (before : MachineState) (classes : Option (List PointClass)) :
    ∃ v : State, v.judged = s.judged ∧ s.machineChanged l before classes = ((v.opens l).pauseEval l).bannerEval l := by
  have left (t : State) : (if before = .service then t.leaveService l else t).judged = t.judged := by
    split
    · unfold State.leaveService
      dsimp only
      split <;> rfl
    · rfl
  refine ⟨_, (left _).trans ?_, rfl⟩
  simp [State.judged]

/-- A machine that enters a state other than READY leaves a steady session of its lane as it is. -/
theorem setMachine_steady (h : (s.sessions.get l).Steady) {state : MachineState} (hs : state ≠ .ready) (cause : Option FaultCause)
    (classes : Option (List PointClass)) :
    (s.setMachine l state cause classes).judged = (s.modPsc l fun p => p.enter state cause).judged := by
  unfold State.setMachine
  dsimp only
  split
  · rfl
  · obtain ⟨v, hv, e⟩ := machineChanged_eq (s.modPsc l fun p => p.enter state cause) l (s.psc.get l).state classes
    have hsess : v.sessions = s.sessions := sessions_of_judged (s := s.modPsc l _) hv
    have hpsc : v.psc = s.psc.set l ((s.psc.get l).enter state cause) :=
      psc_of_judged (s := s.modPsc l _) hv
    have hready : (v.psc.get l).state ≠ .ready := by simpa [hpsc, Pinsetter.enter] using hs
    rw [e, opens_still hready, pauseEval_steady (by rwa [hsess])]
    exact hv

end

/-! ### The condition that does not come to hold (R148) -/

/-- No session is PAUSED from CLOSED or LOCKED (R148). -/
abbrev State.Pauses (s : State) : Prop :=
  ∀ l, (s.sessions.get l).pausedFrom ≠ some .closed ∧ (s.sessions.get l).pausedFrom ≠ some .locked

/-- No session is PAUSED from CLOSED or LOCKED, and no machine of the lanes in `P` is in READY or STARTING with the standby
condition holding. -/
structure State.Settled (P : Lane → Prop) (s : State) : Prop where
  machine : ∀ l, P l → (s.psc.get l).state = .ready ∨ (s.psc.get l).state = .starting → ¬ s.Idles l
  paused  : s.Pauses

namespace State.Settled

variable {P : Lane → Prop} {s t : State}

theorem congr (h : s.Settled P) (e : t.judged = s.judged) : t.Settled P := by
  have hpsc : t.psc = s.psc := psc_of_judged e
  have hsess : t.sessions = s.sessions := sessions_of_judged e
  have hlanes : t.lanes = s.lanes := (congrArg (·.2.2.1) e :)
  have hgroups : t.groups = s.groups := (congrArg (·.2.2.2) e :)
  refine ⟨fun l hl hm => ?_, fun l => by rw [hsess]; exact h.paused l⟩
  rw [idles_congr (s := s) (by rw [hsess]) hlanes hgroups]
  rw [hpsc] at hm
  exact h.machine l hl hm

/-- A session that enters a state in which the condition cannot hold. -/
theorem enterSession (h : s.Settled P) (m : Lane) {state : SessionState} {from_ : Option SessionState}
    (hs : state ≠ .closed ∧ state ≠ .locked) (hf : from_ ≠ some .closed ∧ from_ ≠ some .locked) :
    (s.enterSession m state from_).Settled P := by
  have other {l : Lane} (hl : l ≠ m) : (s.enterSession m state from_).sessions.get l = s.sessions.get l := by
    rw [enterSession_sessions, PerLane.get_set_of_ne _ hl]
  have entered : (s.enterSession m state from_).sessions.get m = { s.sessions.get m with state := state, pausedFrom := from_ } := by
    rw [enterSession_sessions, PerLane.get_set]
  refine ⟨fun l hP hm => ?_, fun l => ?_⟩ <;> by_cases hl : l = m
  · subst hl
    rw [Idles, entered]
    simp [hs.1, hs.2]
  · rw [idles_congr (s := s) (by rw [other hl]) (enterSession_lanes ..) (enterSession_groups ..)]
    rw [enterSession_psc] at hm
    exact h.machine l hP hm
  · subst hl
    rw [entered]
    exact hf
  · rw [other hl]
    exact h.paused l

theorem pauseEval (h : s.Settled P) (m : Lane) : (s.pauseEval m).Settled P := by
  unfold State.pauseEval
  dsimp only
  split
  · split
    · exact h.enterSession m (by decide) (by decide)
    · exact h
  · split
    · exact h.enterSession m (by decide) (by decide)
    · exact h
  · split
    · exact h
    · refine h.enterSession m ?_ (by decide)
      obtain ⟨hc, hk⟩ := h.paused m
      cases hp : (s.sessions.get m).pausedFrom with
      | none => decide
      | some a => exact ⟨fun e => hc (by rw [hp, ← e]; rfl), fun e => hk (by rw [hp, ← e]; rfl)⟩
  all_goals exact h

theorem opens (h : s.Settled P) (m : Lane) : (s.opens m).Settled P := by
  unfold State.opens
  split
  · exact (h.enterSession m (by decide) (by decide)).pauseEval m
  · exact h

theorem machineChanged (h : s.Settled P) (m : Lane) (before : MachineState) (classes : Option (List PointClass)) :
    (s.machineChanged m before classes).Settled P := by
  obtain ⟨v, hv, e⟩ := machineChanged_eq s m before classes
  rw [e]
  exact (((h.congr hv).opens m).pauseEval m).congr rfl

/-- A machine that enters a state other than READY and STARTING no longer waits for the condition. -/
theorem setMachine (h : s.Settled P) (m : Lane) {state : MachineState} (hs : state ≠ .ready ∧ state ≠ .starting)
    (cause : Option FaultCause) (classes : Option (List PointClass)) :
    (s.setMachine m state cause classes).Settled fun l => P l ∨ l = m := by
  have entered : (s.modPsc m fun p => p.enter state cause).Settled fun l => P l ∨ l = m := by
    refine ⟨fun l hP hm => ?_, h.paused⟩
    by_cases hl : l = m
    · subst hl
      refine absurd hm ?_
      simpa [Pinsetter.enter] using hs
    · rw [modPsc_psc, PerLane.get_set_of_ne _ hl] at hm
      exact h.machine l (hP.resolve_right hl) hm
  unfold State.setMachine
  dsimp only
  split
  · exact entered
  · exact entered.machineChanged m _ _

/-- Fewer lanes. -/
theorem weaken (h : s.Settled P) {Q : Lane → Prop} (hQ : ∀ l, Q l → P l) : s.Settled Q :=
  ⟨fun l hl => h.machine l (hQ l hl), h.paused⟩

/-- A machine that changes but for its state. -/
theorem modPsc (h : s.Settled P) (m : Lane) {f : Pinsetter → Pinsetter} (hf : ∀ p, (f p).state = p.state) :
    (s.modPsc m f).Settled P := by
  refine ⟨fun l hP hm => h.machine l hP ?_, h.paused⟩
  by_cases hl : l = m
  · subst hl
    simpa [hf] using hm
  · simpa [PerLane.get_set_of_ne _ hl] using hm

theorem setHold (h : s.Settled P) (m : Lane) (on : Bool) : (s.setHold m on).Settled P :=
  (h.modPsc m (f := fun p => { p with pitHold := on }) fun _ => rfl).congr rfl

/-- A machine that goes on with its recipe is in CYCLING or HELD(PIT) after it, or stays in its state (R57, R58). -/
theorem nextStep (h : s.Settled P) (m : Lane) : (s.nextStep m).Settled P := by
  have held := (h.modPsc m (f := fun p => { p with step := none, stepTimer := none }) fun _ => rfl).setHold m true
  have issued (k : StepKind) (rest : List StepKind) :=
    (((h.modPsc m (f := fun p => { p with queue := rest ++ p.remainder.toList, remainder := none }) fun _ => rfl).modPsc m
      (f := fun p => { p with step := some k, redo := 0, stepTimer := some (seconds (stepTime s.settings.stepTimeouts k)) })
      fun _ => rfl).setHold m false)
  unfold State.nextStep
  split
  · exact h
  · split
    · unfold State.holdSweep
      dsimp only
      split
      · exact (held.setMachine m (by decide) none none).weaken fun _ => .inl
      · exact held
    · unfold State.issueHead
      dsimp only
      split
      · exact ((issued _ _).setMachine m (by decide) none none).weaken fun _ => .inl
      · exact issued _ _

theorem releaseHold (h : s.Settled P) (m : Lane) : (s.releaseHold m).Settled P := by
  unfold State.releaseHold
  split
  · exact h.nextStep m
  · exact h

theorem setReturn (h : s.Settled P) (state : ReturnState) (cause : Option ReturnCause) :
    (s.setReturn state cause).Settled P := by
  have told (t : State) (n : Notice) : (t.tellReturn n).judged = t.judged := (congrArg State.judged (inside_tellReturn t n) :)
  unfold State.setReturn State.pauseEvals
  refine pauseEval (pauseEval ?_ .left) .right
  exact (h.congr (t := s.modReturn _) rfl).congr (told _ _)

/-- What falls due of the return leaves settled machines so (R58, R76, R81). -/
theorem returnPump (h : s.Settled P) : s.returnPump.Settled P := by
  have idle : s.returnIdleEval.Settled P := by
    unfold State.returnIdleEval
    split
    · split
      · exact h.setReturn _ _
      · exact h
    · split
      · exact h
      · exact h.setReturn _ _
    · exact h
  exact ((idle.congr (t := s.returnIdleEval.takeBall) rfl).releaseHold .left).releaseHold .right

end State.Settled
end Sys2Proof.Machine
end

section
/-! Pinsetter control (chapter 3): the standby condition at the end of an event, and how the steps follow one another. -/
namespace Sys2Proof.Machine

/-! ### What the end of an event makes of the condition (R50, log 52) -/

section
variable {s : State} {l : Lane}

/-- A machine for which the condition holds has a steady session. -/
theorem steady_of_idles (h : s.Idles l) : (s.sessions.get l).Steady := by
  rcases h with h | ⟨h, -⟩ <;> simp [Session.Steady, h]

/-- A machine at rest after READY or STARTING. -/
def Pinsetter.rested (p : Pinsetter) : Pinsetter :=
  { p with state := .standby, cause := none, startTimer := none, stepTimer := none }

theorem machineStandby_rests (hm : (s.psc.get l).state = .ready ∨ (s.psc.get l).state = .starting) (hi : s.Idles l) :
    SameInside (s.machineStandby l) { s with psc := s.psc.set l (s.psc.get l).rested } := by
  have hc : (s.machineIdles l && (decide ((s.psc.get l).state = .ready) || decide ((s.psc.get l).state = .starting))) = true := by
    simpa [machineIdles_iff] using ⟨hi, hm⟩
  have e : s.machineStandby l = s.setMachine l .standby := if_pos hc
  have hs : (s.psc.get l).state ≠ .service := by rcases hm with h | h <;> simp [h]
  have hsess : (s.setMachine l .standby).sessions = s.sessions :=
    sessions_of_judged (s := s.modPsc l _) (setMachine_steady (steady_of_idles hi) (by decide) none none)
  have hb : State.behind (s.setMachine l .standby) = (State.behind s).modPsc l Pinsetter.rested := behind_setMachine _ _ _ _ _ hs
  have hin := (sameInside_iff_behind (s.setMachine l .standby) { s with psc := s.psc.set l (s.psc.get l).rested }).mpr hb
  rw [hsess] at hin
  rw [e]
  exact hin

theorem machineStandby_still (h : ¬ s.Idles l ∨ ((s.psc.get l).state ≠ .ready ∧ (s.psc.get l).state ≠ .starting)) :
    s.machineStandby l = s := by
  refine if_neg fun hc => ?_
  simp only [Bool.and_eq_true, Bool.or_eq_true, decide_eq_true_eq, machineIdles_iff] at hc
  obtain ⟨hi, hm⟩ := hc
  exact h.elim (absurd hi) fun ⟨hr, hst⟩ => hm.elim hr hst

end

/-- A machine whose standby condition has been judged is settled. -/
theorem settled_machineStandby {P : Lane → Prop} {s : State} (h : s.Settled P) (m : Lane) :
    (s.machineStandby m).Settled fun l => P l ∨ l = m := by
  by_cases hc : s.Idles m ∧ ((s.psc.get m).state = .ready ∨ (s.psc.get m).state = .starting)
  · have e : s.machineStandby m = s.setMachine m .standby := if_pos (by simpa [machineIdles_iff] using hc)
    rw [e]
    exact h.setMachine m (by decide) none none
  · rw [machineStandby_still (by rwa [not_and_or, not_or] at hc)]
    refine ⟨fun l hP hm hi => ?_, h.paused⟩
    by_cases hl : l = m
    · exact hc (hl ▸ ⟨hi, hm⟩)
    · exact h.machine l (hP.resolve_right hl) hm hi

/-! ### What follows the return at the end of an event -/

section
variable (s : State)

theorem pduSync_judged (l : Lane) : (s.pduSync l).judged = s.judged := by
  unfold State.pduSync State.arm State.disarm State.rebind
  dsimp only
  repeat' split
  all_goals rfl

theorem headStandby_judged : s.headStandby.judged = s.judged := (congrArg State.judged (headStandby_inside s) :)

/-- The advance of a line's version reaches no group (R125). -/
theorem flushLine_groups (x : Exempt) (i : LineId) : (s.flushLine x i).groups = s.groups := by
  have told {p : Prop} [Decidable p] (v : State) (k : Link) (c : CopyState) (n : Notice) :
      (if p then v else v.tellHolder k c n).groups = v.groups := by
    unfold State.tellHolder
    split
    · rfl
    · split <;> rfl
  unfold State.flushLine
  split
  · split
    · exact (told ..).trans ((told ..).trans (told ..))
    · rfl
  · rfl

theorem flushLines_groups (x : Exempt) : (s.flushLines x).groups = s.groups := by
  have fold (is : List LineId) : ∀ t : State, (is.foldl (State.flushLine x) t).groups = t.groups := by
    induction is with
    | nil => exact fun _ => rfl
    | cons i is ih => exact fun t => (ih _).trans (flushLine_groups t x i)
  exact fold lineIds s

theorem finishLines_judged : s.finishLines.judged = s.judged := by
  obtain ⟨v, hv⟩ := inside_finishLines s
  have hpsc : s.finishLines.psc = s.psc := (congrArg State.psc hv :)
  have hsess : s.finishLines.sessions = s.sessions := (congrArg State.sessions hv :)
  have hlanes : s.finishLines.lanes = s.lanes := (congrArg State.lanes hv :)
  have hgroups : s.finishLines.groups = s.groups := flushLines_groups s none
  rw [State.judged, hpsc, hsess, hlanes, hgroups, State.judged]

/-- The end of an event after the return: the PDUs, the head, banners, versions and loads (log 7). -/
theorem finish_judged : s.finish.judged = s.dsuPump.sessionsFollow.machinesStandby.returnPump.judged := by
  have banners (t : State) : t.bannersEval.judged = t.judged := (congrArg State.judged (inside_bannersEval t) :)
  rw [State.finish, finishLines_judged, banners, headStandby_judged, State.pdusSync, pduSync_judged, pduSync_judged]

end

/-- At the end of an event no machine in READY or STARTING has its standby condition (R50, log 52). -/
theorem finish_settled {s : State} (hp : s.Pauses) : s.finish.Settled AllLanes := by
  let t := s.dsuPump.sessionsFollow
  have he : Evolves .all s t := ((Evolves.refl s).dsuPump rfl).sessionsFollow
  have ht : t.Settled NoLane := ⟨fun _ => False.elim,
    fun l => ⟨he.pausedFrom_ne (by decide) (fun j => (hp j).1) l, he.pausedFrom_ne (by decide) (fun j => (hp j).2) l⟩⟩
  have stood : t.machinesStandby.Settled AllLanes :=
    (settled_machineStandby (settled_machineStandby ht .left) .right).weaken fun l _ => by cases l <;> simp
  exact stood.returnPump.congr (finish_judged s)

/-! ### A machine that comes to rest -/

section
variable {s : State} {l m : Lane}

/-- Without a need, a sensing unit only wakes its head. -/
theorem inside_dsuPump_needless (h : ∀ j, (s.sensing.get j).needs = ⟨false, none, false⟩) :
    ∃ head : Head, State.inside s.dsuPump = { State.inside s with head := head } := by
  have wakes : ∃ head : Head, State.inside s.headWake = { State.inside s with head := head } := by
    unfold State.headWake
    split
    · exact ⟨_, inside_warmHead s⟩
    · exact ⟨s.head, rfl⟩
  obtain ⟨head, hw⟩ := wakes
  have hsens : s.headWake.sensing = s.sensing := (congrArg State.sensing hw :)
  have needless (j : Lane) : (s.headWake.sensing.get j).needs = ⟨false, none, false⟩ := by rw [hsens, h]
  have served (j : Lane) : s.headWake.serveInjection j = s.headWake := serveInjection_still (.inr (by simp [needless]))
  have asked : s.headWake.requestScans = s.headWake := by
    have idle (j : Lane) : s.headWake.headNeed j = false := by simp [State.headNeed, needless]
    unfold State.requestScans
    split
    · simp [requestLane_still (not_asks_of_empty (needless _))]
    · simp [State.requestPair, idle]
  refine ⟨head, ?_⟩
  rw [State.dsuPump, served, served, asked, hw]

theorem behind_sessionFollows (s : State) (m : Lane) : State.behind (s.sessionFollows m) = State.behind s := by
  have closes : State.behind (s.closeSession m) = State.behind s := by
    unfold State.closeSession State.addCents State.markMeter
    dsimp only
    rw [behind_enterSession, behind_tell, behind_markFeed, behind_modSession]
    split
    · split <;> rfl
    · rfl
  unfold State.sessionFollows
  dsimp only
  split
  · rfl
  · split
    · exact behind_enterSession ..
    · split
      · exact behind_enterSession ..
      · rfl
    · exact closes
    all_goals rfl

theorem sessionFollows_other (s : State) (h : l ≠ m) : (s.sessionFollows m).sessions.get l = s.sessions.get l := by
  have other (p : PerLane Session) (x : Session) : (p.set m x).get l = p.get l := PerLane.get_set_of_ne p h x
  have adds : (s.addCents m 1).sessions.get l = s.sessions.get l := by
    unfold State.addCents State.markMeter
    dsimp only
    split <;> simp [other]
  have closes : (s.closeSession m).sessions.get l = s.sessions.get l := by
    unfold State.closeSession State.markMeter
    dsimp only
    rw [enterSession_sessions, other, State.tell_sessions, State.markFeed_sessions, State.modSession_sessions, other]
    split
    · exact adds
    · rfl
  have enters (state : SessionState) : (s.enterSession m state none).sessions.get l = s.sessions.get l := by
    rw [enterSession_sessions, other]
  unfold State.sessionFollows
  dsimp only
  split
  · rfl
  · split
    · exact enters _
    · split
      · exact enters _
      · rfl
    · exact closes
    all_goals rfl

/-- A session of a lane at rest has nothing to follow. -/
theorem sessionFollows_idle (h : s.Idles l) : s.sessionFollows l = s := by
  have hs : (s.sessions.get l).state = .closed ∨ (s.sessions.get l).state = .locked := h.imp id And.left
  unfold State.sessionFollows
  dsimp only
  split
  · rfl
  · rcases hs with hs | hs <;> rw [hs]

theorem sessionFollows_rests (h : s.Idles l) (m : Lane) : (s.sessionFollows m).psc = s.psc ∧ (s.sessionFollows m).Idles l := by
  have e := behind_sessionFollows s m
  refine ⟨(congrArg State.psc e :), ?_⟩
  by_cases hl : l = m
  · subst hl
    rwa [sessionFollows_idle h]
  · exact (idles_congr (s := s) (t := s.sessionFollows m) (by rw [sessionFollows_other s hl]) (congrArg State.lanes e :)
      (congrArg State.groups e :)).mpr h

/-- The judgement of one lane's machine reaches neither the other machine nor a condition that holds. -/
theorem machineStandby_spares (s : State) (m : Lane) : (∀ l, l ≠ m → (s.machineStandby m).psc.get l = s.psc.get l)
    ∧ ∀ l, (s.machineStandby m).Idles l ↔ s.Idles l := by
  by_cases hc : s.Idles m ∧ ((s.psc.get m).state = .ready ∨ (s.psc.get m).state = .starting)
  · have e := machineStandby_rests hc.2 hc.1
    have hpsc : (s.machineStandby m).psc = s.psc.set m (s.psc.get m).rested := (congrArg State.psc e :)
    have hsess : (s.machineStandby m).sessions = s.sessions := (congrArg State.sessions e :)
    refine ⟨fun l hl => by rw [hpsc, PerLane.get_set_of_ne _ hl], fun l => ?_⟩
    exact idles_congr (by rw [hsess]) (congrArg State.lanes e :) (congrArg State.groups e :)
  · rw [machineStandby_still (by rwa [not_and_or, not_or] at hc)]
    exact ⟨fun _ _ => rfl, fun _ => Iff.rfl⟩

theorem machinesStandby_rests (hm : (s.psc.get l).state = .ready ∨ (s.psc.get l).state = .starting) (hi : s.Idles l) :
    s.machinesStandby.psc.get l = (s.psc.get l).rested := by
  have rests {t : State} (ht : t.psc.get l = s.psc.get l) (h : t.Idles l) :
      (t.machineStandby l).psc.get l = (s.psc.get l).rested := by
    have e : (t.machineStandby l).psc = t.psc.set l (t.psc.get l).rested :=
      (congrArg State.psc (machineStandby_rests (by rwa [ht]) h) :)
    rw [e, PerLane.get_set, ht]
  obtain ⟨hpsc, hidles⟩ := machineStandby_spares s .left
  cases l with
  | left => exact ((machineStandby_spares _ .right).1 .left (by decide)).trans (rests rfl hi)
  | right => exact rests (hpsc .right (by decide)) ((hidles .right).mpr hi)

/-- The next step of one lane's recipe reaches no other machine. -/
theorem nextStep_other (s : State) (h : l ≠ m) : (s.nextStep m).psc.get l = s.psc.get l := by
  have other (p : PerLane Pinsetter) (x : Pinsetter) : (p.set m x).get l = p.get l := PerLane.get_set_of_ne p h x
  unfold State.nextStep State.holdSweep State.issueHead State.setHold State.issue
  dsimp only
  repeat' split
  all_goals simp [setMachine_psc, other]

/-- What falls due of the return reaches no machine that holds no SWEEP (R58). -/
theorem returnPump_psc (h : (s.psc.get l).pitHold = false) : s.returnPump.psc.get l = s.psc.get l := by
  have release (t : State) (m : Lane) (ht : t.psc.get l = s.psc.get l) : (t.releaseHold m).psc.get l = s.psc.get l := by
    unfold State.releaseHold
    split
    · rename_i hc
      refine (nextStep_other t fun hl => ?_).trans ht
      rw [← hl, ht, h] at hc
      simp at hc
    · exact ht
  have returns (state : ReturnState) (cause : Option ReturnCause) : (s.setReturn state cause).psc = s.psc := by
    unfold State.setReturn State.pauseEvals
    rw [pauseEval_psc, pauseEval_psc]
    rw [State.tellReturn, State.markFeeds, State.markFeed_psc, State.markFeed_psc, State.broadcast_psc, State.modReturn_psc]
  have idle : s.returnIdleEval.psc = s.psc := by
    unfold State.returnIdleEval
    split
    · split
      · exact returns ..
      · rfl
    · split
      · rfl
      · exact returns ..
    · rfl
  exact release _ .right (release s.returnIdleEval.takeBall .left (by rw [← idle]; rfl))

/-- Without a need a machine whose condition holds rests at the end of an event (R50, log 52). -/
theorem finish_rests (hm : (s.psc.get l).state = .ready ∨ (s.psc.get l).state = .starting) (hh : (s.psc.get l).pitHold = false)
    (hi : s.Idles l) (hn : ∀ j, (s.sensing.get j).needs = ⟨false, none, false⟩) : s.finish.psc.get l = (s.psc.get l).rested := by
  obtain ⟨head, hd⟩ := inside_dsuPump_needless hn
  have hpsc : s.dsuPump.psc = s.psc := (congrArg State.psc hd :)
  have hidle : s.dsuPump.Idles l := (idles_congr (s := s) (congrArg (fun v => (v.sessions.get l).state) hd :) (congrArg State.lanes hd :)
    (congrArg State.groups hd :)).mpr hi
  obtain ⟨hleft, hl⟩ := sessionFollows_rests hidle .left
  obtain ⟨hright, hr⟩ := sessionFollows_rests hl .right
  have hfollow : s.dsuPump.sessionsFollow.psc = s.psc := hright.trans (hleft.trans hpsc)
  have hrest := machinesStandby_rests (s := s.dsuPump.sessionsFollow) (by rwa [hfollow]) hr
  rw [hfollow] at hrest
  rw [psc_of_judged (finish_judged s), returnPump_psc (by rw [hrest]; exact hh), hrest]

end
end Sys2Proof.Machine
end

section
/-! Pinsetter control (chapter 3): what follows each step of a machine. -/
namespace Sys2Proof.Machine

/-! ### The expiry of the start timer (R49) -/

section
variable {s : State} {l : Lane}

theorem exec_startTimerExpiry {u : State} (h : s.startExpires l = u) : exec (.startTimerExpiry l) s = .next u.feedLoads.pump := by
  subst h
  rfl

/-- In STARTING the expiry takes the FULL recipe of the start. -/
theorem startExpires_starts (hs : (s.psc.get l).state = .starting) (ht : (s.psc.get l).startTimer ≠ none) :
    s.startExpires l = (s.modPsc l fun p => { p with startTimer := none }).cycle l ⟨.full, .known allPins, .start⟩ :=
  if_pos (by simp [hs, Option.isSome_iff_ne_none.mpr ht])

theorem behind_startExpires (hs : (s.psc.get l).state = .starting) (ht : (s.psc.get l).startTimer ≠ none) :
    State.behind (s.startExpires l) = State.behind { s with
      psc := s.psc.set l ((s.psc.get l).takes ⟨.full, .known allPins, .start⟩ .cycling s.settings.stepTimeouts.guardDown) } := by
  rw [startExpires_starts hs ht, behind_cycle _ _ _ (by simp [hs]), behind_modPsc, modPsc_comp]
  rfl

/-- Outside STARTING, and with the timer stopped, the expiry changes nothing (log 2). -/
theorem startExpires_still (h : (s.psc.get l).state ≠ .starting ∨ (s.psc.get l).startTimer = none) : s.startExpires l = s :=
  if_neg (by rcases h with h | h <;> simp [h])

end

/-! ### The condition of a machine that ends its cycle (R50, R61) -/

section
variable {s : State} {l : Lane}

/-- A pause, of a session that is not PAUSED, does not reach the standby condition of its lane. -/
theorem pauseEval_idles (h : (s.sessions.get l).state ≠ .paused) : (s.pauseEval l).Idles l ↔ s.Idles l := by
  have pauses (x : Option SessionState) (hs : (s.sessions.get l).state = .opened ∨ (s.sessions.get l).state = .overtime) :
      (s.enterSession l .paused x).Idles l ↔ s.Idles l := by
    rcases hs with hs | hs <;> simp [State.Idles, enterSession_sessions, hs]
  unfold State.pauseEval
  dsimp only
  split
  · split
    · exact pauses _ (.inl ‹_›)
    · exact Iff.rfl
  · split
    · exact pauses _ (.inr ‹_›)
    · exact Iff.rfl
  · exact absurd ‹_› h
  all_goals exact Iff.rfl

/-- A machine that enters a state other than READY leaves the standby condition of its lane as it is. -/
theorem setMachine_idles (h : (s.sessions.get l).state ≠ .paused) {state : MachineState} (hs : state ≠ .ready)
    (cause : Option FaultCause) (classes : Option (List PointClass)) :
    (s.setMachine l state cause classes).Idles l ↔ s.Idles l := by
  unfold State.setMachine
  dsimp only
  split
  · exact Iff.rfl
  · obtain ⟨v, hv, e⟩ := machineChanged_eq (s.modPsc l fun p => p.enter state cause) l (s.psc.get l).state classes
    have hpsc : v.psc = s.psc.set l ((s.psc.get l).enter state cause) := psc_of_judged (s := s.modPsc l _) hv
    have hsess : v.sessions = s.sessions := sessions_of_judged (s := s.modPsc l _) hv
    have hready : (v.psc.get l).state ≠ .ready := by simpa [hpsc, Pinsetter.enter] using hs
    rw [e, opens_still hready]
    refine (pauseEval_idles (s := v) (by rwa [hsess])).trans ?_
    exact idles_congr (by rw [hsess]) (congrArg (·.2.2.1) hv) (congrArg (·.2.2.2) hv)

theorem checks_machineIdles (h : (s.sessions.get l).state ≠ .paused) : (s.checks l).machineIdles l = s.machineIdles l := by
  rw [Bool.eq_iff_iff, machineIdles_iff, machineIdles_iff]
  exact setMachine_idles (s := s.modPsc l _) h (by decide) none none

end

/-! ### The end of a step -/

section
variable (s : State) (l : Lane) (p : Pinsetter)

@[simp] theorem stepEnded_get : (s.stepEnded l).psc.get l = (s.psc.get l).stepEnded := PerLane.get_set ..
@[simp] theorem toldDone_psc (k : StepKind) : (s.toldDone l k).psc = s.psc := rfl
@[simp] theorem stepEnded_state : p.stepEnded.state = p.state := rfl
@[simp] theorem stepEnded_queue : p.stepEnded.queue = p.queue := rfl
@[simp] theorem stepEnded_recipe : p.stepEnded.recipe = p.recipe := rfl

/-- What the next step, and a held SWEEP, make of a machine overwrites what the end of its step does. -/
theorem stepEnded_issues (k : StepKind) (rest : List StepKind) : (s.stepEnded l).issues l k rest = s.issues l k rest := by
  simp [State.issues, State.stepEnded, Pinsetter.stepEnded, Pinsetter.issues, modPsc_eq]

theorem stepEnded_holds : (s.stepEnded l).holds l = s.holds l := by
  simp [State.holds, State.stepEnded, Pinsetter.stepEnded, Pinsetter.holds, modPsc_eq]

end

/-! ### DONE in CYCLING (R53, R57, R60) -/

section
variable {s : State} {l : Lane} {k next : StepKind} {rest : List StepKind} {r : Recipe}
  (hk : (s.psc.get l).step = some k) (hw : (s.psc.get l).windingDown = false)
include hk hw

/-- DONE with a step left that the pit gate lets pass. -/
theorem completeDone_issues (hs : (s.psc.get l).state = .cycling) (hq : (s.psc.get l).queue = next :: rest)
    (hp : next ≠ .sweep ∨ (s.ret.pits.get l).length < 2) : s.completeDone l = s.issues l next rest := by
  rw [completeDone_next hk hw (by simp [hs]) (by simp [hq]),
    nextStep_issues (s := s.stepEnded l) (k := next) (rest := rest) (by simp [hq]) hp (by simp [hs]), stepEnded_issues]

/-- DONE with a SWEEP left before a full pit leads to HELD(PIT). -/
theorem behind_completeDone_holds (hs : (s.psc.get l).state = .cycling) (hq : (s.psc.get l).queue = .sweep :: rest)
    (hp : 2 ≤ (s.ret.pits.get l).length) : State.behind (s.completeDone l) = State.behind { s with
      psc := s.psc.set l ((s.psc.get l).holds.enter .heldPit none)
      ret := { s.ret with holds := s.ret.holds.set l true } } := by
  have hheld : ((s.holds l).psc.get l).state ≠ .service := by simp [State.holds, Pinsetter.holds, hs]
  rw [completeDone_next hk hw (by simp [hs]) (by simp [hq]),
    nextStep_holds (s := s.stepEnded l) (rest := rest) (by simp [hq]) hp, if_pos (by simp [hs]), stepEnded_holds,
    behind_setMachine _ _ _ _ _ hheld]
  simp [State.holds, modPsc_eq, State.behind]

/-- The last DONE under AUTO, of a known target and without a sensing fault, raises the check need. -/
theorem behind_completeDone_raises (hs : (s.psc.get l).state = .cycling) (hq : (s.psc.get l).queue = [])
    (hr : (s.psc.get l).recipe = some r) {pins : Pins} (ht : r.target = .known pins) (hsource : (s.pdu.get l).source = .auto)
    (hf : (s.sensing.get l).fault = false) : State.behind (s.completeDone l) = State.behind { s with
      psc := s.psc.set l (s.psc.get l).stepEnded.checks, sensing := s.sensing.set l ((s.sensing.get l).checks pins) } := by
  have hb := behind_checks (s := s.stepEnded l) (l := l) (by simp [hs])
  have hpdu : ((s.stepEnded l).checks l).pdu = s.pdu := (congrArg State.pdu hb :)
  have hsens : ((s.stepEnded l).checks l).sensing = s.sensing := (congrArg State.sensing hb :)
  rw [completeDone_last hk hw (by simp [hs]) hq, enterChecking_raises (by simp [hr]) ht (by rwa [hpdu]) (by rwa [hsens]),
    behind_modSensing, hb]
  simp [State.behind, State.stepEnded, modPsc_eq, modSensing_eq]

/-- The last DONE of a machine that skips its check ends the cycle. -/
theorem behind_completeDone_ends (hs : (s.psc.get l).state = .cycling) (hq : (s.psc.get l).queue = [])
    (hr : (s.psc.get l).recipe = some r)
    (h : (s.pdu.get l).source = .manual ∨ r.target.set? = none ∨ (s.sensing.get l).fault = true) :
    State.behind (s.completeDone l) = State.behind { s with
      psc := s.psc.set l (((s.stepEnded l).checks l).endsCycle l r (s.psc.get l).stepEnded.checks)
      pdu := s.pdu.set l { s.pdu.get l with deck := r.target } } := by
  rw [completeDone_last hk hw (by simp [hs]) hq,
    behind_enterChecking_ends (s := s.stepEnded l) (r := r) (by simp [hs]) (by simp [hr]) h]
  simp [State.behind, State.stepEnded, modPsc_eq, modPdu_eq]

end

section
variable {s : State} {l : Lane} {r : Recipe}

/-- A cycle that ends with its last step, and no closing rack owed: READY, or STANDBY as the condition has it. -/
theorem checks_endsCycle_free (h : (s.psc.get l).closingOwed = false ∨ r.kind = .full) :
    let q := ((s.stepEnded l).checks l).endsCycle l r (s.psc.get l).stepEnded.checks
    q.recipe = none ∧ q.attempts = 0 ∧ q.closingOwed = false ∧ (q.state = .ready ∨ q.state = .standby)
      ∧ ((s.sessions.get l).state ≠ .paused → q.state = (if s.machineIdles l then .standby else .ready)) := by
  intro q
  have e : q = _ := endsCycle_free _ l h
  refine ⟨by rw [e], by rw [e], by rw [e], ?_, fun hp => ?_⟩ <;> rw [e]
  · cases ((s.stepEnded l).checks l).machineIdles l
    · exact .inl rfl
    · exact .inr rfl
  · rw [checks_machineIdles (s := s.stepEnded l) hp]
    rfl

/-- A cycle that ends with its last step, and a closing rack owed (R61, R62). -/
theorem checks_endsCycle_owed (hs : (s.psc.get l).state = .cycling) (hc : (s.psc.get l).closingOwed = true)
    (hk : r.kind ≠ .full) : ((s.stepEnded l).checks l).endsCycle l r (s.psc.get l).stepEnded.checks
      = { s.psc.get l with closingOwed := false }.takes closingRack .cycling s.settings.stepTimeouts.guardDown := by
  have hsettings : ((s.stepEnded l).checks l).settings = s.settings :=
    (congrArg State.settings (behind_checks (s := s.stepEnded l) (l := l) (by simp [hs])) :)
  rw [endsCycle_owed (p := (s.psc.get l).stepEnded.checks) _ l hc hk, hsettings]
  rfl

end

/-! ### DONE in SERVICE (R66, R67) -/

/-- What the last step of a test recipe makes of the lane: the target is the deck, and the recipe ends. -/
theorem stepEnded_testCycleDone (s : State) (l : Lane) (k : StepKind) (r : Recipe) :
    ((s.stepEnded l).toldDone l k).testCycleDone l r = (({ s with
    psc := s.psc.set l { s.psc.get l with step := none, stepTimer := none, recipe := none }
    pdu := s.pdu.set l { s.pdu.get l with deck := r.target } } : State).toldDone l k).tell .service
      (.testCycleDone (s.laneNumber l)) := by
  have ended : (s.stepEnded l).modPsc l (fun p => { p with recipe := none })
      = s.modPsc l fun p => { p with step := none, stepTimer := none, recipe := none } := modPsc_comp ..
  exact congrArg (fun v : State => ((v.writeDeck l r.target).toldDone l k).tell .service (.testCycleDone (s.laneNumber l))) ended

section
variable {s : State} {l : Lane} {k next : StepKind} {rest : List StepKind} {r : Recipe}
  (hk : (s.psc.get l).step = some k) (hw : (s.psc.get l).windingDown = false) (hs : (s.psc.get l).state = .service)
include hk hw hs

/-- A step issued by request ends. -/
theorem completeDone_alone (hr : (s.psc.get l).recipe = none) : s.completeDone l = (s.stepEnded l).toldDone l k := by
  rw [completeDone_service hk hw hs, serviceDone_step (by simp [hr])]

variable (hr : (s.psc.get l).recipe = some r)
include hr

/-- A step of a test recipe ends with another left. -/
theorem completeDone_goesOn (hq : (s.psc.get l).queue ≠ []) : s.completeDone l = ((s.stepEnded l).toldDone l k).nextStep l := by
  rw [completeDone_service hk hw hs, serviceDone_recipe (r := r) (by simp [hr]), if_neg (by simp [hq])]

theorem completeDone_goesOn_issues (hq : (s.psc.get l).queue = next :: rest)
    (hp : next ≠ .sweep ∨ (s.ret.pits.get l).length < 2) : s.completeDone l = (s.issues l next rest).toldDone l k := by
  rw [completeDone_goesOn hk hw hs hr (by simp [hq]), ← stepEnded_issues,
    nextStep_issues (s := (s.stepEnded l).toldDone l k) (k := next) (rest := rest) (by simp [hq]) hp (by simp [hs])]
  rfl

theorem completeDone_goesOn_holds (hq : (s.psc.get l).queue = .sweep :: rest) (hp : 2 ≤ (s.ret.pits.get l).length) :
    s.completeDone l = (s.holds l).toldDone l k := by
  rw [completeDone_goesOn hk hw hs hr (by simp [hq]), ← stepEnded_holds,
    nextStep_holds (s := (s.stepEnded l).toldDone l k) (rest := rest) (by simp [hq]) hp, if_neg (by simp [hs])]
  rfl

/-- The last step of a test recipe ends. -/
theorem completeDone_test (hq : (s.psc.get l).queue = []) :
    s.completeDone l = ((s.stepEnded l).toldDone l k).testCycleDone l r := by
  rw [completeDone_service hk hw hs, serviceDone_recipe (r := r) (by simp [hr]), if_pos (by simp [hq])]

end

/-! ### DONE in a machine that winds down (R72) -/

section
variable {s : State} {l : Lane}

/-- Its step ended, a machine that winds down goes to STANDBY, and to STARTING for a session that is OPENING. -/
theorem woundDown_machine (h : (s.sessions.get l).Steady) :
    ((s.woundDown l).psc.get l).state = (if (s.sessions.get l).state = .opening then .starting else .standby)
      ∧ ((s.woundDown l).psc.get l).step = (s.psc.get l).step ∧ ((s.woundDown l).psc.get l).windingDown = false := by
  let v := s.modPsc l fun p => { p with windingDown := false }
  let t := v.setMachine l .standby
  have hj : t.judged = (v.modPsc l fun p => p.enter .standby none).judged := setMachine_steady (s := v) h (by decide) none none
  have hsess : t.sessions = s.sessions := sessions_of_judged (s := v.modPsc l _) hj
  have hpsc : t.psc.get l = { (s.psc.get l).rested with windingDown := false } := by
    rw [psc_of_judged hj]
    simp [v, Pinsetter.enter, Pinsetter.rested]
  have hw : s.woundDown l = if (s.sessions.get l).state = .opening then t.startMachine l else t := by
    rw [← hsess]
    rfl
  rw [hw]
  split
  · have e := congrArg (fun w => w.psc.get l) (behind_startMachine t l)
    rw [if_pos (by rw [hpsc]; rfl)] at e
    have hstart : (t.startMachine l).psc.get l = _ := e
    rw [hstart]
    simp [hpsc, Pinsetter.rested]
  · rw [hpsc]
    exact ⟨rfl, rfl, rfl⟩

end

/-- Settles O49: the start timer and each DONE by what `startExpires` and `completeDone` make of the machine, and the standby
condition by what one judgement and the end of an event make of it. -/
theorem stepsFollowOneAnother : Obligations.StepsFollowOneAnother := by
  unfold Obligations.StepsFollowOneAnother
  refine ⟨fun l s => ?steps, fun s l => ⟨machineIdles_iff, machineStandby_rests, machineStandby_still,
    fun hp => (finish_settled hp).machine l trivial, finish_rests⟩⟩
  case steps =>
    intro p
    have behind {u v : State} (h : State.behind u = State.behind v) : SameInside u { v with sessions := u.sessions } :=
      (sameInside_iff_behind u v).mpr h
    refine ⟨fun hs ht => ?starts, fun h => exec_startTimerExpiry (startExpires_still h), fun k hk hw hs => ?cycling,
      fun k hk hw hs => ?service, fun rest hs hh hq hp => releaseHold_issues hh hq hp (fun e => nomatch hs.symm.trans e),
      fun k hk hw hs => ?windsDown⟩
    case starts =>
      let t := (s.startExpires l).feedLoads.pump
      have e : State.behind t = _ := (behind_pump _).trans ((behind_feedLoads _).trans (behind_startExpires hs ht))
      have hpsc : t.psc = _ := (congrArg State.psc e :)
      exact ⟨t, exec_startTimerExpiry rfl, hpsc, hpsc ▸ behind e⟩
    case cycling =>
      refine ⟨fun next rest hq hp => ⟨_, exec_done hk, ?_⟩, fun rest hq hp => ⟨_, exec_done hk, ?_⟩,
        fun r pins hq hr ht ha hf => ⟨_, exec_done hk, ?_⟩, fun r hq hr h => ⟨_, exec_done hk, ?_⟩⟩
      · rw [completeDone_issues hk hw hs hq hp]
        rfl
      · exact behind (behind_completeDone_holds hk hw hs hq hp)
      · exact behind (behind_completeDone_raises hk hw hs hq hr ht ha hf)
      · have e := behind_completeDone_ends hk hw hs hq hr h
        have hpsc : (s.completeDone l).psc = _ := (congrArg State.psc e :)
        have hget : (s.completeDone l).psc.get l = _ := (congrArg (PerLane.get · l) hpsc).trans (PerLane.get_set ..)
        refine ⟨(congrArg State.pdu e :), (congrArg State.sensing e :), fun hfree => ?_,
          fun hc hkind => hget.trans (checks_endsCycle_owed hs hc hkind)⟩
        rw [hget]
        exact checks_endsCycle_free hfree
    case service =>
      refine ⟨fun hr => ?_, fun r next rest hr hq hp => ?_, fun r rest hr hq hp => ?_, fun r hr hq => ?_⟩
      · rw [exec_done hk, completeDone_alone hk hw hs hr]
        rfl
      · rw [exec_done hk, completeDone_goesOn_issues hk hw hs hr hq hp]
        rfl
      · rw [exec_done hk, completeDone_goesOn_holds hk hw hs hr hq hp]
        rfl
      · rw [exec_done hk, completeDone_test hk hw hs hr hq, stepEnded_testCycleDone]
        rfl
    case windsDown =>
      have steady : (s.sessions.get l).Steady := by rcases hs with hs | hs <;> simp [Session.Steady, hs]
      obtain ⟨hstate, hstep, hwinding⟩ := woundDown_machine (s := s.stepEnded l) steady
      have e : s.completeDone l = (s.stepEnded l).woundDown l := by rw [completeDone_step hk, if_pos hw]
      refine ⟨_, exec_done hk, ?_, ?_, ?_⟩ <;> rw [e]
      · rw [hstate]
        rcases hs with hs | hs <;> simp [State.stepEnded, hs]
      · simp [hstep, Pinsetter.stepEnded]
      · exact hwinding

end Sys2Proof.Machine
end

section
/-! The bounds that every command keeps: meters, the return and the feeds, and the order of pauses, pinsetters and arming. -/
namespace Sys2Proof.Machine

/-! ### Meters (R150, R151, R153) -/

theorem MeterStep.keeps {m n : Meter} (h : MeterStep m n) (hm : MeterOk m) : MeterOk n := by
  obtain ⟨hgames, hminutes, hcents, hfraction⟩ := hm
  cases h with
  | same => exact ⟨hgames, hminutes, hcents, hfraction⟩
  | zero => decide
  | add k =>
    unfold Meter.add maxCents
    split
    · exact ⟨hgames, hminutes, Nat.le_refl _, hfraction⟩
    · exact ⟨hgames, hminutes, Nat.le_of_not_lt ‹_›, hfraction⟩
  | games k => exact ⟨Nat.min_le_left .., hminutes, hcents, hfraction⟩
  | minutes k => exact ⟨hgames, Nat.min_le_left .., hcents, hfraction⟩
  | fraction k => exact ⟨hgames, hminutes, hcents, Nat.mod_lt _ (by decide)⟩
  | settled => exact ⟨hgames, hminutes, hcents, Nat.zero_lt_succ _⟩

theorem Evolves.meters {c : Scope} {s t : State} (h : Evolves c s t) (hs : MetersOk s) : MetersOk t := by
  induction h with
  | trans _ _ h h' => exact h' (h hs)
  | other h =>
    intro l
    rw [h.sessions]
    exact hs l
  | control _ hu _ ih =>
    intro l
    rw [(congrArg State.sessions hu :)]
    exact ih hs l
  | session s l f hm _ =>
    intro m
    rcases session_cases s l m f with ⟨rfl, e⟩ | e <;> rw [e]
    · exact hm.keeps (hs m)
    · exact hs m
  | refl | offer | feed | ret | capacity | lines | fewer | empty | overwrite | append => exact hs

/-! ### The return (R74 to R84) -/

/-- The bounds of a return with a rack capacity. -/
structure BallReturn.Bounded (capacity : Nat) (r : BallReturn) : Prop where
  pits   : ∀ l, (r.pits.get l).length ≤ 2
  balls  : r.rack + r.inLift ≤ capacity
  stamps : r.stampCounter ≤ 65535
  rack   : r.rackGlitches ≤ 65535
  lift   : r.liftGlitches ≤ 65535

theorem returnOk_iff (s : State) : ReturnOk s ↔ s.ret.Bounded s.settings.rackCapacity
    ∧ 6 ≤ s.settings.rackCapacity ∧ s.settings.rackCapacity ≤ 16 :=
  ⟨fun ⟨hpits, hballs, hleast, hmost, hstamps, hrack, hlift⟩ => ⟨⟨hpits, hballs, hstamps, hrack, hlift⟩, hleast, hmost⟩,
    fun ⟨h, hleast, hmost⟩ => ⟨h.pits, h.balls, hleast, hmost, h.stamps, h.rack, h.lift⟩⟩

theorem satInc_le (n : Nat) : satInc n ≤ 65535 := by
  rw [satInc_eq_min]
  exact Nat.min_le_left ..

/-- Pits of which one changes, to at most two balls. -/
theorem pits_set_le {pits : PerLane (List Nat)} (h : ∀ l, (pits.get l).length ≤ 2) (m : Lane) {balls : List Nat}
    (hb : balls.length ≤ 2) (l : Lane) : ((pits.set m balls).get l).length ≤ 2 := by
  by_cases hl : l = m
  · rwa [hl, PerLane.get_set]
  · rw [PerLane.get_set_of_ne _ hl]
    exact h l

/-- A return that may take, with its next pit and the ball at its front (R76). -/
theorem BallReturn.take_of_next {r : BallReturn} {capacity : Nat} (timeout : Nat) {l : Lane} {stamp : Nat} {rest : List Nat}
    (hm : r.mayTake capacity = true) (hn : r.nextPit = some l) (hp : r.pits.get l = stamp :: rest) :
    r.take capacity timeout
      = { r with pits := r.pits.set l rest, lift := some ⟨stamp, l⟩, carryTimer := some (100 * timeout) } := by
  simp only [BallReturn.take, hm, if_true, hn, BallReturn.takeFrom, hp, seconds]

/-- What the take can do: nothing, or bring the ball at the front of a pit into the empty lift (R76). -/
theorem BallReturn.take_cases (r : BallReturn) (capacity timeout : Nat) :
    r.take capacity timeout = r ∨ ∃ l stamp rest, r.mayTake capacity = true ∧ r.pits.get l = stamp :: rest
      ∧ r.take capacity timeout
        = { r with pits := r.pits.set l rest, lift := some ⟨stamp, l⟩, carryTimer := some (100 * timeout) } := by
  cases hm : r.mayTake capacity with
  | false => exact .inl (by simp [BallReturn.take, hm])
  | true =>
    cases hn : r.nextPit with
    | none => exact .inl (by simp [BallReturn.take, hn])
    | some l =>
      cases hp : r.pits.get l with
      | nil => exact .inl (by simp [BallReturn.take, hn, BallReturn.takeFrom, hp])
      | cons stamp rest => exact .inr ⟨l, stamp, rest, rfl, hp, BallReturn.take_of_next timeout hm hn hp⟩

theorem BallReturn.mayTake_iff {r : BallReturn} {capacity : Nat} :
    r.mayTake capacity = true ↔ r.state = .running ∧ r.lift = none ∧ r.rack < capacity := by
  simp [BallReturn.mayTake, and_assoc]

theorem BallReturn.take_bounded {capacity : Nat} {r : BallReturn} (h : r.Bounded capacity) (timeout : Nat) :
    (r.take capacity timeout).Bounded capacity := by
  rcases r.take_cases capacity timeout with e | ⟨l, stamp, rest, hm, hp, e⟩ <;> rw [e]
  · exact h
  · have hrest : rest.length ≤ 2 := by
      have := h.pits l
      rw [hp, List.length_cons] at this
      omega
    obtain ⟨-, -, hrack⟩ := BallReturn.mayTake_iff.mp hm
    exact ⟨pits_set_le h.pits l hrest, hrack, h.stamps, h.rack, h.lift⟩

theorem ReturnStep.keeps {capacity : Nat} {r r' : BallReturn} (h : ReturnStep capacity r r') (hr : r.Bounded capacity) :
    r'.Bounded capacity := by
  have hballs := hr.balls
  cases h with
  | quiet _ hp hl hk hs hg hh =>
    refine ⟨hp ▸ hr.pits, ?_, hs ▸ hr.stamps, hg ▸ hr.rack, hh ▸ hr.lift⟩
    rwa [BallReturn.inLift, hl, hk]
  | take timeout => exact BallReturn.take_bounded hr timeout
  | enter l hroom =>
    refine ⟨pits_set_le hr.pits l ?_, hr.balls, ?_, hr.rack, hr.lift⟩
    · simpa using hroom
    · simp only [BallReturn.enterPit, wrapInc]
      omega
  | delivered hl =>
    refine ⟨hr.pits, ?_, hr.stamps, hr.rack, hr.lift⟩
    simpa [BallReturn.inLift, hl] using hballs
  | taken => exact ⟨hr.pits, Nat.le_trans (Nat.add_le_add_right (Nat.sub_le ..) _) hballs, hr.stamps, hr.rack, hr.lift⟩
  | rackGlitch => exact ⟨hr.pits, hr.balls, hr.stamps, satInc_le _, hr.lift⟩
  | liftGlitch => exact ⟨hr.pits, hr.balls, hr.stamps, hr.rack, satInc_le _⟩
  | removed lift left right =>
    refine ⟨fun l => ?_, ?_, hr.stamps, hr.rack, hr.lift⟩
    · have := hr.pits l
      cases l <;> simp only [BallReturn.removed, PerLane.get, List.length_drop] at this ⊢ <;> omega
    · simp only [BallReturn.removed, BallReturn.inLift] at hballs ⊢
      split <;> simp_all
      omega
  | counted n hn =>
    refine ⟨hr.pits, ?_, hr.stamps, hr.rack, hr.lift⟩
    have hlift : BallReturn.inLift { r with rack := n } = r.inLift := rfl
    rw [hlift]
    simp only
    omega

theorem Evolves.bounded {c : Scope} {s t : State} (h : Evolves c s t) (hs : ReturnOk s) : ReturnOk t := by
  induction h with
  | trans _ _ h h' => exact h' (h hs)
  | other h =>
    rw [returnOk_iff, h.ret, h.capacity, ← returnOk_iff]
    exact hs
  | @control _ t u _ hu _ ih =>
    have hret : { u.ret with holds := t.ret.holds } = t.ret := (congrArg State.ret hu :)
    have hsettings : u.settings = t.settings := (congrArg State.settings hu :)
    obtain ⟨hr, hcapacity⟩ := (returnOk_iff _).mp (ih hs)
    rw [returnOk_iff, hsettings]
    rw [← hret] at hr
    exact ⟨⟨hr.pits, hr.balls, hr.stamps, hr.rack, hr.lift⟩, hcapacity⟩
  | ret s f hstep _ _ =>
    obtain ⟨hr, hcapacity⟩ := (returnOk_iff _).mp hs
    exact (returnOk_iff _).mpr ⟨hstep.keeps hr, hcapacity⟩
  | capacity s settings hballs hleast hmost =>
    obtain ⟨hr, _⟩ := (returnOk_iff _).mp hs
    exact (returnOk_iff _).mpr ⟨{ hr with balls := hballs }, hleast, hmost⟩
  | refl | offer | feed | session | lines | fewer | empty | overwrite | append => exact hs

/-! ### Feeds (R164, R168) -/

theorem Feed.fill_ok (f : Feed) (b : Banner) (n : Option Nat) : FeedOk (f.fill b n) :=
  ⟨List.length_replicate, List.length_replicate, Nat.zero_le _⟩

theorem Feed.pull_ok {f : Feed} (h : FeedOk f) : FeedOk f.pull := by
  obtain ⟨hlower, hupper, hpointer⟩ := h
  unfold Feed.pull
  dsimp only
  split
  · exact ⟨hlower, hupper, by dsimp only; omega⟩
  · split
    · exact ⟨hlower, hupper, Nat.zero_le _⟩
    · exact ⟨hlower, hupper, by dsimp only; omega⟩

theorem Feed.load_ok {f : Feed} (h : FeedOk f) {lower upper : List Row} (hl : lower.length = 32) (hu : upper.length = 32) :
    FeedOk (f.load lower upper) := by
  obtain ⟨hlower, hupper, hpointer⟩ := h
  unfold Feed.load
  split
  · exact ⟨hl, hu, Nat.zero_le _⟩
  · split
    · exact ⟨hl, hupper, hpointer⟩
    · split
      · exact ⟨hlower, hu, hpointer⟩
      · exact ⟨hlower, hupper, hpointer⟩

theorem FeedStep.keeps {f g : Feed} (h : FeedStep f g) (hf : FeedOk f) : FeedOk g := by
  cases h with
  | mark c a b =>
    unfold Feed.mark
    split <;> exact hf
  | banner b n =>
    unfold Feed.onBanner
    split
    · exact hf
    · split
      · exact hf
      · exact Feed.fill_ok ..
  | pull => exact Feed.pull_ok hf
  | clear c n =>
    unfold Feed.clear
    dsimp only
    split
    · exact Feed.fill_ok ..
    · exact hf
  | load lower upper hl hu => exact Feed.load_ok hf hl hu
  | lastBall | oneShot | highlights => exact hf

theorem Evolves.feedsOk {c : Scope} {s t : State} (h : Evolves c s t) (hs : FeedsOk s) : FeedsOk t := by
  induction h with
  | trans _ _ h h' => exact h' (h hs)
  | other h =>
    intro l
    rw [h.feeds]
    exact hs l
  | control _ hu _ ih =>
    intro l
    rw [(congrArg State.feeds hu :)]
    exact ih hs l
  | feed s l f hstep =>
    intro m
    by_cases hm : m = l
    · subst hm
      simpa using hstep.keeps (hs m)
    · simpa [PerLane.get_set_of_ne _ hm] using hs m
  | refl | offer | session | ret | capacity | lines | fewer | empty | overwrite | append => exact hs

/-! ### What every command keeps -/

/-- A property of what is behind the links, which power-on establishes and every chain keeps, is kept by every command. -/
theorem exec_keeps {P : State → Prop} (powerOn : ∀ waiting, P { State.reset with pending := waiting })
    (port : ∀ (s : State) (k : Link) (f : Port → Port), P s → P (s.modPort k f))
    (evolves : ∀ s t : State, Evolves .all s t → P s → P t) {i : Instr} {s t : State} (hs : P s) (h : exec i s = .next t) :
    P t := by
  have event {s t : State} (h : Event s t) (hs : P s) : P t := by
    induction h with
    | evolves h => exact evolves _ _ h hs
    | port s k f => exact port s k f hs
    | trans _ _ h h' => exact h' (h hs)
  by_cases hi : i = .powerOn
  · subst hi
    cases h
    exact powerOn _
  · exact event (exec_event h hi) hs

namespace Ordered

/-- What an answer of a machine to its step makes due keeps both orders, whether or not the step failed (R54 to R56). -/
theorem of_finishStep {s t : State} (ho : Evolves .orderly s t) (hq : Evolves .quiet s t) (l : Lane) :
    Ordered s (t.finishStep s l).pump :=
  linked.pump (ite (fun _ => of_finish ho) fun _ => of_quiet hq)

end Ordered

/-- Every command but POWER_ON keeps the order of the lanes' control. -/
theorem exec_ordered {i : Instr} {s t : State} (h : exec i s = .next t) (hp : i ≠ .powerOn) : Ordered s t := by
  have o := Evolves.refl (c := .orderly) s
  have q := Evolves.refl (c := .quiet) s
  have L := Ordered.linked
  have e : Ordered s s := id
  cases i with
  | powerOn => exact absurd rfl hp
  | frameReceived k a b c d body f => cases h; exact L.pump (L.receive e k a b c d body f)
  | frameGapTimeout k => cases h; exact L.pump (L.frameGap e k)
  | transmitComplete k => cases h; exact L.pump (L.transmitted e k)
  | breakBegin k => cases h; exact L.pump (L.breakBegins e k)
  | breakEnd k => cases h; exact L.pump (L.modPort e k _)
  | readout n a b => cases h; exact .finished (o.readout rfl n a b)
  | readoutTimeout l => cases h; exact .finished (o.readoutExpires rfl l)
  | warmUpExpiry => cases h; exact .finished o.warmExpires
  | continuousScanExpiry l => cases h; exact .finished (o.contExpires l)
  | arrival l =>
    cases h
    intro hs
    exact L.pump (.ite (fun _ => .of_finish (o.arrive l (.inl rfl) (.inr fun _ => hs.2 l)))
      fun hn => .of_quiet (q.arrive l (.inr hn) (.inr fun _ => hs.2 l))) hs
  | foulBreak l => cases h; exact .quietly (q.foulBroken l).finishLines
  | pinActionDelayExpiry l => cases h; exact .finished (o.delayExpires l)
  | scanTimerExpiry l => cases h; exact .finished (o.scanExpires l)
  | settleWindowExpiry l => cases h; exact .finished (o.windowExpires l)
  | foulGraceExpiry l => cases h; exact .quietly (q.graceExpires l)
  | cycleDelayExpiry l => cases h; exact .finished (o.cycleExpires l)
  | startTimerExpiry l => cases h; exact .quietly (q.startExpires l).feedLoads
  | done l =>
    cases h
    exact L.pump (.ite (fun _ => .of_finish (o.completeDone rfl l)) fun _ => .of_quiet (q.completeDone rfl l))
  | redo l => cases h; exact .of_finishStep (o.completeRedo rfl l) (q.completeRedo rfl l) l
  | faultCompletion l c => cases h; exact .of_finishStep (o.completeFault rfl l (causeOf c)) (q.completeFault rfl l (causeOf c)) l
  | stepTimerExpiry l => cases h; exact .of_finishStep (o.stepExpires rfl l) (q.stepExpires rfl l) l
  | pitDetector l =>
    cases h
    exact L.pump (.ite (fun _ => .of_finish (o.pitEvent rfl l)) fun _ => .of_quiet ((q.pitEvent rfl l).finishReturn rfl))
  | liftTopSensor => cases h; exact .quietly (q.liftTop.finishReturn rfl)
  | rackTake => cases h; exact .quietly (q.rackTaken.finishReturn rfl)
  | carryTimerExpiry =>
    cases h
    exact L.pump (.ite (fun _ => .of_finish (o.carryExpires rfl)) fun _ => .of_quiet ((q.carryExpires rfl).finishReturn rfl))
  | claimTimerExpiry n => cases h; exact .quietly (q.claimExpiry n)
  | minuteTimerExpiry => cases h; exact .finished o.minuteExpires
  | gapTimerExpiry => cases h; exact .quietly q.gapExpires
  | rowPull l => cases h; exact .quietly (q.pullRow l).feedLoads
  | _ => cases h; exact L.request e _ _ _

/-- Settles O60: each bound is kept by the single steps of every chain, and the order of the lanes' control by each command. -/
theorem figuresStayInBounds : Obligations.FiguresStayInBounds := by
  unfold Obligations.FiguresStayInBounds
  obtain ⟨-, meters, returns, feeds, -, -, pauses, controls, armed⟩ := reset_bounds
  refine ⟨fun c s t => ?meters, ⟨fun c s t => ?returns, fun c s t => ?feeds⟩, fun c s t => ?pauses, fun c s t hc ha h => ?order⟩
  case meters => exact exec_keeps (fun _ => meters) (fun _ _ _ => id) fun _ _ h => h.meters
  case returns => exact exec_keeps (fun _ => returns) (fun _ _ _ => id) fun _ _ h => h.bounded
  case feeds => exact exec_keeps (fun _ => feeds) (fun _ _ _ => id) fun _ _ h => h.feedsOk
  case pauses => exact exec_keeps (fun _ => pauses) (fun _ _ _ => id) fun _ _ h => h.pauses
  case order =>
    by_cases hi : c = .powerOn
    · subst hi
      cases h
      exact ⟨controls, armed⟩
    · exact exec_ordered h hi ⟨hc, ha⟩

end Sys2Proof.Machine
end

section
/-! The ball return (chapter 4): what its states, its take and the sweeps that it releases make of the return and of the
sessions. -/
namespace Sys2Proof.Machine

/-! ### The choice of the lift (R76) -/

section
variable {r : BallReturn} {l : Lane} {a b : Nat}

/-- A lane whose pit the lift may take from: with a hold on, only one whose own hold is on. -/
def BallReturn.Candidate (r : BallReturn) (l : Lane) (a : Nat) : Prop :=
  (∃ rest, r.pits.get l = a :: rest) ∧ (r.holds.left = true ∨ r.holds.right = true → r.holds.get l = true)

/-- The ball that a lane offers to the lift. -/
def BallReturn.front (r : BallReturn) (l : Lane) : Option Nat :=
  if !(r.holds.left || r.holds.right) || r.holds.get l then (r.pits.get l).head? else none

theorem nextPit_eq : r.nextPit = oldestPit (r.front .left) (r.front .right) := rfl

theorem front_eq_some_iff : r.front l = some a ↔ r.Candidate l a := by
  have hhead : (r.pits.get l).head? = some a ↔ ∃ rest, r.pits.get l = a :: rest := List.head?_eq_some_iff
  have hheld : (!(r.holds.left || r.holds.right) || r.holds.get l) = true
      ↔ (r.holds.left = true ∨ r.holds.right = true → r.holds.get l = true) := by
    simp only [Bool.or_eq_true, Bool.not_eq_true', ← Bool.not_eq_true]
    tauto
  rw [BallReturn.front, BallReturn.Candidate, ← hhead, ← hheld]
  split <;> rename_i h <;> simp only [h, and_true, and_false, reduceCtorEq, Bool.false_eq_true]

theorem front_eq_none_iff : r.front l = none ↔ ∀ a, ¬ r.Candidate l a := by
  simp only [← front_eq_some_iff, Option.eq_none_iff_forall_ne_some]

/-- Of two balls the older by the stamps: the younger's is at most 32767 behind it (R74). -/
theorem olderStamp_iff : olderStamp a b = true ↔ 1 ≤ (b + 65536 - a) % 65536 ∧ (b + 65536 - a) % 65536 ≤ 32767 := by
  simp [olderStamp]

theorem olderStamp_asymm (h : olderStamp a b = true) : olderStamp b a = false := by
  rw [← Bool.not_eq_true, olderStamp_iff]
  rw [olderStamp_iff] at h
  omega

theorem nextPit_alone (h : r.front l = some a) (h' : r.front (otherLane l) = none) : r.nextPit = some l := by
  cases l <;> rw [otherLane] at h' <;> simp only [nextPit_eq, h, h', oldestPit]

theorem nextPit_older (h : r.front l = some a) (h' : r.front (otherLane l) = some b) (ho : olderStamp a b = true) :
    r.nextPit = some l := by
  cases l <;> rw [otherLane] at h'
  · simp [nextPit_eq, h, h', oldestPit, olderStamp_asymm ho]
  · simp [nextPit_eq, h, h', oldestPit, ho]

theorem nextPit_none (h : ∀ l, r.front l = none) : r.nextPit = none := by
  simp only [nextPit_eq, h, oldestPit]

end

/-! ### The idle condition (R81) -/

section
variable {s t : State} {l : Lane}

/-- Both sessions CLOSED, both pits and the lift empty. -/
def State.ReturnIdles (s : State) : Prop :=
  ∀ l, (s.sessions.get l).state = .closed ∧ s.ret.pits.get l = [] ∧ s.ret.lift = none

theorem returnIdles_iff : s.returnIdles = true ↔ s.ReturnIdles := by
  rw [State.ReturnIdles, forall_lane .left]
  simp only [State.returnIdles, otherLane, PerLane.get, Bool.and_eq_true, decide_eq_true_eq, List.isEmpty_iff, Option.isNone_iff_eq_none]
  tauto

/-- The return after its idle condition is evaluated. -/
def BallReturn.judged (r : BallReturn) (idles : Bool) : BallReturn :=
  match r.state with
  | .running => if idles then { r with state := .idle, cause := none } else r
  | .idle => if idles then r else { r with state := .running, cause := none }
  | .fault => r

/-- The evaluation moves no ball and turns no hold. -/
theorem judged_eq (r : BallReturn) (idles : Bool) :
    r.judged idles = { r with state := (r.judged idles).state, cause := (r.judged idles).cause } := by
  unfold BallReturn.judged
  split
  · split <;> rfl
  · split <;> rfl
  · rfl

theorem judged_state {r : BallReturn} (h : r.state ≠ .fault) (idles : Bool) :
    (r.judged idles).state = if idles then .idle else .running := by
  unfold BallReturn.judged
  split
  · cases idles <;> simp [*]
  · cases idles <;> simp [*]
  · exact absurd ‹_› h

theorem behind_setReturn (s : State) (state : ReturnState) (cause : Option ReturnCause) :
    State.behind (s.setReturn state cause) = (State.behind s).modReturn fun r => { r with state := state, cause := cause } := by
  simp [State.setReturn]

theorem behind_returnIdleEval (s : State) :
    State.behind s.returnIdleEval = (State.behind s).modReturn fun r => r.judged s.returnIdles := by
  have still (e : s.returnIdleEval = s) (hj : s.ret.judged s.returnIdles = s.ret) :
      State.behind s.returnIdleEval = { State.behind s with ret := s.ret.judged s.returnIdles } := by
    rw [e, hj]
    rfl
  have enters (state : ReturnState) (e : s.returnIdleEval = s.setReturn state none)
      (hj : s.ret.judged s.returnIdles = { s.ret with state := state, cause := none }) :
      State.behind s.returnIdleEval = { State.behind s with ret := s.ret.judged s.returnIdles } := by
    rw [e, hj, behind_setReturn]
    rfl
  cases hs : s.ret.state with
  | fault => exact still (by simp [State.returnIdleEval, hs]) (by simp [BallReturn.judged, hs])
  | running =>
    by_cases hi : s.returnIdles = true
    · exact enters .idle (by simp [State.returnIdleEval, hs, hi]) (by simp [BallReturn.judged, hs, hi])
    · exact still (by simp [State.returnIdleEval, hs, hi]) (by simp [BallReturn.judged, hs, hi])
  | idle =>
    by_cases hi : s.returnIdles = true
    · exact still (by simp [State.returnIdleEval, hs, hi]) (by simp [BallReturn.judged, hs, hi])
    · exact enters .running (by simp [State.returnIdleEval, hs, hi]) (by simp [BallReturn.judged, hs, hi])

end

/-! ### A held SWEEP released (R58) -/

section
variable {s : State} {l : Lane} {k : StepKind} {rest : List StepKind}

/-- A SWEEP issued from HELD(PIT) takes the machine back to CYCLING. -/
theorem issueHead_eq (s : State) (l : Lane) (k : StepKind) (rest : List StepKind) : s.issueHead l k rest
    = if (s.psc.get l).state = .heldPit then (s.issues l k rest).setMachine l .cycling else s.issues l k rest := by
  simp [State.issueHead, State.issue, State.setHold, State.issues, Pinsetter.issues, modPsc_eq, modReturn_eq, seconds]

/-- A machine that a pit with room lets go on: its hold is on, and a step waits. -/
structure State.Releases (s : State) (l : Lane) (k : StepKind) (rest : List StepKind) : Prop where
  hold  : (s.psc.get l).pitHold = true
  queue : (s.psc.get l).queue = k :: rest
  room  : (s.ret.pits.get l).length < 2

theorem releaseHold_cases (s : State) (l : Lane) : (s.releaseHold l = s ∧ ∀ k rest, ¬ s.Releases l k rest)
    ∨ ∃ k rest, s.Releases l k rest ∧ s.releaseHold l
      = if (s.psc.get l).state = .heldPit then (s.issues l k rest).setMachine l .cycling else s.issues l k rest := by
  have room_iff : s.pitFull l = false ↔ (s.ret.pits.get l).length < 2 := by
    rw [← Bool.not_eq_true, pitFull_iff, Nat.not_le]
  by_cases hc : (s.psc.get l).pitHold = true ∧ s.pitFull l = false
  · have e : s.releaseHold l = s.nextStep l := if_pos (by simpa using hc)
    obtain ⟨hh, hf⟩ := hc
    rw [e]
    unfold State.nextStep
    split
    · rename_i hq
      exact .inl ⟨rfl, fun k rest h => by simp [h.queue] at hq⟩
    · rename_i k rest hq
      exact .inr ⟨k, rest, ⟨hh, hq, room_iff.mp hf⟩, by rw [if_neg (by simp [hf]), issueHead_eq]⟩
  · refine .inl ⟨if_neg (by simpa using hc), fun k rest h => hc ⟨h.hold, room_iff.mpr h.room⟩⟩

theorem behind_releaseHold (s : State) (l : Lane) : ∃ p hold, State.behind (s.releaseHold l) = State.behind { s with
    psc := s.psc.set l p, ret := { s.ret with holds := s.ret.holds.set l hold } }
    ∧ ((∃ k rest, s.Releases l k rest) → p.pitHold = false ∧ hold = false)
    ∧ ((∀ k rest, ¬ s.Releases l k rest) → p = s.psc.get l ∧ hold = s.ret.holds.get l) := by
  rcases releaseHold_cases s l with ⟨e, hn⟩ | ⟨k, rest, hr, e⟩
  · exact ⟨s.psc.get l, s.ret.holds.get l, by rw [e, PerLane.set_get, PerLane.set_get], fun ⟨k, rest, h⟩ => absurd h (hn k rest),
      fun _ => ⟨rfl, rfl⟩⟩
  · let q := (s.psc.get l).issues k rest s.settings.stepTimeouts
    refine ⟨if (s.psc.get l).state = .heldPit then q.enter .cycling none else q, false, ?_, fun _ => ⟨?_, rfl⟩,
      fun hn => absurd hr (hn k rest)⟩
    · rw [e]
      split
      · rename_i hheld
        rw [behind_setMachine _ _ _ _ _ (by simp [State.issues, Pinsetter.issues, hheld])]
        simp [State.issues, State.behind, modPsc_eq, q]
      · rfl
    · split <;> rfl

/-- The pit counts passed to both machines: each is released or left as it is, with its hold. -/
theorem behind_passPits (s : State) : ∃ psc holds, State.behind s.passPits = State.behind { s with
    psc := psc, ret := { s.ret with holds := holds } }
    ∧ ∀ l, ((∃ k rest, s.Releases l k rest) → (psc.get l).pitHold = false ∧ holds.get l = false)
      ∧ ((∀ k rest, ¬ s.Releases l k rest) → psc.get l = s.psc.get l ∧ holds.get l = s.ret.holds.get l) := by
  let t := s.releaseHold .left
  obtain ⟨p, hold, e, on, off⟩ := behind_releaseHold s .left
  obtain ⟨q, hold', e', on', off'⟩ := behind_releaseHold t .right
  have hpsc : t.psc = s.psc.set .left p := (congrArg State.psc e :)
  have hret : t.ret = { s.ret with holds := s.ret.holds.set .left hold } := (congrArg State.ret e :)
  have right_iff (k : StepKind) (rest : List StepKind) : t.Releases .right k rest ↔ s.Releases .right k rest := by
    have hmachine : t.psc.get .right = s.psc.get .right := by rw [hpsc, PerLane.get_set_of_ne _ (by decide)]
    have hpits : t.ret.pits = s.ret.pits := by rw [hret]
    exact ⟨fun ⟨hh, hq, hr⟩ => ⟨hmachine ▸ hh, hmachine ▸ hq, hpits ▸ hr⟩,
      fun ⟨hh, hq, hr⟩ => ⟨hmachine ▸ hh, hmachine ▸ hq, hpits ▸ hr⟩⟩
  refine ⟨(s.psc.set .left p).set .right q, (s.ret.holds.set .left hold).set .right hold', ?_, fun l => ?_⟩
  · rw [hpsc, hret] at e'
    exact e'.trans (congrArg (fun v : State => { v with
      psc := (s.psc.set .left p).set .right q
      ret := { s.ret with holds := (s.ret.holds.set .left hold).set .right hold' } }) e)
  · cases l with
    | left => exact ⟨on, off⟩
    | right =>
      simp only [right_iff] at on' off'
      rw [hpsc, hret] at off'
      exact ⟨on', off'⟩

/-- Each hold is as the machine has it, and with one on a step waits (R57, R59). -/
def State.HoldsWait (s : State) : Prop :=
  ∀ l, (s.psc.get l).pitHold = s.ret.holds.get l ∧ (s.ret.holds.get l = true → (s.psc.get l).queue ≠ [])

/-- The holds that a full pit keeps on. -/
def BallReturn.full (r : BallReturn) : PerLane Bool :=
  ⟨r.holds.left && decide (2 ≤ r.pits.left.length), r.holds.right && decide (2 ≤ r.pits.right.length)⟩

theorem BallReturn.full_get (r : BallReturn) (l : Lane) : r.full.get l = (r.holds.get l && decide (2 ≤ (r.pits.get l).length)) := by
  cases l <;> rfl

/-- With each hold waiting, those whose pit has room go off (R58). -/
theorem behind_passPits_full {s : State} (h : s.HoldsWait) : ∃ psc, State.behind s.passPits = State.behind { s with
    psc := psc, ret := { s.ret with holds := s.ret.full } } ∧ s.passPits.HoldsWait := by
  obtain ⟨psc, holds, e, hl⟩ := behind_passPits s
  have each (l : Lane) : holds.get l = s.ret.full.get l ∧ (psc.get l).pitHold = holds.get l
      ∧ (holds.get l = true → (psc.get l).queue ≠ []) := by
    obtain ⟨hhold, hqueue⟩ := h l
    obtain ⟨on, off⟩ := hl l
    rw [BallReturn.full_get]
    by_cases hr : s.ret.holds.get l = true ∧ (s.ret.pits.get l).length < 2
    · obtain ⟨hh, hp⟩ := hr
      obtain ⟨k, rest, hq⟩ := List.exists_cons_of_ne_nil (hqueue hh)
      obtain ⟨hoff, hold⟩ := on ⟨k, rest, hhold.trans hh, hq, hp⟩
      simp [hoff, hold, Nat.not_le.mpr hp]
    · obtain ⟨hp, hold⟩ := off fun k rest hrel => hr ⟨hhold.symm.trans hrel.hold, hrel.room⟩
      rw [hp, hold]
      refine ⟨?_, hhold, hqueue⟩
      cases hh : s.ret.holds.get l with
      | false => rfl
      | true =>
        have hfull : 2 ≤ (s.ret.pits.get l).length := Nat.not_lt.mp fun hp => hr ⟨hh, hp⟩
        simp [hfull]
  have hfull : holds = s.ret.full := PerLane.ext_get fun l => (each l).1
  refine ⟨psc, hfull ▸ e, fun l => ?_⟩
  have hpsc : s.passPits.psc = psc := (congrArg State.psc e :)
  have hret : s.passPits.ret.holds = holds := (congrArg (·.ret.holds) e :)
  rw [hpsc, hret]
  exact (each l).2

end

/-! ### Sessions that stay CLOSED, and those that do not become it (R148) -/

/-- The sessions that are CLOSED are those of the lanes in `P`, and no session is PAUSED from CLOSED. -/
structure State.Shuts (P : Lane → Prop) (s : State) : Prop where
  closed : ∀ l, (s.sessions.get l).state = .closed ↔ P l
  paused : ∀ l, (s.sessions.get l).pausedFrom ≠ some .closed

namespace State.Shuts

variable {P : Lane → Prop} {s t : State}

theorem congr (h : s.Shuts P) (e : t.sessions = s.sessions) : t.Shuts P := ⟨by rw [e]; exact h.closed, by rw [e]; exact h.paused⟩

/-- A session that passes from a state other than CLOSED to another. -/
theorem enterSession (h : s.Shuts P) {m : Lane} (hm : (s.sessions.get m).state ≠ .closed) {state : SessionState}
    {from_ : Option SessionState} (hs : state ≠ .closed) (hf : from_ ≠ some .closed) : (s.enterSession m state from_).Shuts P := by
  have hP : ¬ P m := fun hP => hm ((h.closed m).mpr hP)
  refine ⟨fun l => ?_, fun l => ?_⟩ <;> rw [enterSession_sessions] <;> by_cases hl : l = m
  · subst hl
    simp [hs, hP]
  · rw [PerLane.get_set_of_ne _ hl]
    exact h.closed l
  · subst hl
    simpa using hf
  · rw [PerLane.get_set_of_ne _ hl]
    exact h.paused l

theorem pauseEval (h : s.Shuts P) (m : Lane) : (s.pauseEval m).Shuts P := by
  unfold State.pauseEval
  dsimp only
  split
  · split
    · exact h.enterSession (by simp [*]) (by decide) (by decide)
    · exact h
  · split
    · exact h.enterSession (by simp [*]) (by decide) (by decide)
    · exact h
  · split
    · exact h
    · refine h.enterSession (by simp [*]) (fun e => ?_) (by decide)
      cases hp : (s.sessions.get m).pausedFrom with
      | none => simp [hp] at e
      | some a => exact h.paused m (by rw [hp, ← e, hp]; rfl)
  all_goals exact h

theorem opens (h : s.Shuts P) (m : Lane) : (s.opens m).Shuts P := by
  unfold State.opens
  split
  · rename_i ho
    simp only [Bool.and_eq_true, decide_eq_true_eq] at ho
    exact (h.enterSession (by simp [ho]) (by decide) (by decide)).pauseEval m
  · exact h

theorem setMachine (h : s.Shuts P) (m : Lane) (state : MachineState) (cause : Option FaultCause)
    (classes : Option (List PointClass)) : (s.setMachine m state cause classes).Shuts P := by
  unfold State.setMachine
  dsimp only
  split
  · exact h.congr rfl
  · obtain ⟨v, hv, e⟩ := machineChanged_eq (s.modPsc m fun p => p.enter state cause) m (s.psc.get m).state classes
    rw [e]
    have hsess : v.sessions = s.sessions := sessions_of_judged (s := s.modPsc m _) hv
    exact (((h.congr hsess).opens m).pauseEval m).congr rfl

theorem releaseHold (h : s.Shuts P) (m : Lane) : (s.releaseHold m).Shuts P := by
  rcases releaseHold_cases s m with ⟨e, -⟩ | ⟨k, rest, -, e⟩ <;> rw [e]
  · exact h
  · have issued : (s.issues m k rest).Shuts P := h.congr rfl
    split
    · exact issued.setMachine m _ _ _
    · exact issued

theorem passPits (h : s.Shuts P) : s.passPits.Shuts P := (h.releaseHold .left).releaseHold .right

theorem tellReturn (h : s.Shuts P) (n : Notice) : (s.tellReturn n).Shuts P :=
  h.congr (congrArg State.sessions (inside_tellReturn s n) :)

theorem setReturn (h : s.Shuts P) (state : ReturnState) (cause : Option ReturnCause) : (s.setReturn state cause).Shuts P :=
  (((h.congr (t := s.modReturn fun r => { r with state := state, cause := cause }) rfl).tellReturn _).pauseEval .left).pauseEval .right

theorem returnIdleEval (h : s.Shuts P) : s.returnIdleEval.Shuts P := by
  unfold State.returnIdleEval
  split
  · split
    · exact h.setReturn _ _
    · exact h
  · split
    · exact h
    · exact h.setReturn _ _
  · exact h

theorem returnPump (h : s.Shuts P) : s.returnPump.Shuts P :=
  (h.returnIdleEval.congr (t := s.returnIdleEval.takeBall) rfl).passPits

end State.Shuts

/-! ### What falls due of the return (R58, R76, R81) -/

section
variable {s : State}

theorem returnIdleEval_ret (s : State) : s.returnIdleEval.ret = s.ret.judged s.returnIdles :=
  (congrArg State.ret (behind_returnIdleEval s) :)

theorem returnIdleEval_settings (s : State) : s.returnIdleEval.settings = s.settings :=
  (congrArg State.settings (behind_returnIdleEval s) :)

/-- The return after its idle condition and its take. -/
def State.pumped (s : State) : BallReturn :=
  (s.ret.judged s.returnIdles).take s.settings.rackCapacity s.settings.carryTimeout

theorem takeBall_ret (s : State) : s.returnIdleEval.takeBall.ret = s.pumped := by
  simp only [State.takeBall, modReturn_eq, returnIdleEval_ret, returnIdleEval_settings, State.pumped]

/-- The sweeps released turn holds off, and reach nothing else of the return. -/
theorem passPits_ret (s : State) : s.passPits.ret = { s.ret with holds := s.passPits.ret.holds } := by
  obtain ⟨psc, holds, e, -⟩ := behind_passPits s
  have hret : s.passPits.ret = { s.ret with holds := holds } := (congrArg State.ret e :)
  rw [hret]

theorem returnPump_ret (s : State) : s.returnPump.ret = { s.pumped with holds := s.returnPump.ret.holds } := by
  rw [← takeBall_ret]
  exact passPits_ret _

/-- The take changes no return state. -/
theorem take_state (r : BallReturn) (capacity timeout : Nat) : (r.take capacity timeout).state = r.state := by
  rcases r.take_cases capacity timeout with e | ⟨l, stamp, rest, -, -, e⟩ <;> rw [e]

theorem returnPump_state (s : State) : s.returnPump.ret.state = (s.ret.judged s.returnIdles).state := by
  rw [returnPump_ret]
  exact take_state ..

/-- A return that is not RUNNING takes nothing. -/
theorem take_still {r : BallReturn} {capacity timeout : Nat} (h : r.mayTake capacity = false) : r.take capacity timeout = r :=
  if_neg (by simp [h])

/-- A take leaves a ball in the lift. -/
theorem take_of_lift {r : BallReturn} {capacity timeout : Nat} (h : (r.take capacity timeout).lift = none) :
    r.take capacity timeout = r := by
  rcases r.take_cases capacity timeout with e | ⟨l, stamp, rest, -, -, e⟩
  · exact e
  · rw [e] at h
    cases h

/-- With no session PAUSED from CLOSED, a return that is not in FAULT is IDLE after its event exactly when the idle condition then
holds. -/
theorem returnPump_judges (hs : s.ret.state ≠ .fault) (hp : ∀ l, (s.sessions.get l).pausedFrom ≠ some .closed) :
    (s.returnPump.ReturnIdles → s.returnPump.ret.state = .idle)
      ∧ (¬ s.returnPump.ReturnIdles → s.returnPump.ret.state = .running) := by
  have hshuts : s.returnPump.Shuts fun l => (s.sessions.get l).state = .closed := (State.Shuts.mk (fun _ => Iff.rfl) hp).returnPump
  have hret := returnPump_ret s
  have idles_iff : s.returnPump.ReturnIdles ↔ s.ReturnIdles := by
    have pits {t : State} (h : t.ret.pits = s.ret.pits) (hl : t.ret.lift = s.ret.lift)
        (hc : ∀ l, (t.sessions.get l).state = .closed ↔ (s.sessions.get l).state = .closed) : t.ReturnIdles ↔ s.ReturnIdles := by
      simp only [State.ReturnIdles, h, hl, hc]
    have same (e : s.pumped = s.ret.judged s.returnIdles) : s.returnPump.ReturnIdles ↔ s.ReturnIdles := by
      rw [e, judged_eq] at hret
      exact pits (by rw [hret]) (by rw [hret]) hshuts.closed
    constructor
    · intro h
      refine (same (take_of_lift ?_)).mp h
      have hl := (h .left).2.2
      rwa [hret] at hl
    · intro h
      refine (same (take_still ?_)).mpr h
      rw [← Bool.not_eq_true, BallReturn.mayTake_iff, judged_state hs, returnIdles_iff.mpr h]
      simp
  rw [returnPump_state, judged_state hs, idles_iff, ← returnIdles_iff]
  cases s.returnIdles <;> simp

end

end Sys2Proof.Machine
end

section
/-! The ball return (chapter 4): its events, the choice of the lift, and the idle condition at the end of an event. -/
namespace Sys2Proof.Machine

/-! ### Balls that enter a pit (R74, R75) -/

section
variable {s : State} {l : Lane}

theorem pitEvent_enters (h : (s.ret.pits.get l).length < 2) : s.pitEvent l = s.modReturn fun r => r.enterPit l := if_pos h

/-- A ball that finds its pit full is told, and fails a return that is RUNNING (R75, R81). -/
theorem pitEvent_overflows (h : 2 ≤ (s.ret.pits.get l).length) (hs : s.ret.state = .running) :
    State.behind (s.pitEvent l)
      = (State.behind s).modReturn fun r => { r with state := .fault, cause := some .pitOverflow, carryTimer := none } := by
  have e : s.pitEvent l = ((s.broadcast (.pitOverflow (s.laneNumber l) (s.ret.pits.get l))).modReturn fun r =>
      { r with carryTimer := none }).setReturn .fault (some .pitOverflow) := by
    simp only [State.pitEvent, if_neg (Nat.not_lt.mpr h), hs]
  rw [e, behind_setReturn, behind_modReturn, behind_broadcast]
  rfl

/-- Outside RUNNING it is told and changes nothing else (log 2). -/
theorem pitEvent_told (h : 2 ≤ (s.ret.pits.get l).length) (hs : s.ret.state ≠ .running) :
    s.pitEvent l = s.broadcast (.pitOverflow (s.laneNumber l) (s.ret.pits.get l)) := by
  unfold State.pitEvent
  dsimp only
  rw [if_neg (Nat.not_lt.mpr h)]
  split
  · exact absurd ‹_› hs
  all_goals rfl

/-! ### The end of an event of the return -/

/-- An event that does not fail the return ends with what the return makes due. -/
theorem finishPit_quiet {u : State} (h : u.ret.state = s.ret.state) : u.finishPit s = u.finishReturn :=
  if_neg (by simp [h])

/-- A return that fails ends its event with all that falls due (R148). -/
theorem finishPit_fails {u : State} (hu : u.ret.state = .fault) (hs : s.ret.state ≠ .fault) : u.finishPit s = u.finish :=
  if_pos (by simp [hu, hs])

theorem exec_pitDetector (s : State) (l : Lane) : exec (.pitDetector l) s = .next ((s.pitEvent l).finishPit s).pump := rfl

theorem exec_carryTimerExpiry (s : State) : exec .carryTimerExpiry s = .next (s.carryExpires.finishPit s).pump := rfl

/-! ### The lift and the rack (R77 to R79) -/

theorem liftTop_delivers (h : s.ret.lift ≠ none) :
    State.inside s.liftTop = (State.inside s).modReturn fun r => { r with lift := none, carryTimer := none, rack := r.rack + 1 } := by
  unfold State.liftTop
  rw [if_pos (Option.isSome_iff_ne_none.mpr h)]
  dsimp only
  split
  · exact inside_tellReturn ..
  · rfl

theorem liftTop_glitch (h : s.ret.lift = none) :
    s.liftTop = s.modReturn fun r => { r with liftGlitches := min 65535 (r.liftGlitches + 1) } := by
  simp [State.liftTop, h, satInc_eq_min]

theorem rackTaken_takes (h : 0 < s.ret.rack) :
    State.inside s.rackTaken = (State.inside s).modReturn fun r => { r with rack := r.rack - 1 } := by
  unfold State.rackTaken
  dsimp only
  rw [if_pos h]
  split
  · exact inside_tellReturn ..
  · rfl

theorem rackTaken_glitch (h : s.ret.rack = 0) :
    s.rackTaken = s.modReturn fun r => { r with rackGlitches := min 65535 (r.rackGlitches + 1) } := by
  simp [State.rackTaken, h, satInc_eq_min]

theorem carryExpires_jams (ht : s.ret.carryTimer ≠ none) (hl : s.ret.lift ≠ none) (hs : s.ret.state = .running) :
    State.behind s.carryExpires
      = (State.behind s).modReturn fun r => { r with state := .fault, cause := some .liftJam, carryTimer := none } := by
  have e : s.carryExpires = (s.modReturn fun r => { r with carryTimer := none }).setReturn .fault (some .liftJam) :=
    if_pos (by simp [Option.isSome_iff_ne_none, ht, hl, hs])
  rw [e, behind_setReturn]
  rfl

theorem carryExpires_still (h : s.ret.carryTimer = none) : s.carryExpires = s := if_neg (by simp [h])

end

/-! ### The take (R76) -/

section
variable {r : BallReturn} {l : Lane} {a b capacity timeout : Nat}

/-- The take of a return that may take, from the lane that is next. -/
theorem take_candidate (hm : r.mayTake capacity = true) (hc : r.Candidate l a) (hn : r.nextPit = some l) :
    r.take capacity timeout = { r with
      pits := r.pits.set l ((r.pits.get l).drop 1), lift := some ⟨a, l⟩, carryTimer := some (100 * timeout) } := by
  obtain ⟨⟨rest, hp⟩, -⟩ := hc
  rw [BallReturn.take_of_next timeout hm hn hp, hp]
  rfl

theorem take_no_candidate (h : ∀ l a, ¬ r.Candidate l a) : r.take capacity timeout = r := by
  have hn : r.nextPit = none := nextPit_none fun l => front_eq_none_iff.mpr (h l)
  simp only [BallReturn.take, hn, ite_self]

end

/-! ### The idle condition at the end of an event (R81) -/

section
variable {s t u : State}

/-- The end of an event after the return reaches neither the sessions nor the return. -/
theorem finish_ret (s : State) : s.finish.ret = s.dsuPump.sessionsFollow.machinesStandby.returnPump.ret := by
  have pdu (t : State) (l : Lane) : (t.pduSync l).ret = t.ret := by
    unfold State.pduSync State.arm State.disarm State.rebind
    dsimp only
    repeat' split
    all_goals rfl
  have head (t : State) : t.headStandby.ret = t.ret := (congrArg State.ret (headStandby_inside t) :)
  have banners (t : State) : t.bannersEval.ret = t.ret := (congrArg State.ret (inside_bannersEval t) :)
  have lines (t : State) : t.finishLines.ret = t.ret := by
    obtain ⟨v, hv⟩ := inside_finishLines t
    exact (congrArg State.ret hv :)
  rw [State.finish, lines, banners, head, State.pdusSync, pdu, pdu]

/-- What the end of an event makes of the return, `v` being the state whose return it judges. -/
structure State.Judges (s v t : State) : Prop where
  state    : v.ret.state = s.ret.state
  paused   : (∀ l, (s.sessions.get l).pausedFrom ≠ some .closed) → ∀ l, (v.sessions.get l).pausedFrom ≠ some .closed
  ret      : t.ret = v.returnPump.ret
  sessions : t.sessions = v.returnPump.sessions

theorem judges_returnPump (s : State) : s.Judges s s.returnPump := ⟨rfl, id, rfl, rfl⟩

theorem judges_finishReturn (s : State) : s.Judges s s.finishReturn := ⟨rfl, id, rfl, rfl⟩

theorem judges_finish (s : State) : ∃ v, s.Judges v s.finish := by
  let c : Scope := ⟨false, true, true, true⟩
  have h : Evolves c s s.dsuPump.sessionsFollow.machinesStandby := (((Evolves.refl s).dsuPump rfl).sessionsFollow).machinesStandby rfl
  exact ⟨_, h.returns rfl, h.pausedFrom_ne (by decide), finish_ret s, sessions_of_judged (finish_judged s)⟩

theorem State.Judges.holds {v : State} (h : s.Judges v t) : (s.ret.state = .fault → t.ret.state = .fault)
    ∧ (s.ret.state ≠ .fault → (∀ l, (s.sessions.get l).pausedFrom ≠ some .closed) →
        (t.ReturnIdles → t.ret.state = .idle) ∧ (¬ t.ReturnIdles → t.ret.state = .running)) := by
  have idles_iff : t.ReturnIdles ↔ v.returnPump.ReturnIdles := by simp only [State.ReturnIdles, h.ret, h.sessions]
  rw [h.ret, idles_iff]
  refine ⟨fun hf => ?_, fun hf hp => returnPump_judges (h.state ▸ hf) (h.paused hp)⟩
  have hv : v.ret.state = .fault := h.state.trans hf
  simp [returnPump_state, BallReturn.judged, hv]

end

/-- Settles O53: each event by what its operation makes of the return, the take by the lane that is next, and the idle condition
by what its evaluation and the take make of the return. -/
theorem returnEvents : Obligations.ReturnEvents := by
  unfold Obligations.ReturnEvents
  refine ⟨fun s => ?events, fun r capacity timeout => ?take, fun s => ⟨returnIdles_iff, fun hs hi => ?rests,
    fun hs hi => ?runs, ?judged⟩⟩
  case events =>
    have behind {u : State} {r : BallReturn} (h : State.behind u = (State.behind s).modReturn fun _ => r) :
        SameInside u { s with ret := r, sessions := u.sessions } := (sameInside_iff_behind u { s with ret := r }).mpr h
    have inside {u : State} {r : BallReturn} (h : State.inside u = (State.inside s).modReturn fun _ => r) :
        SameInside u { s with ret := r } := (sameInside_iff_inside u { s with ret := r }).mpr h
    refine ⟨fun l => ⟨fun h => ?_, fun h hs => ?_, fun h hs => ?_⟩, fun h => ?_, fun h => ?_, fun h => ?_, fun h => ?_,
      fun ht hl hs => ?_, fun h => ?_⟩
    · exact ⟨_, by rw [exec_pitDetector, pitEvent_enters h, finishPit_quiet (by rfl)], rfl⟩
    · have e := pitEvent_overflows h hs
      have hfault : (s.pitEvent l).ret.state = .fault := (congrArg (·.ret.state) e :)
      exact ⟨_, by rw [exec_pitDetector, finishPit_fails hfault (by simp [hs])], behind e⟩
    · exact ⟨_, by rw [exec_pitDetector, pitEvent_told h hs, finishPit_quiet (by simp)], inside (inside_broadcast s _)⟩
    · exact ⟨_, rfl, inside (liftTop_delivers h)⟩
    · exact ⟨_, rfl, by rw [liftTop_glitch h]; rfl⟩
    · exact ⟨_, rfl, inside (rackTaken_takes h)⟩
    · exact ⟨_, rfl, by rw [rackTaken_glitch h]; rfl⟩
    · have e := carryExpires_jams ht hl hs
      have hfault : s.carryExpires.ret.state = .fault := (congrArg (·.ret.state) e :)
      exact ⟨_, by rw [exec_carryTimerExpiry, finishPit_fails hfault (by simp [hs])], behind e⟩
    · exact ⟨_, by rw [exec_carryTimerExpiry, carryExpires_still h, finishPit_quiet (by rfl)], rfl⟩
  case take =>
    refine ⟨fun hs hl hr l a hc => ?_, fun h => ?_⟩
    · have hm := BallReturn.mayTake_iff.mpr ⟨hs, hl, hr⟩
      have hf := front_eq_some_iff.mpr hc
      refine ⟨fun h => take_candidate hm hc (nextPit_alone hf (front_eq_none_iff.mpr h)), fun b hb h1 h2 => ?_⟩
      exact take_candidate hm hc (nextPit_older hf (front_eq_some_iff.mpr hb) (olderStamp_iff.mpr ⟨h1, h2⟩))
    · have still (h : ¬ r.mayTake capacity = true) : r.take capacity timeout = r := take_still (Bool.not_eq_true _ ▸ h)
      rw [BallReturn.mayTake_iff] at still
      rcases h with h | h | h | h
      · exact still fun ⟨hs, _, _⟩ => h hs
      · exact still fun ⟨_, hl, _⟩ => h hl
      · exact still fun ⟨_, _, hr⟩ => h.not_gt hr
      · exact take_no_candidate h
  case rests =>
    have e : s.ret.judged s.returnIdles = { s.ret with state := .idle, cause := none } := by
      simp [BallReturn.judged, hs, returnIdles_iff.mpr hi]
    rw [returnPump_ret, State.pumped, e, take_still (by simp [BallReturn.mayTake])]
  case runs =>
    rw [returnPump_state, judged_state (by simp [hs]), if_neg (by rwa [returnIdles_iff])]
  case judged =>
    rintro t (rfl | rfl | rfl)
    · exact (judges_returnPump s).holds
    · obtain ⟨v, h⟩ := judges_finish s
      exact h.holds
    · exact (judges_finishReturn s).holds

end Sys2Proof.Machine
end

section
/-! The ball return (chapter 4): clear-return. -/
namespace Sys2Proof.Machine

/-! ### The steps of a clear (R83) -/

/-- The return with the rack count given, if one is, and out of FAULT, if it was there. -/
def BallReturn.recounted (r : BallReturn) (rack : Option Nat) (was : ReturnState) : BallReturn :=
  { r with
    rack := rack.getD r.rack, state := if was = .fault then .running else r.state, cause := if was = .fault then none else r.cause }

/-- The return after the balls reported and the rack count given; a released hold may still go off. -/
def BallReturn.reported (r : BallReturn) (lift left right : Nat) (rack : Option Nat) : BallReturn :=
  (r.removed lift left right).recounted rack r.state

/-- The return that goes on to take, after the balls reported and the rack count given: RUNNING, with the holds of full pits. -/
def BallReturn.released (r : BallReturn) (lift left right : Nat) (rack : Option Nat) : BallReturn :=
  { r.removed lift left right with
    state := .running, cause := none, rack := rack.getD r.rack, holds := (r.removed lift left right).full }

/-- A ball left in the lift of a RUNNING return is carried on. -/
def BallReturn.carriedOn (r : BallReturn) (timeout : Nat) : BallReturn :=
  if r.state = .running && r.lift.isSome then { r with carryTimer := some (100 * timeout) } else r

/-- The balls reported leave, and the sweeps that this releases are issued. -/
def State.clearedBalls (s : State) (lift left right : Nat) : State := (s.modReturn fun r => r.removed lift left right).passPits

/-- The rack count given is taken. -/
def State.clearedRack (s : State) (rack : Option Nat) : State :=
  match rack with
  | some n => (s.modReturn fun r => { r with rack := n }).rackMoved (liftCondition s.ret s.settings.rackCapacity)
  | none => s

/-- The state whose return is as reported. -/
def State.reports (s : State) (lift left right : Nat) (rack : Option Nat) : State :=
  let v := (s.clearedBalls lift left right).clearedRack rack
  if s.ret.state = .fault then v.setReturn .running none else v

/-- The state before what the event makes due of the return follows. -/
def State.cleared (s : State) (lift left right : Nat) (rack : Option Nat) : State :=
  let v := (s.reports lift left right rack).returnIdleEval
  v.modReturn fun r => r.carriedOn v.settings.carryTimeout

section
variable (s : State) (lift left right : Nat) (rack : Option Nat)

theorem behind_clearedRack : State.behind (s.clearedRack rack)
    = (State.behind s).modReturn fun r => { r with rack := rack.getD r.rack } := by
  have moved (v : State) (before : LiftCondition) : State.behind (v.rackMoved before) = State.behind v := by
    unfold State.rackMoved
    dsimp only
    split
    · exact behind_tellReturn ..
    · split
      · exact behind_tellReturn ..
      · rfl
  cases rack with
  | some n => exact moved _ _
  | none => rfl

theorem behind_reports : State.behind (s.reports lift left right rack)
    = (State.behind (s.clearedBalls lift left right)).modReturn fun r => r.recounted rack s.ret.state := by
  unfold State.reports
  dsimp only
  split
  · rename_i hf
    rw [behind_setReturn, behind_clearedRack]
    simp only [modReturn_eq, BallReturn.recounted, hf, if_true]
  · rename_i hf
    rw [behind_clearedRack]
    simp only [modReturn_eq, BallReturn.recounted, hf, if_false]

theorem reports_ret : (s.reports lift left right rack).ret
    = { s.ret.reported lift left right rack with holds := (s.clearedBalls lift left right).ret.holds } := by
  have hballs : (s.clearedBalls lift left right).ret
      = { s.ret.removed lift left right with holds := (s.clearedBalls lift left right).ret.holds } := passPits_ret _
  have h := congrArg State.ret (behind_reports s lift left right rack)
  exact h.trans (congrArg (BallReturn.recounted · rack s.ret.state) hballs)

theorem reports_settings : (s.reports lift left right rack).settings = s.settings := by
  obtain ⟨psc, holds, e, -⟩ := behind_passPits (s.modReturn fun r => r.removed lift left right)
  have h : (s.reports lift left right rack).settings = _ := (congrArg State.settings (behind_reports s lift left right rack) :)
  exact h.trans (congrArg State.settings e :)

theorem State.Shuts.rackMoved {P : Lane → Prop} {s : State} (h : s.Shuts P) (before : LiftCondition) :
    (s.rackMoved before).Shuts P := by
  unfold State.rackMoved
  dsimp only
  split
  · exact h.tellReturn _
  · split
    · exact h.tellReturn _
    · exact h

theorem State.Shuts.reports {P : Lane → Prop} {s : State} (h : s.Shuts P) (lift left right : Nat) (rack : Option Nat) :
    (s.reports lift left right rack).Shuts P := by
  have balls : (s.clearedBalls lift left right).Shuts P := (h.congr (t := s.modReturn _) rfl).passPits
  have counted : ((s.clearedBalls lift left right).clearedRack rack).Shuts P := by
    cases rack with
    | some n => exact (balls.congr (t := (s.clearedBalls lift left right).modReturn _) rfl).rackMoved _
    | none => exact balls
  unfold State.reports
  dsimp only
  split
  · exact counted.setReturn _ _
  · exact counted

theorem tellReturn_ret (s : State) (n : Notice) : (s.tellReturn n).ret = s.ret := (congrArg State.ret (inside_tellReturn s n) :)

/-- A clear is what the return makes due after it, and a notice. -/
theorem clearReturn_eq : s.clearReturn lift left right rack =
    if s.ret.state = .running && (s.cleared lift left right rack).returnPump.ret.state = .running then
      (s.cleared lift left right rack).returnPump.tellReturn
        ((s.cleared lift left right rack).returnPump.returnNotice .returnCleared)
    else (s.cleared lift left right rack).returnPump := by
  cases rack <;> simp only [State.clearReturn, State.cleared, State.reports, State.clearedRack, State.clearedBalls,
    BallReturn.carriedOn, seconds] <;> rfl

theorem clearReturn_ret : (s.clearReturn lift left right rack).ret = (s.cleared lift left right rack).returnPump.ret := by
  rw [clearReturn_eq]
  split
  · exact tellReturn_ret ..
  · rfl

end

/-! ### What a clear leaves (R76, R81, R83) -/

section
variable {r : BallReturn} {capacity timeout : Nat}

theorem reported_state (r : BallReturn) (lift left right : Nat) (rack : Option Nat) :
    (r.reported lift left right rack).state ≠ .fault := by
  unfold BallReturn.reported BallReturn.recounted
  dsimp only
  split
  · decide
  · assumption

/-- Without the idle condition a return is RUNNING, its cause kept or none. -/
theorem judged_runs (h : r.state ≠ .fault) :
    ∃ cause, r.judged false = { r with state := .running, cause := cause } ∧ (r.cause = none → cause = none) := by
  refine ⟨(r.judged false).cause, ?_, fun hc => ?_⟩
  · conv_lhs => rw [judged_eq, judged_state h]
    rfl
  · unfold BallReturn.judged
    split
    · exact hc
    · rfl
    · exact hc

/-- A RUNNING return without the idle condition stays as it is. -/
theorem judged_running (h : r.state = .running) : r.judged false = r := by simp [BallReturn.judged, h]

theorem carriedOn_eq (r : BallReturn) (timeout : Nat) :
    r.carriedOn timeout = { r with carryTimer := (r.carriedOn timeout).carryTimer } := by
  unfold BallReturn.carriedOn
  split <;> rfl

theorem carriedOn_empty (h : r.lift = none) : r.carriedOn timeout = r := if_neg (by simp [h])

theorem carriedOn_running (hs : r.state = .running) (hl : r.lift ≠ none) :
    r.carriedOn timeout = { r with carryTimer := some (100 * timeout) } := if_pos (by simp [hs, Option.isSome_iff_ne_none.mpr hl])

/-- The take does not read the cause. -/
theorem take_cause (r : BallReturn) (cause : Option ReturnCause) (capacity timeout : Nat) :
    { r with cause := cause }.take capacity timeout = { r.take capacity timeout with cause := cause } := by
  have hm : { r with cause := cause }.mayTake capacity = r.mayTake capacity := rfl
  have hn : { r with cause := cause }.nextPit = r.nextPit := rfl
  unfold BallReturn.take BallReturn.takeFrom
  rw [hm, hn]
  split
  · split
    · dsimp only
      split <;> rfl
    · rfl
  · rfl

/-- A return with a ball in its lift takes none. -/
theorem take_carrying (h : r.lift ≠ none) : r.take capacity timeout = r := by
  refine take_still (Bool.not_eq_true _ ▸ fun hm => ?_)
  obtain ⟨-, hl, -⟩ := BallReturn.mayTake_iff.mp hm
  exact h hl

/-- The take turns no hold. -/
theorem take_holds (r : BallReturn) (capacity timeout : Nat) : (r.take capacity timeout).holds = r.holds := by
  rcases r.take_cases capacity timeout with e | ⟨l, stamp, rest, -, -, e⟩ <;> rw [e]

/-- A take leaves no pit fuller. -/
theorem take_pits_le (r : BallReturn) (capacity timeout : Nat) (l : Lane) :
    ((r.take capacity timeout).pits.get l).length ≤ (r.pits.get l).length := by
  rcases r.take_cases capacity timeout with e | ⟨m, stamp, rest, -, hp, e⟩ <;> rw [e]
  by_cases hl : l = m
  · subst hl
    simp [hp]
  · rw [PerLane.get_set_of_ne _ hl]

theorem removed_lift {lift : Nat} (h : r.lift = none ∨ lift = 1) (left right : Nat) : (r.removed lift left right).lift = none := by
  rcases h with h | h <;> simp [BallReturn.removed, h]

end

section
variable {s : State} {lift left right : Nat} {rack : Option Nat}

/-- The return just before what the event makes due of it. -/
theorem cleared_ret (s : State) (lift left right : Nat) (rack : Option Nat) : (s.cleared lift left right rack).ret
    = ((s.reports lift left right rack).ret.judged (s.reports lift left right rack).returnIdles).carriedOn s.settings.carryTimeout := by
  unfold State.cleared
  dsimp only
  rw [modReturn_eq, returnIdleEval_settings, reports_settings, returnIdleEval_ret]

theorem cleared_settings (s : State) (lift left right : Nat) (rack : Option Nat) :
    (s.cleared lift left right rack).settings = s.settings :=
  (returnIdleEval_settings _).trans (reports_settings ..)

theorem State.Shuts.cleared {P : Lane → Prop} (h : s.Shuts P) : (s.cleared lift left right rack).Shuts P :=
  (h.reports lift left right rack).returnIdleEval.congr rfl

theorem cleared_pumped (s : State) (lift left right : Nat) (rack : Option Nat) : (s.cleared lift left right rack).pumped
    = ((s.cleared lift left right rack).ret.judged (s.cleared lift left right rack).returnIdles).take
        s.settings.rackCapacity s.settings.carryTimeout := by
  rw [State.pumped, cleared_settings]

theorem reports_state : (s.reports lift left right rack).ret.state ≠ .fault := by
  rw [reports_ret]
  exact reported_state s.ret lift left right rack

/-- A clear that leaves the lift or a pit with a ball runs the return: the idle condition does not hold. -/
theorem cleared_runs (h : (s.ret.removed lift left right).lift = none → ∃ l, (s.ret.removed lift left right).pits.get l ≠ []) :
    ∃ cause, (s.cleared lift left right rack).ret = { s.ret.reported lift left right rack with
        state := .running, cause := cause, holds := (s.clearedBalls lift left right).ret.holds }.carriedOn s.settings.carryTimeout
      ∧ (s.ret.state = .fault → cause = none)
      ∧ (s.cleared lift left right rack).pumped
        = (s.cleared lift left right rack).ret.take s.settings.rackCapacity s.settings.carryTimeout := by
  have busy {v : State} (hp : v.ret.pits = (s.ret.removed lift left right).pits)
      (hl : v.ret.lift = (s.ret.removed lift left right).lift) :
      v.returnIdles = false := by
    rw [← Bool.not_eq_true, returnIdles_iff]
    intro hi
    obtain ⟨l, hne⟩ := h (hl ▸ (hi .left).2.2)
    exact hne (hp ▸ (hi l).2.1)
  have hret := reports_ret s lift left right rack
  obtain ⟨cause, hj, hc⟩ := judged_runs (reports_state (s := s) (lift := lift) (left := left) (right := right) (rack := rack))
  have hclear := cleared_ret s lift left right rack
  rw [busy (by rw [hret]; rfl) (by rw [hret]; rfl), hj, hret] at hclear
  refine ⟨cause, hclear, fun hf => hc (by simp [hret, BallReturn.reported, BallReturn.recounted, hf]), ?_⟩
  rw [carriedOn_eq] at hclear
  rw [cleared_pumped, busy (by rw [hclear]; rfl) (by rw [hclear]; rfl), judged_running (by rw [hclear])]

/-- A clear that leaves a ball in the lift carries it on (R83). -/
theorem clearReturn_carries (h : (s.ret.removed lift left right).lift ≠ none) :
    ∃ cause holds, (s.clearReturn lift left right rack).ret = { s.ret.removed lift left right with
        state := .running, cause := cause, rack := rack.getD s.ret.rack, holds := holds
        carryTimer := some (100 * s.settings.carryTimeout) }
      ∧ (s.ret.state = .fault → cause = none) := by
  obtain ⟨cause, hret, hc, hpumped⟩ := cleared_runs (rack := rack) fun e => absurd e h
  rw [carriedOn_running rfl (by exact h)] at hret
  refine ⟨cause, (s.cleared lift left right rack).returnPump.ret.holds, ?_, hc⟩
  rw [clearReturn_ret, returnPump_ret, hpumped, take_carrying (by rw [hret]; exact h), hret]
  rfl

/-- A clear that leaves no ball leaves a return that is IDLE with both sessions CLOSED, and else RUNNING (R81). -/
theorem clearReturn_empties (hl : (s.ret.removed lift left right).lift = none)
    (hp : ∀ l, (s.ret.removed lift left right).pits.get l = [])
    (hpaused : ∀ l, (s.sessions.get l).pausedFrom ≠ some .closed) :
    let t := s.clearReturn lift left right rack
    t.ret.lift = none ∧ t.ret.pits = ⟨[], []⟩ ∧ t.ret.rack = rack.getD s.ret.rack
      ∧ t.ret.state = (if s.sessions.left.state = .closed ∧ s.sessions.right.state = .closed then .idle else .running) := by
  let x := s.cleared lift left right rack
  have hshuts : x.Shuts fun l => (s.sessions.get l).state = .closed := (State.Shuts.mk (fun _ => Iff.rfl) hpaused).cleared
  have hpits : (s.ret.removed lift left right).pits = ⟨[], []⟩ := PerLane.ext_get fun l => (hp l).trans (by cases l <;> rfl)
  have hx : x.ret = (s.reports lift left right rack).ret.judged (s.reports lift left right rack).returnIdles := by
    rw [cleared_ret, carriedOn_empty]
    rw [judged_eq, reports_ret]
    exact hl
  have hstate : x.ret.state ≠ .fault := by
    rw [hx, judged_state reports_state]
    split <;> decide
  have hballs : x.ret.lift = none ∧ x.ret.pits = ⟨[], []⟩ ∧ x.ret.rack = rack.getD s.ret.rack := by
    rw [hx, judged_eq, reports_ret]
    exact ⟨hl, hpits, rfl⟩
  obtain ⟨hlift, hpit, hrack⟩ := hballs
  have hpumped : x.pumped = x.ret.judged x.returnIdles := by
    rw [cleared_pumped]
    rcases BallReturn.take_cases (x.ret.judged x.returnIdles) s.settings.rackCapacity s.settings.carryTimeout with
      e | ⟨l, stamp, rest, -, hfront, -⟩
    · exact e
    · rw [judged_eq] at hfront
      cases l <;> simp [hpit, PerLane.get] at hfront
  have idles_iff : x.returnIdles = true ↔ s.sessions.left.state = .closed ∧ s.sessions.right.state = .closed := by
    rw [returnIdles_iff, State.ReturnIdles, forall_lane .left, otherLane, hshuts.closed, hshuts.closed, hpit]
    simp [hlift, PerLane.get]
  have hret : (s.clearReturn lift left right rack).ret = { x.ret.judged x.returnIdles with holds := x.returnPump.ret.holds } := by
    rw [clearReturn_ret, returnPump_ret, hpumped]
  dsimp only
  rw [hret]
  refine ⟨?_, ?_, ?_, ?_⟩
  · rw [judged_eq]; exact hlift
  · rw [judged_eq]; exact hpit
  · rw [judged_eq]; exact hrack
  · simp only [judged_state hstate, idles_iff]

/-- A clear that leaves balls in a pit alone, the lift empty: the holds whose pit has room go off, then the return takes, and then
the holds whose pit the take gave room go off (R58, R76, R83). -/
theorem clearReturn_takes (hw : s.HoldsWait) (hl : (s.ret.removed lift left right).lift = none)
    (hp : ∃ l, (s.ret.removed lift left right).pits.get l ≠ []) :
    let kept := (s.ret.released lift left right rack).take s.settings.rackCapacity s.settings.carryTimeout
    ∃ cause, (s.clearReturn lift left right rack).ret = { kept with cause := cause, holds := kept.full }
      ∧ (s.ret.state = .fault → cause = none) := by
  intro kept
  let x := s.cleared lift left right rack
  let y := x.returnIdleEval.takeBall
  obtain ⟨cause, hret, hc, hpumped⟩ := cleared_runs (s := s) (rack := rack) fun _ => hp
  obtain ⟨psc, e, hwait⟩ := behind_passPits_full (s := s.modReturn fun r => r.removed lift left right) hw
  have hfull : (s.clearedBalls lift left right).ret.holds = (s.ret.removed lift left right).full := (congrArg (·.ret.holds) e :)
  have hy : y.ret = { kept with cause := cause } := by
    rw [takeBall_ret, hpumped, hret, carriedOn_empty (by exact hl), hfull]
    exact take_cause (s.ret.released lift left right rack) cause _ _
  have hpsc : y.psc = (s.clearedBalls lift left right).psc := by
    have h1 : y.psc = x.psc := (congrArg State.psc (behind_returnIdleEval x) :)
    have h2 : x.psc = (s.reports lift left right rack).psc :=
      (congrArg State.psc (behind_returnIdleEval (s.reports lift left right rack)) :)
    have h3 : (s.reports lift left right rack).psc = (s.clearedBalls lift left right).psc :=
      (congrArg State.psc (behind_reports s lift left right rack) :)
    rw [h1, h2, h3]
  have hholds : y.ret.holds = (s.clearedBalls lift left right).ret.holds := by
    rw [hy, hfull]
    exact take_holds ..
  have hywait : y.HoldsWait := by
    intro l
    rw [hpsc, hholds]
    exact hwait l
  obtain ⟨psc', e', -⟩ := behind_passPits_full hywait
  refine ⟨cause, ?_, hc⟩
  have hpass : y.passPits.ret = { y.ret with holds := y.ret.full } := (congrArg State.ret e' :)
  rw [clearReturn_ret]
  refine hpass.trans ?_
  rw [hy]
  rfl

end

/-! ### The request (R83) -/

section
variable {s : State} {tag : Tag} {lift left right : Nat} {rack : Option Nat}

/-- What the reply of an accepted clear carries of the return. -/
def BallReturn.fields (r : BallReturn) : List Byte :=
  be 1 r.pits.left.length ++ be 1 r.pits.right.length ++ liftField r.lift ++ be 1 r.rack

/-- The values of a clear that are in range (R83). -/
def State.ClearFits (s : State) (lift left right : Nat) (rack : Option Nat) : Prop :=
  lift ≤ 1 ∧ left ≤ 3 ∧ right ≤ 3 ∧ (lift = 1 → s.ret.lift ≠ none)
    ∧ ∀ n, rack = some n → n ≤ s.settings.rackCapacity - (s.ret.inLift - lift)

theorem handleClearReturn_cases : s.ClearFits lift left right rack ∧ handleClearReturn lift left right rack s
      = (s.clearReturn lift left right rack, .ok (s.clearReturn lift left right rack).ret.fields)
    ∨ ¬ s.ClearFits lift left right rack ∧ handleClearReturn lift left right rack s = refuse .range s := by
  have count_iff : (∀ n, rack = some n → n ≤ s.settings.rackCapacity - (s.ret.inLift - lift))
      ↔ ¬ s.settings.rackCapacity - (s.ret.inLift - lift) < rack.getD 0 := by
    cases rack <;> simp
  have lift_iff : (lift = 1 → s.ret.lift ≠ none) ↔ ¬ (lift = 1 && s.ret.lift.isNone) = true := by
    simp
  have small_iff : (lift ≤ 1 ∧ left ≤ 3 ∧ right ≤ 3) ↔ ¬ (!(lift ≤ 1 && left ≤ 3 && right ≤ 3)) = true := by
    simp [and_assoc]
  have fits_iff : s.ClearFits lift left right rack ↔ (lift ≤ 1 ∧ left ≤ 3 ∧ right ≤ 3) ∧ (lift = 1 → s.ret.lift ≠ none)
      ∧ ∀ n, rack = some n → n ≤ s.settings.rackCapacity - (s.ret.inLift - lift) := by
    simp only [State.ClearFits, and_assoc]
  unfold handleClearReturn
  dsimp only
  split
  · exact .inr ⟨fun h => small_iff.mp (fits_iff.mp h).1 ‹_›, rfl⟩
  · split
    · exact .inr ⟨fun h => lift_iff.mp (fits_iff.mp h).2.1 ‹_›, rfl⟩
    · split
      · exact .inr ⟨fun h => count_iff.mp (fits_iff.mp h).2.2 ‹_›, rfl⟩
      · exact .inl ⟨fits_iff.mpr ⟨small_iff.mpr ‹_›, lift_iff.mpr ‹_›, count_iff.mpr ‹_›⟩, rfl⟩

theorem handleClearReturn_accepts (h : s.ClearFits lift left right rack) : handleClearReturn lift left right rack s
    = (s.clearReturn lift left right rack, .ok (s.clearReturn lift left right rack).ret.fields) :=
  (handleClearReturn_cases.resolve_right fun hn => hn.1 h).2

theorem handleClearReturn_refuses (h : ¬ s.ClearFits lift left right rack) :
    handleClearReturn lift left right rack s = refuse .range s :=
  (handleClearReturn_cases.resolve_left fun hf => h hf.1).2

/-- An accepted clear is answered with the return it leaves. -/
theorem exec_clearReturn (hl : LinkIdle s .service) (h : s.ClearFits lift left right rack) {q : Request}
    (hq : q = .clearReturn lift left right rack) {reply : List Byte}
    (hr : ((s.queuedUp .service tag q).clearReturn lift left right rack).ret.fields = reply) :
    exec (.clearReturn .service tag lift left right rack) s
      = .next (((s.queuedUp .service tag q).clearReturn lift left right rack).answered .service tag q (.ok reply)) := by
  subst hq hr
  let r : Request := .clearReturn lift left right rack
  exact (State.served (r := r) rfl hl rfl (by simp [r]) (by simp [r])
    (handleClearReturn_accepts (s := s.queuedUp .service tag r) h)).1

end

/-- Settles O54: the return that each kind of clear leaves, and the reply formed from it. -/
theorem clearReturnClears : Obligations.ClearReturnClears := by
  unfold Obligations.ClearReturnClears
  intro tag lift left right rack s hl r q room ok a b
  let v := s.queuedUp .service tag q
  refine ⟨fun hn => ?refused, fun h ball hb h0 => ?carries, fun h hlift ha hb hp => ?empties, fun h hlift hab hw => ?takes⟩
  case refused => exact request_refused (r := q) rfl hl rfl (by simp [q]) (handleClearReturn_refuses hn)
  case carries =>
    subst h0
    have hcarry : (v.ret.removed 0 left right).lift = some ball := hb
    obtain ⟨cause, holds, hret, hc⟩ := clearReturn_carries (s := v) (rack := rack) (hcarry ▸ Option.some_ne_none ball)
    have hfields : (v.clearReturn 0 left right rack).ret.fields
        = be 1 a.length ++ be 1 b.length ++ be 3 ball.stamp ++ be 1 (Lane.code ball.lane) ++ be 1 (rack.getD r.rack) := by
      rw [hret, BallReturn.fields, hcarry, liftField, ← List.append_assoc]
      rfl
    refine ⟨_, exec_clearReturn hl h rfl hfields, ?_, fun hf => ?_⟩ <;> rw [hret]
    · rfl
    · exact hc hf
  case empties =>
    have hpits (l : Lane) : (v.ret.removed lift left right).pits.get l = [] := by
      cases l
      · exact ha
      · exact hb
    obtain ⟨hlift', hpits', hrack, hstate⟩ := clearReturn_empties (s := v) (rack := rack) (removed_lift hlift left right) hpits hp
    have hfields : (v.clearReturn lift left right rack).ret.fields
        = be 1 0 ++ be 1 0 ++ absentBytes 4 ++ be 1 (rack.getD r.rack) := by
      rw [BallReturn.fields, hlift', hpits', hrack]
      rfl
    exact ⟨_, exec_clearReturn hl h rfl hfields, hlift', hpits', hrack, hstate⟩
  case takes =>
    intro released kept
    have hne : ∃ l, (v.ret.removed lift left right).pits.get l ≠ [] := hab.elim (fun h => ⟨.left, h⟩) fun h => ⟨.right, h⟩
    obtain ⟨cause, hret, hc⟩ := clearReturn_takes (s := v) (rack := rack) hw (removed_lift hlift left right) hne
    have hret' : (v.clearReturn lift left right rack).ret = { kept with cause := cause, holds := kept.full } := hret
    have hcause : kept.cause = none := congrArg BallReturn.cause (take_cause released none _ _)
    have hfields : (v.clearReturn lift left right rack).ret.fields = kept.fields := by
      rw [hret']
      rfl
    refine ⟨_, exec_clearReturn hl h rfl hfields, ?_, fun hf => ?_, fun l => ?_⟩ <;> rw [hret']
    · rw [← hcause]
    · exact hc hf
    · have hle : (kept.pits.get l).length ≤ (released.pits.get l).length := take_pits_le ..
      have hholds : kept.holds = (v.ret.removed lift left right).full := take_holds released _ _
      have hfull : (v.ret.removed lift left right).full.get l = (r.holds.get l && decide (2 ≤ (released.pits.get l).length)) :=
        BallReturn.full_get ..
      change kept.full.get l = _
      rw [BallReturn.full_get, hholds, hfull]
      by_cases hk : 2 ≤ (kept.pits.get l).length
      · simp [hk, hk.trans hle]
      · simp [hk]

end Sys2Proof.Machine
end

section
/-! Groups and lanes (chapter 5): what the announcement of a change of play does, and what it leaves. -/
namespace Sys2Proof.Machine

/-! ### The two slots -/

theorem otherSlot_ne (g : Slot) : otherSlot g ≠ g := by cases g <;> simp [otherSlot]

/-! ### Current positions (R95, log 13) -/

section
variable (s : State)

/-- A group with its current position placed: it follows the up line in PLAYING, and is kept in another state. -/
def State.placed (r : Group) : Group :=
  if r.state = .playing then { r with position := (s.upLine r).bind (positionIn r.order) } else r

/-- Both groups with their current positions placed. -/
def State.withPositions : State := { s with groups := ⟨s.placed s.groups.g1, s.placed s.groups.g2⟩ }

@[simp] theorem withPositions_groups (h : Slot) : s.withPositions.groups.get h = s.placed (s.groups.get h) := by cases h <;> rfl

theorem placePositions_eq : (s.placePosition .g1).placePosition .g2 = s.withPositions := rfl

theorem placed_congr {t : State} (h : t.lines = s.lines) : t.placed = s.placed := by
  funext r
  simp only [State.placed, State.upLine, State.lineTest, State.line, h]

theorem placed_but_position (r : Group) (p : Option Nat) : { s.placed r with position := p } = { r with position := p } := by
  unfold State.placed
  split <;> rfl

theorem placed_of_not_playing {r : Group} (h : r.state ≠ .playing) : s.placed r = r := if_neg h

end

/-! ### What an announcement reaches (R88, R169, R171, R49) -/

/-- Everything but the link ports, the monitor feeds, the sessions and the machines. -/
def State.table (s : State) : State := { State.behind s with psc := State.reset.psc }

theorem table_of_behind {s t : State} (h : State.behind s = State.behind t) : s.table = t.table :=
  congrArg (fun v : State => { v with psc := State.reset.psc }) h

theorem table_of_inside {s t : State} (h : State.inside s = State.inside t) : s.table = t.table :=
  table_of_behind (behind_of_inside h)

theorem sameInside_iff_table (t u : State) : SameInside t { u with psc := t.psc, sessions := t.sessions }
    ↔ t.table = u.table := by
  rw [sameInside_iff]
  cases t
  cases u
  simp [State.table, State.behind]

section
variable (s before : State)

theorem inside_announceGroup (g : Slot) (c : Option Code) : State.inside (s.announceGroup before g c) = State.inside s := by
  unfold State.announceGroup
  dsimp only
  split <;> simp

theorem table_startMachine (l : Lane) : (s.startMachine l).table = s.table := by
  have e := behind_startMachine s l
  split at e
  · exact (congrArg (fun v : State => { v with psc := State.reset.psc }) e).trans rfl
  · exact table_of_behind e

theorem inside_markedIf (p : Prop) [Decidable p] (l : Lane) :
    State.inside (if p then s.markFeed l true true else s) = State.inside s := by
  split <;> simp

theorem table_announceLane (l : Lane) : (s.announceLane before l).table = s.table := by
  unfold State.announceLane
  dsimp only
  rw [apply_ite State.table, table_startMachine, ite_self]
  exact table_of_inside (inside_markedIf ..)

/-- A lane that keeps its occupant is marked at most. -/
theorem inside_announceLane_kept {l : Lane} (h : (before.lanes.get l).occupant = (s.lanes.get l).occupant) :
    State.inside (s.announceLane before l) = State.inside s := by
  unfold State.announceLane
  dsimp only
  rw [if_neg (by simp [h])]
  exact inside_markedIf ..

/-- An announcement places the current positions, and behind the links starts machines at most. -/
theorem table_announce (c : Option (Slot × Code)) : (s.announce before c).table = s.withPositions.table := by
  unfold State.announce
  dsimp only
  rw [placePositions_eq]
  refine (table_of_inside (inside_bannersEval _)).trans ?_
  rw [table_announceLane, table_announceLane]
  exact table_of_inside ((inside_announceGroup ..).trans (inside_announceGroup ..))

/-- When no lane has a new occupant, an announcement places the current positions alone. -/
theorem sameInside_announce {s before : State} (h : before.lanes = s.lanes) (c : Option (Slot × Code)) :
    SameInside (s.announce before c) s.withPositions := by
  have hg (c d : Option Code) : State.inside ((s.withPositions.announceGroup before .g1 c).announceGroup before .g2 d)
      = State.inside s.withPositions := (inside_announceGroup ..).trans (inside_announceGroup ..)
  have hlanes {v : State} (e : State.inside v = State.inside s.withPositions) (l : Lane) :
      (before.lanes.get l).occupant = (v.lanes.get l).occupant := by
    have hv : v.lanes = s.lanes := (congrArg State.lanes e :)
    rw [h, hv]
  rw [sameInside_iff_inside]
  unfold State.announce
  dsimp only
  rw [placePositions_eq, inside_bannersEval]
  have hl (c d : Option Code) := (inside_announceLane_kept _ before (hlanes (hg c d) .left)).trans (hg c d)
  exact (inside_announceLane_kept _ before (hlanes (hl _ _) .right)).trans (hl _ _)

theorem announce_groups (c : Option (Slot × Code)) (h : Slot) : (s.announce before c).groups.get h = s.placed (s.groups.get h) :=
  (congrArg (fun v : State => v.groups.get h) (table_announce s before c)).trans (withPositions_groups s h)

theorem announce_lanes (c : Option (Slot × Code)) : (s.announce before c).lanes = s.lanes :=
  (congrArg State.lanes (table_announce s before c) :)

theorem announce_lines (c : Option (Slot × Code)) : (s.announce before c).lines = s.lines :=
  (congrArg State.lines (table_announce s before c) :)

theorem announce_corrections (c : Option (Slot × Code)) : (s.announce before c).corrections = s.corrections :=
  (congrArg State.corrections (table_announce s before c) :)

theorem announce_handicap (c : Option (Slot × Code)) : (s.announce before c).handicap = s.handicap :=
  (congrArg State.handicap (table_announce s before c) :)

theorem announce_decks (c : Option (Slot × Code)) : (s.announce before c).pdu = s.pdu
    ∧ (s.announce before c).sensing = s.sensing ∧ (s.announce before c).ret = s.ret :=
  have h := table_announce s before c
  ⟨(congrArg State.pdu h :), (congrArg State.sensing h :), (congrArg State.ret h :)⟩

end

theorem SameInside.withGroups {s t u : State} (h : SameInside t u) (e : { u with groups := s.groups } = s) :
    SameInside t { s with groups := t.groups } := by
  have hg : t.groups = u.groups := (congrArg State.groups h :)
  have hu : u = { s with groups := t.groups } :=
    hg ▸ congrArg (fun v : State => { v with groups := u.groups }) e
  exact hu ▸ h

/-- What an announcement after a change of groups and lanes leaves: everything but them, the machines and the sessions. -/
theorem sameInside_rearranged {s v before : State} (c : Option (Slot × Code))
    (h : { v with lanes := s.lanes, groups := s.groups } = s) :
    let t := v.announce before c
    SameInside t { s with groups := t.groups, lanes := t.lanes, psc := t.psc, sessions := t.sessions } := by
  intro t
  have ht : t.table = v.withPositions.table := table_announce v before c
  have hg : t.groups = v.withPositions.groups := (congrArg State.groups ht :)
  have hl : t.lanes = v.lanes := (congrArg State.lanes ht :)
  refine (sameInside_iff_table t { s with groups := t.groups, lanes := t.lanes }).mpr (ht.trans ?_)
  rw [hg, hl]
  exact (congrArg (fun w : State => State.table { w with groups := v.withPositions.groups, lanes := v.lanes }) h :)

end Sys2Proof.Machine
end

section
/-! Groups and lanes (chapter 5): the hand-off of lanes, and move-group. -/
namespace Sys2Proof.Machine

/-! ### The state that a hand-off gives a group (R99) -/

section
variable (r : Group) (a b : GroupState)

theorem isFrozen_iff : r.isFrozen = true ↔ r.state = .moving ∨ r.state = .moved := by simp [Group.isFrozen]

theorem becomes_eq : r.becomes a =
    if r.state = .moving ∨ r.state = .moved then { r with frozenFrom := some a } else { r with state := a } :=
  if_congr (isFrozen_iff r) rfl rfl

theorem becomes_fields : r.becomes a = { r with
    state := if r.state = .moving ∨ r.state = .moved then r.state else a
    frozenFrom := if r.state = .moving ∨ r.state = .moved then some a else r.frozenFrom } := by
  rw [becomes_eq]
  split <;> rfl

variable {a} in
/-- The later of two states counts. -/
theorem becomes_becomes (h : a ≠ .moving ∧ a ≠ .moved) : (r.becomes a).becomes b = r.becomes b := by
  rw [becomes_eq r a, becomes_eq r b]
  split
  · rename_i hr
    rw [becomes_eq, if_pos hr]
  · rw [becomes_eq, if_neg (not_or.mpr h)]

theorem becomes_keeps : (r.becomes a).home = r.home ∧ (r.becomes a).playMode = r.playMode ∧ (r.becomes a).order = r.order
    ∧ (r.becomes a).frame = r.frame := by
  rw [becomes_eq]
  split <;> exact ⟨rfl, rfl, rfl, rfl⟩

theorem becomes_state (h : ¬ (r.state = .moving ∨ r.state = .moved)) : (r.becomes a).state = a := by rw [becomes_eq, if_neg h]

end

/-! ### The lanes that a group releases and asks for (R99) -/

/-- A lane that a group has released: its waiter takes it. -/
def LaneRecord.released (a : LaneRecord) (g : Slot) : LaneRecord :=
  if a.occupant = some g then ⟨a.waiter, none⟩ else if a.waiter = some g then { a with waiter := none } else a

/-- A lane that a group has asked for. -/
def LaneRecord.asked (a : LaneRecord) (g : Slot) : LaneRecord :=
  if a.occupant = none then { a with occupant := some g } else { a with waiter := some g }

theorem released_other {a : LaneRecord} {g : Slot} (ho : a.occupant ≠ some g) (hw : a.waiter ≠ some g) : a.released g = a := by
  rw [LaneRecord.released, if_neg ho, if_neg hw]

theorem released_occupant (a : LaneRecord) {g : Slot} (hw : a.waiter ≠ some g) : (a.released g).occupant ≠ some g := by
  by_cases ho : a.occupant = some g
  · rwa [LaneRecord.released, if_pos ho]
  · rwa [LaneRecord.released, if_neg ho, if_neg hw]

section
variable (s : State) (g h : Slot) (l : Lane)

theorem releaseLane_lanes : (s.releaseLane g l).lanes = s.lanes.set l ((s.lanes.get l).released g) := by
  unfold State.releaseLane LaneRecord.released
  dsimp only
  split
  · split <;> rfl
  · split
    · rfl
    · exact (PerLane.set_get ..).symm

theorem releaseLane_groups : (s.releaseLane g l).groups.get h =
    if (s.lanes.get l).occupant = some g ∧ (s.lanes.get l).waiter = some h then (s.groups.get h).becomes .playing
    else s.groups.get h := by
  unfold State.releaseLane
  dsimp only
  split
  · rename_i ho
    split
    · rename_i w hw
      by_cases hh : h = w
      · subst hh
        rw [if_pos ⟨ho, hw⟩]
        exact PerSlot.get_set ..
      · rw [if_neg (fun e => hh (Option.some.inj (e.2.symm.trans hw)))]
        exact PerSlot.get_set_of_ne _ hh _
    · rename_i hw
      rw [if_neg (by simp [hw])]
      rfl
  · rename_i ho
    rw [if_neg (c := _ ∧ _) (fun e => ho e.1)]
    split <;> rfl

/-- A release reaches lanes and groups alone. -/
theorem releaseLane_rest : { s.releaseLane g l with lanes := s.lanes, groups := s.groups } = s := by
  unfold State.releaseLane
  dsimp only
  split
  · split <;> rfl
  · split <;> rfl

theorem releaseLanes_rest : { s.releaseLanes g with lanes := s.lanes, groups := s.groups } = s :=
  (congrArg (fun v : State => { v with lanes := s.lanes, groups := s.groups })
    (releaseLane_rest (s.releaseLane g .left) g .right)).trans
    (releaseLane_rest s g .left)

theorem releaseLanes_lanes : (s.releaseLanes g).lanes.get l = (s.lanes.get l).released g := by
  rw [State.releaseLanes, releaseLane_lanes, releaseLane_lanes]
  cases l <;> rfl

theorem releaseLane_becomes (a : GroupState) : ((s.releaseLane g l).groups.get h).becomes a = (s.groups.get h).becomes a := by
  rw [releaseLane_groups]
  split
  · exact becomes_becomes _ _ (by decide)
  · rfl

theorem releaseLanes_becomes (a : GroupState) : ((s.releaseLanes g).groups.get h).becomes a = (s.groups.get h).becomes a := by
  rw [State.releaseLanes, releaseLane_becomes, releaseLane_becomes]

variable {l} in
/-- The waiter of a lane that the group occupied is PLAYING there. -/
theorem releaseLanes_waiter (ho : (s.lanes.get l).occupant = some g) (hw : (s.lanes.get l).waiter = some h) :
    (s.releaseLanes g).groups.get h = (s.groups.get h).becomes .playing := by
  rw [State.releaseLanes, releaseLane_groups]
  cases l
  · have hleft : (s.releaseLane g .left).groups.get h = (s.groups.get h).becomes .playing := by
      rw [releaseLane_groups, if_pos ⟨ho, hw⟩]
    rw [releaseLane_becomes, hleft]
    exact ite_self _
  · rw [releaseLane_lanes, PerLane.get_set_of_ne _ (by decide), if_pos ⟨ho, hw⟩, releaseLane_becomes]

theorem askLane_lanes : (s.askLane g l).lanes = s.lanes.set l ((s.lanes.get l).asked g) := by
  unfold State.askLane LaneRecord.asked
  split
  · rename_i e
    rw [if_pos e]
    rfl
  · rename_i e
    rw [if_neg (by simp [e])]
    rfl

theorem askLane_groups : (s.askLane g l).groups =
    s.groups.set g ((s.groups.get g).becomes (if (s.lanes.get l).occupant = none then .playing else .waiting)) := by
  unfold State.askLane
  split
  · rename_i e
    rw [if_pos e]
    rfl
  · rename_i e
    rw [if_neg (by simp [e])]
    rfl

theorem askLane_rest : { s.askLane g l with lanes := s.lanes, groups := s.groups } = s := by
  unfold State.askLane
  split <;> rfl

/-! ### The hand-off (R99) -/

theorem handOff_rest : { s.handOff g l with lanes := s.lanes, groups := s.groups } = s :=
  (congrArg (fun v : State => { v with lanes := s.lanes, groups := s.groups }) (askLane_rest (s.releaseLanes g) g l)).trans
    (releaseLanes_rest s g)

theorem handOff_target : (s.handOff g l).lanes.get l = ((s.lanes.get l).released g).asked g := by
  rw [State.handOff, askLane_lanes, PerLane.get_set, releaseLanes_lanes]

theorem handOff_lane {m : Lane} (hm : m ≠ l) : (s.handOff g l).lanes.get m = (s.lanes.get m).released g := by
  rw [State.handOff, askLane_lanes, PerLane.get_set_of_ne _ hm, releaseLanes_lanes]

theorem handOff_group : (s.handOff g l).groups.get g =
    (s.groups.get g).becomes (if ((s.lanes.get l).released g).occupant = none then .playing else .waiting) := by
  rw [State.handOff, askLane_groups, PerSlot.get_set, releaseLanes_lanes, releaseLanes_becomes]

theorem handOff_other {w : Slot} (hw : w ≠ g) : (s.handOff g l).groups.get w = (s.releaseLanes g).groups.get w := by
  rw [State.handOff, askLane_groups, PerSlot.get_set_of_ne _ hw]

end

/-! ### move-group (R105) -/

/-- A group whose home lane changes, with a hand-off to it when a game is in progress. -/
def State.rehomed (s : State) (g : Slot) (l : Lane) : State :=
  let t := s.modGroup g fun r => { r with home := l }
  if (s.groups.get g).inProgress then t.handOff g l else t

theorem handleMoveGroup_accepts {s : State} {slot lane : Nat} {g : Slot} {l : Lane} (hg : slotOf slot = some g)
    (hl : laneOf lane = some l)
    (hs : (s.groups.get g).state = .idle ∨ (s.groups.get g).state = .playing ∨ (s.groups.get g).state = .waiting)
    (hm : (s.groups.get g).playMode = .openPlay) (hh : (s.groups.get g).home ≠ l) (ho : (s.lanes.get l).occupant = none)
    (hother : (s.groups.get (otherSlot g)).state = .empty ∨ (s.groups.get (otherSlot g)).home ≠ l)
    (hx : (s.sessions.get l).state = .opened) (hb : s.ballInPlay (s.groups.get g).home = false) :
    handleMoveGroup slot lane s = ((s.rehomed g l).announce s none, .ok []) := by
  have hs' : (decide ((s.groups.get g).state = .idle) || decide ((s.groups.get g).state = .playing)
      || decide ((s.groups.get g).state = .waiting)) = true := by simpa [or_assoc] using hs
  have hother' : s.otherHomed g l = false := by
    rcases hother with h | h <;> simp [State.otherHomed, Group.present, h]
  simp [handleMoveGroup, hg, hl, hs', hm, hh.symm, ho, hother', hx, hb, State.rehomed, accept]

section
variable (s : State) (g : Slot) (l : Lane)

theorem rehomed_idle (h : (s.groups.get g).inProgress = false) : s.rehomed g l = s.modGroup g fun r => { r with home := l } :=
  if_neg (by simp [h])

theorem rehomed_plays (h : (s.groups.get g).inProgress = true) :
    s.rehomed g l = (s.modGroup g fun r => { r with home := l }).handOff g l := if_pos h

theorem rehomed_rest : { s.rehomed g l with lanes := s.lanes, groups := s.groups } = s := by
  unfold State.rehomed
  dsimp only
  split
  · exact congrArg (fun v : State => { v with groups := s.groups })
      (handOff_rest (s.modGroup g fun r => { r with home := l }) g l)
  · rfl

theorem rehomed_group : ((s.rehomed g l).groups.get g).home = l ∧ ((s.rehomed g l).groups.get g).order = (s.groups.get g).order
    ∧ ((s.rehomed g l).groups.get g).frame = (s.groups.get g).frame := by
  unfold State.rehomed
  dsimp only
  split
  · rw [handOff_group]
    obtain ⟨hh, -, ho, hf⟩ := becomes_keeps ((s.modGroup g fun r => { r with home := l }).groups.get g)
      (if (((s.modGroup g fun r => { r with home := l }).lanes.get l).released g).occupant = none then .playing else .waiting)
    rw [hh, ho, hf, State.modGroup_groups, PerSlot.get_set]
    exact ⟨rfl, rfl, rfl⟩
  · rw [State.modGroup_groups, PerSlot.get_set]
    exact ⟨rfl, rfl, rfl⟩

theorem placed_keeps (r : Group) : (s.placed r).state = r.state ∧ (s.placed r).home = r.home ∧ (s.placed r).order = r.order
    ∧ (s.placed r).frame = r.frame := by
  unfold State.placed
  split <;> exact ⟨rfl, rfl, rfl, rfl⟩

end

/-- The lane that a move takes and the lane that it leaves. -/
theorem rehomed_lanes {s : State} {g : Slot} {l : Lane} (hi : (s.groups.get g).inProgress = true)
    (ho : (s.lanes.get l).occupant = none)
    (hs : ¬ ((s.groups.get g).state = .moving ∨ (s.groups.get g).state = .moved)) :
    ((s.rehomed g l).lanes.get l).occupant = some g ∧ ((s.rehomed g l).groups.get g).state = .playing
      ∧ ∀ m, m ≠ l → (s.lanes.get m).waiter ≠ some g → ((s.rehomed g l).lanes.get m).occupant ≠ some g := by
  have hfree : ((s.lanes.get l).released g).occupant = none := by
    unfold LaneRecord.released
    rw [if_neg (by simp [ho])]
    split <;> exact ho
  rw [rehomed_plays s g l hi]
  refine ⟨?_, ?_, fun m hm hw => ?_⟩
  · rw [handOff_target]
    exact congrArg LaneRecord.occupant (if_pos hfree)
  · rw [handOff_group, State.modGroup_lanes, if_pos hfree, State.modGroup_groups, PerSlot.get_set]
    exact becomes_state _ _ hs
  · rw [handOff_lane _ _ _ hm]
    exact released_occupant _ hw

end Sys2Proof.Machine
end

section
/-! Groups and lanes (chapter 5): complete frames, the up line, and the test after a FINAL ball. -/
namespace Sys2Proof.Machine

/-! ### Complete frames (R94) -/

theorem isStrike_iff (b : BallRecord) : isStrike b = true ↔ b.count = 10 ∧ b.foul = false := by simp [isStrike]

theorem earnsThird_iff (a b : BallRecord) :
    earnsThird a b = true ↔ (a.count = 10 ∧ a.foul = false) ∨ a.count + b.count = 10 := by
  simp [earnsThird, isStrike_iff]

theorem frameComplete_missed {f : FrameRecord} (h : f.missed = true) : frameComplete f = true := by simp [frameComplete, h]

theorem frameComplete_bowled {f : FrameRecord} (h : f.missed = false) :
    frameComplete f = ballsComplete f.number (f.balls.filter fun b => b.state = .final) := by
  simp [frameComplete, h]
  rfl

/-- In frames 1 to 9 a strike or a second ball completes the frame. -/
theorem ballsComplete_early {n : Nat} (hn : n < 10) (balls : List BallRecord) : ballsComplete n balls = true ↔
    ∃ b1 rest, balls = b1 :: rest ∧ ((b1.count = 10 ∧ b1.foul = false) ∨ rest ≠ []) := by
  match balls with
  | [] => simp [ballsComplete]
  | [b1] => simp [ballsComplete, hn, isStrike_iff]
  | b1 :: b2 :: rest => simp [ballsComplete, hn]

/-- Frame 10 asks for a third ball when the first two earn it. -/
theorem ballsComplete_tenth (balls : List BallRecord) : ballsComplete 10 balls = true ↔
    ∃ b1 b2 rest, balls = b1 :: b2 :: rest
      ∧ (¬ ((b1.count = 10 ∧ b1.foul = false) ∨ b1.count + b2.count = 10) ∨ rest ≠ []) := by
  match balls with
  | [] => simp [ballsComplete]
  | [b1] => simp [ballsComplete]
  | b1 :: b2 :: rest => simp [ballsComplete, ← earnsThird_iff]

/-! ### The up line (R95) -/

/-- The line with an id is in use and in the middle of a frame. -/
def State.Mid (s : State) (f : Nat) (i : LineId) : Prop := ∃ x, s.line i = some x ∧ x.ballsOf f ≠ [] ∧ x.completed f = false

/-- The line with an id is in use, ACTIVE and due for a frame. -/
def State.Due (s : State) (f : Nat) (i : LineId) : Prop := ∃ x, s.line i = some x ∧ x.status = .active ∧ x.completed f = false

section
variable (s : State) (f : Nat) (i : LineId)

theorem lineTest_iff (p : Line → Bool) : s.lineTest i p = true ↔ ∃ x, s.line i = some x ∧ p x = true := by
  unfold State.lineTest
  split <;> simp_all

theorem mid_iff : (s.lineTest i fun l => l.midFrame f) = true ↔ s.Mid f i := by
  simp [lineTest_iff, State.Mid, Line.midFrame]

theorem due_iff : (s.lineTest i fun l => l.dueFor f) = true ↔ s.Due f i := by
  simp [lineTest_iff, State.Due, Line.dueFor]

variable {i} in
theorem find_iff {p : LineId → Bool} {P : LineId → Prop} (h : ∀ j, p j = true ↔ P j) (order : List LineId) :
    order.find? p = some i ↔ ∃ before after, order = before ++ i :: after ∧ P i ∧ ∀ j ∈ before, ¬ P j := by
  simp only [List.find?_eq_some_iff_append, ← h, Bool.not_eq_true', Bool.not_eq_true]
  exact ⟨fun ⟨hi, b, a, ho, hb⟩ => ⟨b, a, ho, hi, hb⟩, fun ⟨b, a, ho, hi, hb⟩ => ⟨hi, b, a, ho, hb⟩⟩

/-- The first line of an order in the middle of the frame, else the first that is due for it. -/
theorem upLine_eq_some_iff (r : Group) : s.upLine r = some i ↔ ∃ before after, r.order = before ++ i :: after
    ∧ (s.Mid r.frame i ∧ (∀ j ∈ before, ¬ s.Mid r.frame j)
      ∨ s.Due r.frame i ∧ (∀ j ∈ r.order, ¬ s.Mid r.frame j) ∧ ∀ j ∈ before, ¬ s.Due r.frame j) := by
  have hmid := fun j => mid_iff s r.frame j
  have hdue := fun j => due_iff s r.frame j
  unfold State.upLine
  split
  · rename_i m hm
    rw [← hm, find_iff hmid]
    refine ⟨fun ⟨b, a, ho, hi⟩ => ⟨b, a, ho, .inl hi⟩, ?_⟩
    rintro ⟨b, a, ho, hi | ⟨-, hnone, -⟩⟩
    · exact ⟨b, a, ho, hi⟩
    · exact absurd ((hmid m).mp (List.find?_some (p := fun j => s.lineTest j fun l => l.midFrame r.frame) hm))
        (hnone m (List.mem_of_find?_eq_some hm))
  · rename_i hm
    have hnone (j) (hj : j ∈ r.order) : ¬ s.Mid r.frame j := fun e => List.find?_eq_none.mp hm j hj ((hmid j).mpr e)
    rw [find_iff hdue]
    refine ⟨fun ⟨b, a, ho, hi, hb⟩ => ⟨b, a, ho, .inr ⟨hi, hnone, hb⟩⟩, ?_⟩
    rintro ⟨b, a, ho, ⟨hi, -⟩ | ⟨hi, -, hb⟩⟩
    · exact absurd hi (hnone i (by simp [ho]))
    · exact ⟨b, a, ho, hi, hb⟩

end

theorem bowling_iff (s : State) (l : Lane) (g : Slot) :
    s.bowling l = some g ↔ (s.lanes.get l).occupant = some g ∧ (s.groups.get g).state = .playing := by
  unfold State.bowling
  split
  · rename_i h hh
    split
    · rename_i hp
      simp only [hh, Option.some.injEq]
      exact ⟨fun e => ⟨e, e ▸ hp⟩, fun e => e.1⟩
    · rename_i hp
      simp only [hh, Option.some.injEq, reduceCtorEq, false_iff, not_and]
      exact fun e => e ▸ hp
  · rename_i hh
    simp [hh]

theorem upBowler_eq {s : State} {l : Lane} {g : Slot} {i : LineId} {x : Line} (hb : s.bowling l = some g)
    (hi : s.upLine (s.groups.get g) = some i) (hx : s.line i = some x) :
    s.upBowler l = some (i, (s.groups.get g).frame, (x.ballsOf (s.groups.get g).frame).length + 1) := by
  simp [State.upBowler, hb, hi, hx]

theorem upLine_of_upBowler {s : State} {l : Lane} {i : LineId} {f b : Nat} (h : s.upBowler l = some (i, f, b)) :
    ∃ g, s.bowling l = some g ∧ s.upLine (s.groups.get g) = some i := by
  unfold State.upBowler at h
  dsimp only at h
  split at h
  · rename_i g hg
    split at h
    · rename_i j hj
      split at h
      · simp only [Option.some.injEq, Prod.mk.injEq] at h
        exact ⟨g, hg, h.1 ▸ hj⟩
      · cases h
    · cases h
  · cases h

/-! ### The test after a FINAL ball (R97, R98) -/

section
variable {s : State} {g : Slot}

theorem any_linesOf_iff (p : Line → Bool) :
    (s.linesOf g).any p = true ↔ ∃ i ∈ (s.groups.get g).order, ∃ x, s.line i = some x ∧ p x = true := by
  simp only [State.linesOf, List.any_eq_true, List.mem_filterMap]
  exact ⟨fun ⟨x, ⟨i, hi, hx⟩, hp⟩ => ⟨i, hi, x, hx, hp⟩, fun ⟨i, hi, x, hx, hp⟩ => ⟨x, ⟨i, hi, hx⟩, hp⟩⟩

/-- A line of the group is due for the frame in progress. -/
def State.LineDue (s : State) (g : Slot) : Prop := ∃ i ∈ (s.groups.get g).order, s.Due (s.groups.get g).frame i

/-- A line of the group is ACTIVE. -/
def State.LineActive (s : State) (g : Slot) : Prop :=
  ∃ i ∈ (s.groups.get g).order, ∃ x, s.line i = some x ∧ x.status = .active

theorem anyDue_iff : ((s.linesOf g).any fun l => l.dueFor (s.groups.get g).frame) = true ↔ s.LineDue g := by
  rw [any_linesOf_iff]
  simp [State.LineDue, State.Due, Line.dueFor]

theorem anyActive_iff : ((s.linesOf g).any fun l => l.status = .active) = true ↔ s.LineActive g := by
  rw [any_linesOf_iff]
  simp [State.LineActive]

theorem laneOfFrame_eq (r : Group) (k : Nat) :
    r.laneOfFrame k = if r.playMode = .openPlay ∨ k % 2 = 1 then r.home else otherLane r.home := by
  unfold Group.laneOfFrame
  split <;> rename_i h <;> simp [h]

/-- The state with the frame in progress advanced. -/
def State.framed (s : State) (g : Slot) : State := s.modGroup g fun r => { r with frame := r.frame + 1 }

variable (before : State)

theorem advance_due (h : s.LineDue g) : s.advance before g = s.announce before none :=
  if_pos (anyDue_iff.mpr h)

theorem advance_frame (h : ¬ s.LineDue g) (hf : (s.groups.get g).frame < 10) (ha : s.LineActive g) : s.advance before g =
    (if (s.groups.get g).laneOfFrame (s.groups.get g).frame = (s.groups.get g).laneOfFrame ((s.groups.get g).frame + 1)
      then s.framed g
      else (s.framed g).handOff g ((s.groups.get g).laneOfFrame ((s.groups.get g).frame + 1))).announce before none :=
  (if_neg (mt anyDue_iff.mp h)).trans (if_pos (by rw [anyActive_iff.mpr ha]; simp [hf]))

theorem advance_over (h : ¬ s.LineDue g) (hn : ¬ ((s.groups.get g).frame < 10 ∧ s.LineActive g)) :
    s.advance before g = s.gameEnd before g :=
  (if_neg (mt anyDue_iff.mp h)).trans (if_neg (by rw [Bool.and_eq_true, anyActive_iff]; simpa using hn))

end

end Sys2Proof.Machine
end

section
/-! Groups and lanes (chapter 5): sessions, notices and the permission of a game. -/
namespace Sys2Proof.Machine

/-! ### What an announcement keeps of the sessions (R147, R148) -/

/-- A session with another state and paused-from alone, LOCKED if it was. -/
structure Session.Follows (x y : Session) : Prop where
  meter   : y.meter = x.meter
  prepaid : y.prepaidGames = x.prepaidGames
  locked  : x.state = .locked → y.state = .locked

/-- Every session follows. -/
structure State.Follows (s t : State) : Prop where
  session : ∀ l, (s.sessions.get l).Follows (t.sessions.get l)

namespace State.Follows

variable {s t u : State}

theorem refl (s : State) : s.Follows s := ⟨fun _ => ⟨rfl, rfl, id⟩⟩

theorem same (h : s.Follows t) (e : u.sessions = t.sessions) : s.Follows u := ⟨fun l => e ▸ h.session l⟩

theorem ite {p : Prop} [Decidable p] (ht : s.Follows t) (hu : s.Follows u) : s.Follows (if p then t else u) := by
  split <;> assumption

theorem enterSession (h : s.Follows t) {l : Lane} (hl : (t.sessions.get l).state ≠ .locked) (state : SessionState)
    (from_ : Option SessionState) : s.Follows (t.enterSession l state from_) := by
  refine ⟨fun m => ?_⟩
  obtain ⟨hm, hp, hs⟩ := h.session m
  rw [enterSession_sessions]
  by_cases hml : m = l
  · subst hml
    rw [PerLane.get_set]
    exact ⟨hm, hp, fun e => absurd (hs e) hl⟩
  · rw [PerLane.get_set_of_ne _ hml]
    exact ⟨hm, hp, hs⟩

theorem pauseEval (h : s.Follows t) (l : Lane) : s.Follows (t.pauseEval l) := by
  unfold State.pauseEval
  dsimp only
  split
  · rename_i e
    exact ite (h.enterSession (by simp [e]) ..) h
  · rename_i e
    exact ite (h.enterSession (by simp [e]) ..) h
  · rename_i e
    exact ite h (h.enterSession (by simp [e]) ..)
  all_goals exact h

theorem opens (h : s.Follows t) (l : Lane) : s.Follows (t.opens l) := by
  unfold State.opens
  split
  · rename_i e
    have ho : (t.sessions.get l).state = .opening := by simpa using (Bool.and_eq_true_iff.mp e).2
    exact (h.enterSession (by simp [ho]) ..).pauseEval l
  · exact h

theorem setMachine (h : s.Follows t) (l : Lane) (state : MachineState) (cause : Option FaultCause)
    (classes : Option (List PointClass)) : s.Follows (t.setMachine l state cause classes) := by
  unfold State.setMachine
  dsimp only
  split
  · exact h.same rfl
  · obtain ⟨v, hv, e⟩ := machineChanged_eq (t.modPsc l fun p => p.enter state cause) l (t.psc.get l).state classes
    rw [e]
    exact (((h.same (sessions_of_judged (s := t.modPsc l _) hv)).opens l).pauseEval l).same rfl

theorem startMachine (h : s.Follows t) (l : Lane) : s.Follows (t.startMachine l) :=
  ite ((h.same (u := t.modPsc l _) rfl).setMachine l ..) h

theorem announceGroup (h : s.Follows t) (before : State) (g : Slot) (c : Option Code) : s.Follows (t.announceGroup before g c) :=
  h.same (congrArg State.sessions (inside_announceGroup t before g c) :)

theorem announceLane (h : s.Follows t) (before : State) (l : Lane) : s.Follows (t.announceLane before l) :=
  have marked (p : Prop) [Decidable p] : s.Follows (if p then t.markFeed l true true else t) := ite (h.same rfl) h
  ite ((marked _).startMachine l) (marked _)

/-- An announcement may pause and resume sessions, and nothing else of them. -/
theorem announce (h : s.Follows t) (before : State) (c : Option (Slot × Code)) : s.Follows (t.announce before c) :=
  (((((h.same (u := t.withPositions) rfl).announceGroup before .g1 _).announceGroup before .g2 _).announceLane before
    .left).announceLane before .right).same rfl

end State.Follows

/-! ### What the links are told (R88, R104, R190) -/

theorem offer_notices (p : Port) (n : Notice) :
    (p.offer n).notices = if p.notices.length < 16 then p.notices ++ [⟨p.lost, n⟩] else p.notices := by
  unfold Port.offer
  split <;> rfl

theorem broadcast_port (s : State) (n : Notice) (k : Link) :
    (s.broadcast n).port k = if (s.port k).admitsClass n.cls then (s.port k).offer n else s.port k := by
  cases k <;> rfl

/-- A broadcast makes a queue longer by one notice at most. -/
theorem broadcast_length (s : State) (n : Notice) (k : Link) :
    ((s.broadcast n).port k).notices.length ≤ (s.port k).notices.length + 1 := by
  rw [broadcast_port, apply_ite Port.notices, offer_notices]
  split
  · split <;> simp
  · omega

/-- A notice that a link's mask admits joins its queue if there is room. -/
theorem broadcast_told {s : State} {n : Notice} {k : Link} (hm : (s.port k).admitsClass n.cls = true)
    (hn : (s.port k).notices.length < 16) : ∃ q ∈ ((s.broadcast n).port k).notices, q.notice = n := by
  rw [broadcast_port, if_pos hm, offer_notices, if_pos hn]
  exact ⟨⟨(s.port k).lost, n⟩, by simp, rfl⟩

/-- A notice waits in the queue of a link. -/
def State.Told (s : State) (k : Link) (n : Notice) : Prop := ∃ q ∈ (s.port k).notices, q.notice = n

theorem State.Told.evolves {c : Scope} {s t : State} {k : Link} {n : Notice} (h : s.Told k n) (e : Evolves c s t) :
    t.Told k n := by
  obtain ⟨q, hq, hn⟩ := h
  obtain ⟨new, ht⟩ := e.notices k
  exact ⟨q, ht ▸ List.mem_append_left new hq, hn⟩

/-- GROUP_STATE as an announcement of a refused auto-next start carries it. -/
def State.groupNotice (s : State) (g : Slot) (c : Code) : Notice :=
  .groupState g (s.groups.get g) s.lanes.left s.lanes.right (some c)

theorem groupNotice_congr {s t : State} {g : Slot} (hg : t.groups.get g = s.groups.get g) (hl : t.lanes = s.lanes) (c : Code) :
    t.groupNotice g c = s.groupNotice g c := by
  rw [State.groupNotice, State.groupNotice, hg, hl]

section
variable (s before : State) (g : Slot) (k : Link)

theorem markShowing_port : (s.markShowing before g).port k = s.port k := rfl

theorem announceGroup_length (c : Option Code) :
    ((s.announceGroup before g c).port k).notices.length ≤ (s.port k).notices.length + 1 := by
  unfold State.announceGroup
  dsimp only
  split
  · rw [markShowing_port]
    exact broadcast_length s _ k
  · omega

theorem announceGroup_refused (c : Code) : s.announceGroup before g (some c)
    = (s.broadcast (s.groupNotice g c)).markShowing before g :=
  if_pos (by simp)

/-- The announcement of a refused start tells every link whose mask admits it, in the state that it leaves (R104). -/
theorem announce_tells {s : State} {k : Link} (c : Code) (hm : (s.port k).mask.getLsbD 1 = true)
    (hn : (s.port k).notices.length < 15) :
    (s.announce before (some (g, c))).Told k ((s.announce before (some (g, c))).groupNotice g c) := by
  have hsame : (s.announce before (some (g, c))).groupNotice g c = s.withPositions.groupNotice g c :=
    groupNotice_congr ((announce_groups ..).trans (withPositions_groups ..).symm) (announce_lanes s before _) c
  have told (v : State) (hv : v.groupNotice g c = s.withPositions.groupNotice g c) (hmask : (v.port k).mask.getLsbD 1 = true)
      (hlen : (v.port k).notices.length < 16) :
      (v.announceGroup before g (some c)).Told k (s.withPositions.groupNotice g c) := by
    rw [announceGroup_refused, ← hv]
    exact State.Told.evolves (c := .all) (broadcast_told hmask hlen) ((Evolves.refl _).markShowing _ _)
  have later {v : State} (h : v.Told k (s.withPositions.groupNotice g c)) :
      ((v.announceLane before .left).announceLane before .right).bannersEval.Told k (s.withPositions.groupNotice g c) :=
    h.evolves (c := .all) (((Evolves.refl _).announceLane before .left).announceLane before .right).bannersEval
  rw [hsame]
  cases g with
  | g1 => exact later ((told s.withPositions rfl hm (by exact Nat.lt_succ_of_lt hn)).evolves (c := .all)
      ((Evolves.refl _).announceGroup before .g2 _))
  | g2 =>
    refine later (told (s.withPositions.announceGroup before .g1 none) ?_ ?_ ?_)
    · have e := inside_announceGroup s.withPositions before .g1 none
      have hg : (s.withPositions.announceGroup before .g1 none).groups = s.withPositions.groups := (congrArg State.groups e :)
      have hl : (s.withPositions.announceGroup before .g1 none).lanes = s.withPositions.lanes := (congrArg State.lanes e :)
      exact groupNotice_congr (by rw [hg]) hl c
    · rw [((Evolves.refl (c := .all) s.withPositions).announceGroup before .g1 none |>.port k).mask]
      exact hm
    · have h := announceGroup_length s.withPositions before .g1 k none
      exact Nat.lt_of_le_of_lt h (Nat.succ_lt_succ hn)

end

/-! ### The permission of a game (R103, R150) -/

section
variable {s : State} {l : Lane} {n : Nat}

theorem behind_addCents (s : State) (l : Lane) (n : Nat) : State.behind (s.addCents l n) = State.behind s := by
  unfold State.addCents
  dsimp only
  split <;> simp [State.markMeter]

theorem behind_charge (s : State) (l : Lane) (n : Nat) : State.behind (s.charge l n) = State.behind s := by
  unfold State.charge
  dsimp only
  split <;> simp [behind_addCents]

theorem behind_countGames (s : State) (l : Lane) (n : Nat) : State.behind (s.countGames l n) = State.behind s := by
  simp [State.countGames, State.markMeter]

/-- The decision on a game reaches sessions alone, behind the links. -/
theorem behind_permitGame (s : State) (l : Lane) (n : Nat) : State.behind (s.permitGame l n).1 = State.behind s := by
  unfold State.permitGame
  dsimp only
  split
  · rfl
  · split
    · split <;> simp [behind_countGames]
    · rw [behind_charge, behind_countGames]
    · rw [behind_countGames]

theorem countGames_session (s : State) (l : Lane) (n : Nat) : (s.countGames l n).sessions.get l =
    { s.sessions.get l with meter := { (s.sessions.get l).meter with games := satAdd (s.sessions.get l).meter.games n } } := by
  simp [State.countGames, State.markMeter]

theorem charge_session (s : State) (l : Lane) (n : Nat) :
    ((s.charge l n).sessions.get l).meter.games = (s.sessions.get l).meter.games
      ∧ ((s.charge l n).sessions.get l).prepaidGames = (s.sessions.get l).prepaidGames := by
  have added : (s.addCents l n).sessions.get l = { s.sessions.get l with meter := (s.sessions.get l).meter.add n } := by
    unfold State.addCents
    dsimp only
    split <;> simp [State.markMeter]
  have games : ((s.sessions.get l).meter.add n).games = (s.sessions.get l).meter.games := by
    unfold Meter.add
    split <;> rfl
  unfold State.charge
  dsimp only
  split <;> simp [added, games]

theorem permitGame_unopened (h : (s.sessions.get l).state ≠ .opened) : s.permitGame l n = (s, some .state) := if_pos h

theorem permitGame_short (ho : (s.sessions.get l).state = .opened) (hm : (s.sessions.get l).mode = .prepaidGames)
    (hn : (s.sessions.get l).prepaidGames < n) : s.permitGame l n = (s.enterSession l .locked none, some .full) := by
  simp [State.permitGame, ho, hm, hn]

theorem permitGame_permits (ho : (s.sessions.get l).state = .opened)
    (hn : ¬ ((s.sessions.get l).mode = .prepaidGames ∧ (s.sessions.get l).prepaidGames < n)) :
    ∃ t : State, s.permitGame l n = (t, none)
      ∧ (t.sessions.get l).meter.games = min 65535 ((s.sessions.get l).meter.games + n)
      ∧ (t.sessions.get l).prepaidGames = if (s.sessions.get l).mode = .prepaidGames then (s.sessions.get l).prepaidGames - n
        else (s.sessions.get l).prepaidGames := by
  unfold State.permitGame
  rw [if_neg (not_not_intro ho)]
  split
  · rename_i hm
    rw [if_neg (fun h => hn ⟨hm, h⟩)]
    refine ⟨_, rfl, ?_⟩
    rw [countGames_session, State.modSession_sessions, PerLane.get_set, if_pos hm]
    exact ⟨rfl, rfl⟩
  · rename_i hm
    refine ⟨_, rfl, ?_⟩
    rw [(charge_session ..).1, (charge_session ..).2, countGames_session, if_neg (by simp [hm])]
    exact ⟨rfl, rfl⟩
  · rename_i hm
    refine ⟨_, rfl, ?_⟩
    rw [countGames_session, if_neg (by simp [hm])]
    exact ⟨rfl, rfl⟩

end

/-- Both sessions are OPEN or OVERTIME in a league (R100, R103). -/
def State.BothLeague (s : State) : Prop := ∀ l, ((s.sessions.get l).state = .opened ∨ (s.sessions.get l).state = .overtime)
  ∧ (s.sessions.get l).league = true

theorem crossAdmitted_iff (s : State) : s.crossAdmitted = true ↔ s.BothLeague := by
  rw [State.BothLeague, forall_lane .left]
  simp [State.crossAdmitted, PerLane.get, otherLane]

/-- What a game start asks of a group, before its session is asked (R103). -/
def State.MayStart (s : State) (g : Slot) : Prop :=
  (s.groups.get g).state = .idle ∧ s.LineActive g ∧ ((s.groups.get g).playMode = .cross → s.BothLeague)

section
variable {s : State} {g : Slot}

theorem activeLines_eq_zero_iff : s.activeLines g = 0 ↔ ¬ s.LineActive g := by
  rw [← anyActive_iff, State.activeLines, List.length_eq_zero_iff, List.filter_eq_nil_iff, List.any_eq_true]
  simp

theorem permitStart_asks (h : s.MayStart g) : s.permitStart g = s.permitGame (s.groups.get g).home (s.activeLines g) := by
  obtain ⟨hs, ha, hc⟩ := h
  have hcross : ((s.groups.get g).playMode = .cross && !s.crossAdmitted) = false := by
    rw [← crossAdmitted_iff] at hc
    by_cases hm : (s.groups.get g).playMode = .cross
    · simp [hc hm]
    · simp [hm]
  unfold State.permitStart
  dsimp only
  rw [if_neg (not_not_intro hs), if_neg (not_not_intro ha |> mt activeLines_eq_zero_iff.mp), hcross, if_neg Bool.false_ne_true]

/-- Without what it asks, or with a session that is not OPEN, a start is refused STATE. -/
theorem permitStart_refuses (h : ¬ (s.MayStart g ∧ (s.sessions.get (s.groups.get g).home).state = .opened)) :
    s.permitStart g = (s, some .state) := by
  by_cases hmay : s.MayStart g
  · rw [permitStart_asks hmay]
    exact permitGame_unopened fun ho => h ⟨hmay, ho⟩
  · unfold State.permitStart
    dsimp only
    split
    · rfl
    split
    · rfl
    split
    · rfl
    · rename_i hs ha hc
      refine absurd ⟨not_not.mp hs, not_not.mp (mt activeLines_eq_zero_iff.mpr ha), fun hm => ?_⟩ hmay
      rw [← crossAdmitted_iff]
      simpa [hm] using hc

end

end Sys2Proof.Machine
end

section
/-! Groups and lanes (chapter 5): the lines of a group through a game start and a game end. -/
namespace Sys2Proof.Machine

/-! ### Lines that change and are computed again (R109) -/

/-- A group without its totals, which every change of a line computes again. -/
def Group.bare (r : Group) : Group := { r with runningTotal := none, groupTotal := none }

theorem becomes_bare (r : Group) (a : GroupState) : (r.becomes a).bare = r.bare.becomes a := by
  rw [becomes_eq, becomes_eq, apply_ite Group.bare]
  rfl

/-- Everything but the lines with the totals and changes they bring, the groups, and the lanes. -/
def State.unplayed (s : State) : State :=
  { s with lines := State.reset.lines, groups := State.reset.groups, dirty := 0#16, lanes := State.reset.lanes }

theorem changeLine_line (s : State) (i j : LineId) (f : Line → Line) : (s.changeLine i f).line j =
    if j = i then (s.line i).map fun l => computeLine s.handicap (f l) else s.line j := by
  unfold State.changeLine
  split
  · rename_i l hl
    rw [hl]
    exact line_setLine ..
  · rename_i hl
    split
    · rename_i e
      rw [e, hl]
      rfl
    · rfl

theorem changeLine_bare (s : State) (i : LineId) (f : Line → Line) (g : Slot) :
    ((s.changeLine i f).groups.get g).bare = (s.groups.get g).bare := by
  unfold State.changeLine
  split
  · rename_i l _
    by_cases hg : g = l.group
    · subst hg
      exact (congrArg Group.bare (PerSlot.get_set ..)).trans rfl
    · exact congrArg Group.bare (PerSlot.get_set_of_ne _ hg _)
  · rfl

theorem changeLine_unplayed (s : State) (i : LineId) (f : Line → Line) : (s.changeLine i f).unplayed = s.unplayed := by
  unfold State.changeLine
  split <;> rfl

theorem changeLine_lanes (s : State) (i : LineId) (f : Line → Line) : (s.changeLine i f).lanes = s.lanes := by
  unfold State.changeLine
  split <;> rfl

section
variable {α : Type} (key : α → LineId) (f : α → Line → Line)

/-- A line of each entry changed, entry by entry. -/
def State.changeLines (s : State) (xs : List α) : State := xs.foldl (fun s x => s.changeLine (key x) (f x)) s

theorem changeLines_keeps (s : State) (xs : List α) : (s.changeLines key f xs).unplayed = s.unplayed
    ∧ (s.changeLines key f xs).lanes = s.lanes
    ∧ ∀ g, ((s.changeLines key f xs).groups.get g).bare = (s.groups.get g).bare := by
  induction xs generalizing s with
  | nil => exact ⟨rfl, rfl, fun _ => rfl⟩
  | cons x xs ih =>
    obtain ⟨hu, hl, hg⟩ := ih (s.changeLine (key x) (f x))
    exact ⟨hu.trans (changeLine_unplayed ..), hl.trans (changeLine_lanes ..), fun g => (hg g).trans (changeLine_bare ..)⟩

theorem changeLines_other {s : State} {xs : List α} {i : LineId} (h : i ∉ xs.map key) :
    (s.changeLines key f xs).line i = s.line i := by
  induction xs generalizing s with
  | nil => rfl
  | cons x xs ih =>
    rw [List.map_cons, List.mem_cons, not_or] at h
    exact (ih h.2).trans ((changeLine_line ..).trans (if_neg h.1))

/-- The line of an entry, when no other entry is of that line. -/
theorem changeLines_entry {s : State} {xs : List α} (hn : (xs.map key).Nodup) {x : α} (hx : x ∈ xs) :
    (s.changeLines key f xs).line (key x) = (s.line (key x)).map fun l => computeLine s.handicap (f x l) := by
  induction xs generalizing s with
  | nil => cases hx
  | cons y xs ih =>
    obtain ⟨hy, hn⟩ := List.nodup_cons.mp hn
    rcases List.mem_cons.mp hx with rfl | hx
    · exact (changeLines_other key f hy).trans ((changeLine_line ..).trans (if_pos rfl))
    · have hne : key x ≠ key y := fun e => hy (e ▸ List.mem_map_of_mem hx)
      have hp : (s.changeLine (key y) (f y)).handicap = s.handicap := (congrArg State.handicap (changeLine_unplayed ..) :)
      refine (ih (s := s.changeLine (key y) (f y)) hn hx).trans ?_
      rw [changeLine_line, if_neg hne, hp]

end

/-- A line with its frames emptied, computed again. -/
def Line.cleared (p : HandicapParams) (l : Line) : Line := computeLine p { l with frames := [] }

/-- The lines of an order with their frames emptied. -/
def State.clearLines (s : State) (order : List LineId) : State := s.changeLines id (fun _ l => { l with frames := [] }) order

theorem clearLines_line (s : State) (order : List LineId) (i : LineId) : (s.clearLines order).line i =
    if i ∈ order then (s.line i).map (Line.cleared s.handicap) else s.line i := by
  induction order generalizing s with
  | nil => rfl
  | cons j order ih =>
    have hp : (s.changeLine j fun l => { l with frames := [] }).handicap = s.handicap :=
      (congrArg State.handicap (changeLine_unplayed ..) :)
    have hj := changeLine_line s j i fun l => { l with frames := [] }
    refine (ih (s.changeLine j fun l => { l with frames := [] })).trans ?_
    rw [hp, hj]
    by_cases hij : i = j
    · subst hij
      rw [if_pos rfl, if_pos List.mem_cons_self, Option.map_map]
      exact ite_self _
    · rw [if_neg hij]
      exact if_congr (by simp [hij]) rfl rfl

theorem clearLines_keeps (s : State) (order : List LineId) : (s.clearLines order).unplayed = s.unplayed
    ∧ (s.clearLines order).lanes = s.lanes ∧ ∀ g, ((s.clearLines order).groups.get g).bare = (s.groups.get g).bare :=
  changeLines_keeps ..

/-! ### The start of a game (R103) -/

theorem inside_foldl_told (lost : List Correction) (s : State) :
    State.inside (lost.foldl (fun t e => t.tellDeskConsole (.correctionVoid e)) s) = State.inside s := by
  induction lost generalizing s with
  | nil => rfl
  | cons e lost ih => exact (ih _).trans (inside_tellDeskConsole ..)

theorem inside_voidCorrections (s : State) (gone : Correction → Bool) (home : Lane) : State.inside (s.voidCorrections gone home) =
    State.inside { s with corrections := s.corrections.filter fun e => !gone e } := by
  unfold State.voidCorrections
  dsimp only
  split
  · exact inside_foldl_told ..
  · rw [inside_markFeed]
    exact inside_foldl_told ..

theorem nextGame_eq (n : Option Nat) : nextGame n = match n with
    | none => 1
    | some n => if n < 255 then n + 1 else 1 := by
  cases n <;> rfl

section
variable (s : State) (g : Slot)

/-- The group of a game start: a new game in frame 1. -/
def Group.newGame (r : Group) : Group := { r with game := some (nextGame r.game), inProgress := true, frame := 1 }

/-- A game start before the group asks for its home lane. -/
def State.gameLaid : State :=
  ((s.clearLines (s.groups.get g).order).voidCorrections (fun e => (s.groups.get g).order.contains e.line)
    (s.groups.get g).home).modGroup g Group.newGame

theorem startGame_eq : s.startGame g = (s.gameLaid g).askLane g (s.groups.get g).home := rfl

/-- A game start leaves the pending entries of other groups' lines. -/
theorem gameLaid_inside : State.inside (s.gameLaid g) = (State.inside { s.clearLines (s.groups.get g).order with
      corrections := s.corrections.filter fun e => !(s.groups.get g).order.contains e.line }).modGroup g Group.newGame := by
  have hc : (s.clearLines (s.groups.get g).order).corrections = s.corrections :=
    (congrArg State.corrections (clearLines_keeps s _).1 :)
  rw [State.gameLaid, inside_modGroup, inside_voidCorrections, hc]

theorem gameLaid_lanes : (s.gameLaid g).lanes = s.lanes :=
  have h : (s.gameLaid g).lanes = (s.clearLines (s.groups.get g).order).lanes := (congrArg State.lanes (gameLaid_inside s g) :)
  h.trans (clearLines_keeps s _).2.1

theorem startGame_lines : (s.startGame g).lines = (s.clearLines (s.groups.get g).order).lines :=
  have hask : (s.startGame g).lines = (s.gameLaid g).lines := (congrArg State.lines (askLane_rest (s.gameLaid g) g _) :)
  hask.trans (congrArg State.lines (gameLaid_inside s g) :)

theorem startGame_line (i : LineId) : (s.startGame g).line i =
    if i ∈ (s.groups.get g).order then (s.line i).map (Line.cleared s.handicap) else s.line i := by
  rw [← clearLines_line, State.line, startGame_lines]
  rfl

theorem startGame_corrections : (s.startGame g).corrections =
    s.corrections.filter fun e => !(s.groups.get g).order.contains e.line :=
  have hask : (s.startGame g).corrections = (s.gameLaid g).corrections :=
    (congrArg State.corrections (askLane_rest (s.gameLaid g) g _) :)
  hask.trans (congrArg State.corrections (gameLaid_inside s g) :)

theorem startGame_sessions : (s.startGame g).sessions = s.sessions :=
  have hask : (s.startGame g).sessions = (s.gameLaid g).sessions := (congrArg State.sessions (askLane_rest (s.gameLaid g) g _) :)
  have hlaid : (s.gameLaid g).sessions = (s.clearLines (s.groups.get g).order).sessions :=
    (congrArg State.sessions (gameLaid_inside s g) :)
  (hask.trans hlaid).trans (congrArg State.sessions (clearLines_keeps s _).1 :)

theorem startGame_lanes : (s.startGame g).lanes =
    s.lanes.set (s.groups.get g).home ((s.lanes.get (s.groups.get g).home).asked g) := by
  rw [startGame_eq, askLane_lanes, gameLaid_lanes]

theorem startGame_group : ((s.startGame g).groups.get g).bare =
    ((s.groups.get g).newGame.becomes
      (if (s.lanes.get (s.groups.get g).home).occupant = none then .playing else .waiting)).bare := by
  have hlaid : (s.gameLaid g).groups.get g = ((s.clearLines (s.groups.get g).order).groups.get g).newGame :=
    (congrArg (fun v : State => v.groups.get g) (gameLaid_inside s g) :).trans (PerSlot.get_set ..)
  have hbare : ((s.gameLaid g).groups.get g).bare = (s.groups.get g).newGame.bare := by
    rw [hlaid]
    exact congrArg Group.newGame ((clearLines_keeps s (s.groups.get g).order).2.2 g)
  rw [startGame_eq, askLane_groups, PerSlot.get_set, gameLaid_lanes, becomes_bare, hbare, ← becomes_bare]

end

/-! ### The end of a game (R102) -/

section
variable {s : State} {g : Slot}

/-- The lines that receive an entry are those with frames, in order. -/
theorem gameEntries_ids (s : State) (g : Slot) : (s.gameEntries g).map (·.1) =
    (s.groups.get g).order.filter fun i => s.lineTest i fun l => !l.frames.isEmpty := by
  rw [State.gameEntries, List.map_filterMap, ← List.filterMap_eq_filter]
  refine List.filterMap_congr fun i _ => ?_
  cases hl : s.line i with
  | none => simp [State.lineTest, Option.guard, hl]
  | some l => cases h : l.frames.isEmpty <;> simp [State.lineTest, Option.guard, hl, h]

theorem mem_gameEntries {i : LineId} {y : Line} (hi : i ∈ (s.groups.get g).order) (hy : s.line i = some y)
    (hf : y.frames ≠ []) :
    (i, y.entry ((s.groups.get g).game.getD 0)) ∈ s.gameEntries g :=
  List.mem_filterMap.mpr ⟨i, hi, by simp [hy, hf]⟩

/-- A line as a game end leaves it: the entry joins its list, and it is computed again. -/
def Line.ended (y : Line) (p : HandicapParams) (game : Nat) : Line :=
  if y.frames = [] then y else computeLine p { y with games := appendGame y.games (y.entry game) }

/-- The lines of a group at a game end. -/
def State.endLines (s : State) (g : Slot) : State :=
  s.changeLines (·.1) (fun e l => { l with games := appendGame l.games e.2 }) (s.gameEntries g)

theorem endLines_other {i : LineId} (hi : i ∉ (s.groups.get g).order) : (s.endLines g).line i = s.line i :=
  changeLines_other _ _ fun h => hi (List.mem_of_mem_filter (gameEntries_ids s g ▸ h))

theorem endLines_line (hn : (s.groups.get g).order.Nodup) {i : LineId} (hi : i ∈ (s.groups.get g).order) {y : Line}
    (hy : s.line i = some y) : (s.endLines g).line i = some (y.ended s.handicap ((s.groups.get g).game.getD 0)) := by
  unfold Line.ended
  by_cases hf : y.frames = []
  · rw [if_pos hf, ← hy]
    refine changeLines_other _ _ fun h => ?_
    rw [gameEntries_ids, List.mem_filter] at h
    simp [State.lineTest, hy, hf] at h
  · have h := changeLines_entry (s := s) (·.1) (fun (e : LineId × GameEntry) l => { l with games := appendGame l.games e.2 })
      (by rw [gameEntries_ids]; exact hn.filter _) (mem_gameEntries hi hy hf)
    rw [if_neg hf]
    exact h.trans (by rw [hy]; rfl)

/-- The status of no line changes. -/
theorem endLines_status (s : State) (g : Slot) (i : LineId) :
    ((s.endLines g).line i).map Line.status = (s.line i).map Line.status := by
  unfold State.endLines State.changeLines
  generalize s.gameEntries g = es
  induction es generalizing s with
  | nil => rfl
  | cons e es ih =>
    refine (ih _).trans ?_
    rw [changeLine_line]
    split
    · rename_i hi
      rw [hi, Option.map_map]
      rfl
    · rfl

/-- A group with no game in progress and no current position. -/
def Group.over (r : Group) : Group := { r with inProgress := false, position := none }

theorem becomes_over (r : Group) (a : GroupState) : r.over.becomes a = (r.becomes a).over := by
  rw [becomes_eq, becomes_eq, apply_ite Group.over]
  rfl

/-- A game over: its lines have their entries, and the group, without a current position, is IDLE off its lanes (R102). -/
def State.gameOver (s : State) (g : Slot) : State :=
  (((s.endLines g).releaseLanes g).modGroup g Group.over).becomes g .idle

theorem gameOver_unplayed (s : State) (g : Slot) : (s.gameOver g).unplayed = s.unplayed :=
  (congrArg State.unplayed (releaseLanes_rest (s.endLines g) g) :).trans (changeLines_keeps ..).1

theorem gameOver_line (s : State) (g : Slot) (i : LineId) : (s.gameOver g).line i = (s.endLines g).line i :=
  (congrArg (fun v : State => v.line i) (releaseLanes_rest (s.endLines g) g) :)

theorem gameOver_lanes (s : State) (g : Slot) (l : Lane) : (s.gameOver g).lanes.get l = (s.lanes.get l).released g :=
  (releaseLanes_lanes (s.endLines g) g l).trans (by rw [State.endLines, (changeLines_keeps ..).2.1])

theorem gameOver_group (s : State) (g : Slot) :
    ((s.gameOver g).groups.get g).bare = ((s.groups.get g).becomes .idle).over.bare := by
  have hover : (s.gameOver g).groups.get g = (((s.endLines g).releaseLanes g).groups.get g).over.becomes .idle := by
    rw [State.gameOver, State.becomes, State.modGroup_groups, PerSlot.get_set, State.modGroup_groups, PerSlot.get_set]
  have hbare : (((s.endLines g).groups.get g).becomes .idle).bare = ((s.groups.get g).becomes .idle).bare := by
    rw [becomes_bare, becomes_bare, (show ((s.endLines g).groups.get g).bare = _ from (changeLines_keeps ..).2.2 g)]
  rw [hover, becomes_over, releaseLanes_becomes]
  exact congrArg Group.over hbare

/-- The completed-game notice of a game end, sent after the announcement (R102). -/
def State.endNotice (s : State) (g : Slot) : Notice := .gameEnd g (s.groups.get g).game (s.gameEntries g)

end

end Sys2Proof.Machine
end

section
/-! Groups and lanes (chapter 5): the auto-next start, and how lanes are handed off. -/
namespace Sys2Proof.Machine

/-! ### Active lines -/

section
variable {s t : State} {g : Slot}

theorem activeLines_eq (s : State) (g : Slot) : s.activeLines g =
    ((s.groups.get g).order.filterMap fun i => (s.line i).map Line.status).countP fun x => decide (x = .active) := by
  rw [State.activeLines, State.linesOf, ← List.countP_eq_length_filter, ← List.map_filterMap, List.countP_map]
  rfl

theorem activeLines_congr (ho : (t.groups.get g).order = (s.groups.get g).order)
    (hs : ∀ i, (t.line i).map Line.status = (s.line i).map Line.status) : t.activeLines g = s.activeLines g := by
  simp only [activeLines_eq, ho, hs]

theorem lineActive_iff : s.LineActive g ↔ s.activeLines g ≠ 0 := by rw [ne_eq, activeLines_eq_zero_iff, not_not]

end

/-! ### The auto-next start (R104) -/

section
variable (s : State) (g : Slot)

theorem gameOver_state : ((s.gameOver g).groups.get g).state = ((s.groups.get g).becomes .idle).state :=
  (congrArg Group.state (gameOver_group s g) :)

theorem gameOver_keeps : ((s.gameOver g).groups.get g).order = (s.groups.get g).order
    ∧ ((s.gameOver g).groups.get g).home = (s.groups.get g).home
    ∧ ((s.gameOver g).groups.get g).playMode = (s.groups.get g).playMode := by
  obtain ⟨hh, hm, ho, -⟩ := becomes_keeps (s.groups.get g) .idle
  exact ⟨(congrArg Group.order (gameOver_group s g) :).trans ho, (congrArg Group.home (gameOver_group s g) :).trans hh,
    (congrArg Group.playMode (gameOver_group s g) :).trans hm⟩

theorem gameOver_sessions : (s.gameOver g).sessions = s.sessions := (congrArg State.sessions (gameOver_unplayed s g) :)

theorem gameOver_activeLines : (s.gameOver g).activeLines g = s.activeLines g :=
  activeLines_congr (gameOver_keeps s g).1 fun i => by rw [gameOver_line, endLines_status]

/-- What the start that the auto-next flag asks for needs, but for the prepaid games. -/
def State.NextMayStart : Prop :=
  ¬ ((s.groups.get g).state = .moving ∨ (s.groups.get g).state = .moved) ∧ s.LineActive g
    ∧ (s.sessions.get (s.groups.get g).home).state = .opened ∧ ((s.groups.get g).playMode = .cross → s.BothLeague)

/-- The prepaid games do not reach. -/
def State.NextShort : Prop := (s.sessions.get (s.groups.get g).home).mode = .prepaidGames
  ∧ (s.sessions.get (s.groups.get g).home).prepaidGames < s.activeLines g

theorem gameOver_idle_iff : ((s.gameOver g).groups.get g).state = .idle ↔
    ¬ ((s.groups.get g).state = .moving ∨ (s.groups.get g).state = .moved) := by
  rw [gameOver_state, becomes_eq]
  split
  · rename_i h
    rcases h with h | h <;> simp [h]
  · rename_i h
    exact iff_of_true rfl h

theorem nextMayStart_iff : (s.gameOver g).MayStart g
      ∧ ((s.gameOver g).sessions.get ((s.gameOver g).groups.get g).home).state = .opened ↔ s.NextMayStart g := by
  obtain ⟨-, hh, hm⟩ := gameOver_keeps s g
  rw [State.MayStart, State.NextMayStart, State.BothLeague, State.BothLeague, gameOver_idle_iff, lineActive_iff, lineActive_iff,
    gameOver_activeLines, gameOver_sessions, hh, hm]
  tauto

variable {s g}

theorem next_refused (h : ¬ s.NextMayStart g) : (s.gameOver g).permitStart g = (s.gameOver g, some .state) :=
  permitStart_refuses (mt (nextMayStart_iff s g).mp h)

/-- A start that may begin asks the session of the home lane. -/
theorem next_asks (h : s.NextMayStart g) :
    (s.gameOver g).permitStart g = (s.gameOver g).permitGame (s.groups.get g).home (s.activeLines g) := by
  rw [permitStart_asks ((nextMayStart_iff s g).mpr h).1, gameOver_activeLines, (gameOver_keeps s g).2.1]

theorem next_short (h : s.NextMayStart g) (hs : s.NextShort g) :
    (s.gameOver g).permitStart g = ((s.gameOver g).enterSession (s.groups.get g).home .locked none, some .full) := by
  obtain ⟨-, -, ho, -⟩ := id h
  obtain ⟨hm, hn⟩ := hs
  rw [next_asks h]
  rw [← gameOver_sessions s g] at ho hm hn
  exact permitGame_short ho hm hn

theorem next_permitted (h : s.NextMayStart g) (hs : ¬ s.NextShort g) :
    ∃ t : State, (s.gameOver g).permitStart g = (t, none) ∧ State.behind t = State.behind (s.gameOver g)
      ∧ (t.sessions.get (s.groups.get g).home).meter.games
        = min 65535 ((s.sessions.get (s.groups.get g).home).meter.games + s.activeLines g)
      ∧ (t.sessions.get (s.groups.get g).home).prepaidGames
        = if (s.sessions.get (s.groups.get g).home).mode = .prepaidGames
          then (s.sessions.get (s.groups.get g).home).prepaidGames - s.activeLines g
          else (s.sessions.get (s.groups.get g).home).prepaidGames := by
  obtain ⟨-, -, ho, -⟩ := id h
  rw [State.NextShort, ← gameOver_sessions s g] at hs
  rw [← gameOver_sessions s g] at ho ⊢
  obtain ⟨t, ht, hgames, hprepaid⟩ := permitGame_permits ho hs
  have hb := behind_permitGame (s.gameOver g) (s.groups.get g).home (s.activeLines g)
  rw [ht] at hb
  exact ⟨t, (next_asks h).trans ht, hb, hgames, hprepaid⟩

/-! ### The game end and what follows (R102, R104) -/

variable (before : State)

theorem gameEnd_plain (h : (s.sessions.get (s.groups.get g).home).autoNext = false) :
    s.gameEnd before g = ((s.gameOver g).announce before none).broadcast (s.endNotice g) := by
  rw [← gameOver_sessions s g] at h
  exact if_neg (Bool.not_eq_true _ ▸ h)

theorem gameEnd_refused (h : (s.sessions.get (s.groups.get g).home).autoNext = true) {t : State} {c : Code}
    (hp : (s.gameOver g).permitStart g = (t, some c)) :
    s.gameEnd before g = (t.announce before (some (g, c))).broadcast (s.endNotice g) := by
  rw [← gameOver_sessions s g] at h
  refine (if_pos h).trans ?_
  split
  · rename_i e
    obtain ⟨rfl, hc⟩ := Prod.mk.inj (e.symm.trans hp)
    rw [Option.some.inj hc]
    rfl
  · rename_i e
    cases (Prod.mk.inj (e.symm.trans hp)).2

theorem gameEnd_starts (h : (s.sessions.get (s.groups.get g).home).autoNext = true) {t v : State}
    (hp : (s.gameOver g).permitStart g = (t, none)) (hv : (t.announce before none).broadcast (s.endNotice g) = v) :
    s.gameEnd before g = (v.startGame g).announce v none := by
  rw [← gameOver_sessions s g] at h
  refine (if_pos h).trans ?_
  split
  · rename_i e
    cases (Prod.mk.inj (e.symm.trans hp)).2
  · rename_i e
    obtain ⟨rfl, -⟩ := Prod.mk.inj (e.symm.trans hp)
    subst hv
    rfl

end

section
variable {s : State} {g : Slot} (before : State)

/-! ### A game end without a next game (R102, R104) -/

/-- The auto-next start happens. -/
def State.NextStarts (s : State) (g : Slot) : Prop :=
  (s.sessions.get (s.groups.get g).home).autoNext = true ∧ s.NextMayStart g ∧ ¬ s.NextShort g

theorem gameEnd_rests (h : ¬ s.NextStarts g) : ∃ v c, s.gameEnd before g = (v.announce before c).broadcast (s.endNotice g)
    ∧ State.behind v = State.behind (s.gameOver g) := by
  by_cases ha : (s.sessions.get (s.groups.get g).home).autoNext = true
  · by_cases hm : s.NextMayStart g
    · have hs : s.NextShort g := by_contra fun hs => h ⟨ha, hm, hs⟩
      exact ⟨_, _, gameEnd_refused before ha (next_short hm hs), behind_enterSession ..⟩
    · exact ⟨_, _, gameEnd_refused before ha (next_refused hm), rfl⟩
  · exact ⟨_, _, gameEnd_plain before (Bool.not_eq_true _ ▸ ha), rfl⟩

theorem placed_bare {v : State} {x y : Group} (h : x.bare = y.bare) :
    { v.placed x with runningTotal := none, groupTotal := none, position := none }
      = { y with runningTotal := none, groupTotal := none, position := none } :=
  (congrArg Group.bare (placed_but_position v x none)).trans (congrArg (fun r : Group => { r with position := none }) h)

/-- The lines, the group, the lanes and the pending entries after a game end alone. -/
theorem rested_play {v t : State} {c : Option (Slot × Code)} (ht : t = (v.announce before c).broadcast (s.endNotice g))
    (hv : State.behind v = State.behind (s.gameOver g)) :
    (∀ i, t.line i = (s.endLines g).line i) ∧ (∀ l, t.lanes.get l = (s.lanes.get l).released g)
      ∧ t.corrections = s.corrections ∧ (t.groups.get g).bare = ((s.groups.get g).becomes .idle).over.bare := by
  subst ht
  have hgroups : v.groups = (s.gameOver g).groups := (congrArg State.groups hv :)
  have hlines : v.lines = (s.gameOver g).lines := (congrArg State.lines hv :)
  have hlanes : v.lanes = (s.gameOver g).lanes := (congrArg State.lanes hv :)
  have hcorr : v.corrections = (s.gameOver g).corrections := (congrArg State.corrections hv :)
  refine ⟨fun i => ?_, fun l => ?_, ?_, ?_⟩
  · rw [← gameOver_line, State.line, State.broadcast_lines, announce_lines, hlines]
    rfl
  · rw [← gameOver_lanes, ← hlanes, State.broadcast_lanes, announce_lanes]
  · rw [State.broadcast_corrections, announce_corrections, hcorr]
    exact (congrArg State.corrections (gameOver_unplayed s g) :)
  · have hnot : ((s.gameOver g).groups.get g).state ≠ .playing := by
      rw [gameOver_state, becomes_eq]
      split
      · rename_i h
        rcases h with h | h <;> simp [h]
      · exact GroupState.noConfusion
    rw [State.broadcast_groups, announce_groups, hgroups, placed_of_not_playing v hnot, gameOver_group]

/-- An announcement of a refused start is told to a link with at most four notices before the game end. -/
theorem refused_told {v : State} {c : Code} {k : Link} (hm : (s.port k).mask.getLsbD 1 = true)
    (hn : (s.port k).notices.length ≤ 4)
    (hmask : (v.port k).mask = (s.port k).mask) (hlen : (v.port k).notices.length ≤ (s.port k).notices.length + 1) :
    ((v.announce before (some (g, c))).broadcast (s.endNotice g)).Told k
      (((v.announce before (some (g, c))).broadcast (s.endNotice g)).groupNotice g c) := by
  rw [groupNotice_congr (s := v.announce before (some (g, c))) (by rw [State.broadcast_groups]) (State.broadcast_lanes ..)]
  exact (announce_tells before g c (hmask ▸ hm) (by omega)).evolves (c := .all) ((Evolves.refl _).broadcast _)

theorem marked_port (s : State) (l : Lane) (k : Link) : ((s.markFeed l true true).bannerEval l).port k = s.port k := rfl

theorem modSession_port (s : State) (l : Lane) (f : Session → Session) (k : Link) : (s.modSession l f).port k = s.port k := rfl

theorem enterSession_length (s : State) (l : Lane) (state : SessionState) (from_ : Option SessionState) (k : Link) :
    ((s.enterSession l state from_).port k).notices.length ≤ (s.port k).notices.length + 1 := by
  unfold State.enterSession
  dsimp only
  rw [marked_port, ← modSession_port s l (fun x => { x with state := state, pausedFrom := from_ }) k]
  exact broadcast_length ..

theorem gameOver_port (s : State) (g : Slot) (k : Link) : (s.gameOver g).port k = s.port k :=
  (congrArg (fun v : State => v.port k) (gameOver_unplayed s g) :)

theorem gameEnd_tells_state (ha : (s.sessions.get (s.groups.get g).home).autoNext = true) (hn : ¬ s.NextMayStart g) {k : Link}
    (hm : (s.port k).mask.getLsbD 1 = true) (hl : (s.port k).notices.length ≤ 4) :
    (s.gameEnd before g).Told k ((s.gameEnd before g).groupNotice g .state) := by
  rw [gameEnd_refused before ha (next_refused hn)]
  exact refused_told before hm hl (by rw [gameOver_port]) (by rw [gameOver_port]; omega)

theorem gameEnd_tells_full (ha : (s.sessions.get (s.groups.get g).home).autoNext = true) (hn : s.NextMayStart g)
    (hs : s.NextShort g) : ((s.gameEnd before g).sessions.get (s.groups.get g).home).state = .locked
      ∧ ∀ k, (s.port k).mask.getLsbD 1 = true → (s.port k).notices.length ≤ 4 →
        (s.gameEnd before g).Told k ((s.gameEnd before g).groupNotice g .full) := by
  have hp := next_short hn hs
  rw [gameEnd_refused before ha hp]
  refine ⟨?_, fun k hm hl => refused_told before hm hl ?_ ?_⟩
  · rw [State.broadcast_sessions]
    refine (((State.Follows.refl _).announce before (some (g, .full))).session _).locked ?_
    rw [enterSession_sessions, PerLane.get_set]
  · have h := (((Evolves.refl (c := .all) (s.gameOver g)).permitStart g).port k).mask
    rw [hp, gameOver_port] at h
    exact h
  · rw [← gameOver_port s g k]
    exact enterSession_length ..

/-! ### A game end with a next game (R103, R104) -/

theorem newGame_becomes {q : Group} (h : ¬ (q.state = .moving ∨ q.state = .moved)) (a : GroupState) : q.newGame.becomes a =
    { q with state := a, game := some (nextGame q.game), inProgress := true, frame := 1 } :=
  (becomes_eq ..).trans (if_neg h)

/-- A game start of a group that is not frozen, with its announcement, from the state `v` in which it is permitted. -/
theorem started_play {v u : State} (hu : u = (v.startGame g).announce before none)
    (h : ¬ ((v.groups.get g).state = .moving ∨ (v.groups.get g).state = .moved)) :
    let q := v.groups.get g
    (∀ i, u.line i = if i ∈ q.order then (v.line i).map (Line.cleared v.handicap) else v.line i)
    ∧ { u.groups.get g with runningTotal := none, groupTotal := none, position := none } = { q with
        state := if (v.lanes.get q.home).occupant = none then .playing else .waiting
        game := some (nextGame q.game), inProgress := true, frame := 1, runningTotal := none, groupTotal := none
        position := none }
    ∧ u.lanes = v.lanes.set q.home ((v.lanes.get q.home).asked g)
    ∧ u.corrections = v.corrections.filter (fun e => !q.order.contains e.line)
    ∧ v.Follows u := by
  intro q
  subst hu
  refine ⟨fun i => ?_, ?_, ?_, ?_, ?_⟩
  · rw [State.line, announce_lines, ← State.line, startGame_line]
  · rw [announce_groups]
    exact placed_bare ((startGame_group v g).trans (congrArg Group.bare (newGame_becomes h _)))
  · rw [announce_lanes, startGame_lanes]
  · rw [announce_corrections, startGame_corrections]
  · exact ((State.Follows.refl v).same (startGame_sessions v g)).announce before none

/-- A next game, from the state in which it is permitted. -/
theorem gameEnd_next (h : s.NextStarts g) : ∃ v : State, s.gameEnd before g = (v.startGame g).announce v none
    ∧ (∀ i, v.line i = (s.endLines g).line i) ∧ (∀ l, v.lanes.get l = (s.lanes.get l).released g)
    ∧ v.corrections = s.corrections ∧ (v.groups.get g).bare = ((s.groups.get g).becomes .idle).over.bare ∧ v.handicap = s.handicap
    ∧ (v.sessions.get (s.groups.get g).home).meter.games
        = min 65535 ((s.sessions.get (s.groups.get g).home).meter.games + s.activeLines g)
    ∧ (v.sessions.get (s.groups.get g).home).prepaidGames
        = if (s.sessions.get (s.groups.get g).home).mode = .prepaidGames
          then (s.sessions.get (s.groups.get g).home).prepaidGames - s.activeLines g
          else (s.sessions.get (s.groups.get g).home).prepaidGames := by
  obtain ⟨ha, hm, hs⟩ := h
  obtain ⟨t, hp, hb, hgames, hprepaid⟩ := next_permitted hm hs
  obtain ⟨hlines, hlanes, hcorr, hgroup⟩ := rested_play before (v := t) (c := none) rfl hb
  have hf := ((State.Follows.refl t).announce before none).session (s.groups.get g).home
  refine ⟨_, gameEnd_starts before ha hp rfl, hlines, hlanes, hcorr, hgroup, ?_, ?_, ?_⟩
  · have ht : t.handicap = (s.gameOver g).handicap := (congrArg State.handicap hb :)
    rw [State.broadcast_handicap, announce_handicap, ht]
    exact (congrArg State.handicap (gameOver_unplayed s g) :)
  · rw [State.broadcast_sessions, hf.meter, hgames]
  · rw [State.broadcast_sessions, hf.prepaid, hprepaid]

/-- The next game of a group: its lines, the group, the lanes, the pending entries and the games charged. -/
theorem next_play {t : State} (ht : t = s.gameEnd before g) (hn : (s.groups.get g).order.Nodup) (h : s.NextStarts g) :
    let r := s.groups.get g
    let x := s.sessions.get r.home
    (∀ i, i ∉ r.order → t.line i = s.line i)
    ∧ (∀ i ∈ r.order, ∀ y, s.line i = some y → t.line i = some ((y.ended s.handicap (r.game.getD 0)).cleared s.handicap))
    ∧ { t.groups.get g with runningTotal := none, groupTotal := none, position := none } = { r with
        state := if ((s.lanes.get r.home).released g).occupant = none then .playing else .waiting
        game := some (nextGame r.game), inProgress := true, frame := 1, position := none, runningTotal := none
        groupTotal := none }
    ∧ t.lanes.get r.home = ((s.lanes.get r.home).released g).asked g
    ∧ t.lanes.get (otherLane r.home) = (s.lanes.get (otherLane r.home)).released g
    ∧ t.corrections = s.corrections.filter (fun e => !r.order.contains e.line)
    ∧ (t.sessions.get r.home).meter.games = min 65535 (x.meter.games + s.activeLines g)
    ∧ (t.sessions.get r.home).prepaidGames
      = if x.mode = .prepaidGames then x.prepaidGames - s.activeLines g else x.prepaidGames := by
  intro r x
  obtain ⟨v, hv, hlines, hlanes, hcorr, hgroup, hhandicap, hgames, hprepaid⟩ := gameEnd_next before h
  have hleft : ((r.becomes .idle).over).bare = { r with state := .idle, inProgress := false, position := none }.bare := by
    rw [becomes_eq r, if_neg h.2.1.1]
    rfl
  rw [hleft] at hgroup
  have horder : (v.groups.get g).order = r.order := (congrArg Group.order hgroup :)
  have hhome : (v.groups.get g).home = r.home := (congrArg Group.home hgroup :)
  have hidle : (v.groups.get g).state = .idle := (congrArg Group.state hgroup :)
  obtain ⟨uline, ugroup, ulanes, ucorr, ufollows⟩ := started_play v (ht.trans hv) (by simp [hidle])
  have hf := ufollows.session r.home
  rw [hhome, hlanes] at ugroup ulanes
  rw [horder, hcorr] at ucorr
  rw [horder, hhandicap] at uline
  refine ⟨fun i hi => ?_, fun i hi y hy => ?_, ugroup.trans ?_, ?_, ?_, ucorr, hf.meter ▸ hgames, hf.prepaid ▸ hprepaid⟩
  · rw [uline, if_neg hi, hlines, endLines_other hi]
  · rw [uline, if_pos hi, hlines, endLines_line hn hi hy]
    rfl
  · exact congrArg (fun q : Group => { q with
      state := if ((s.lanes.get r.home).released g).occupant = none then .playing else .waiting
      home := r.home, game := some (nextGame q.game), inProgress := true, frame := 1, position := none }) hgroup
  · rw [ulanes, PerLane.get_set]
  · rw [ulanes, PerLane.get_set_of_ne _ (otherLane_ne _), hlanes]

end

/-! ### Lanes are handed off -/

/-- Settles O28, part by part: the hand-off, move-group, complete frames, the up bowler, and the test after a FINAL ball. -/
theorem lanesAreHandedOff : Obligations.LanesAreHandedOff := by
  unfold Obligations.LanesAreHandedOff
  refine ⟨?handOff, ?move, ?frame, ?up, ?advance⟩
  case handOff =>
    intro s g a b hab ho hw hbo hbw t after
    have hb : (s.lanes.get b).released g = s.lanes.get b := released_other hbo hbw
    have hafter (r : Group) (state : GroupState) : r.becomes state = after r state := becomes_eq r state
    have htarget : t.lanes.get b = (s.lanes.get b).asked g := (handOff_target s g b).trans (by rw [hb])
    have hgroup : t.groups.get g = after (s.groups.get g) (if (s.lanes.get b).occupant = none then .playing else .waiting) :=
      (handOff_group s g b).trans (by rw [hb, hafter])
    refine ⟨?_, fun hfree => ⟨?_, ?_⟩, fun htaken => ⟨?_, ?_⟩, fun w hwait => ?_, handOff_rest s g b⟩
    · exact (handOff_lane s g b hab).trans (if_pos ho)
    · exact htarget.trans (if_pos hfree)
    · rw [hgroup, if_pos hfree]
    · exact htarget.trans (if_neg htaken)
    · rw [hgroup, if_neg htaken]
    · have hne : w ≠ g := fun e => hw (e ▸ hwait)
      rw [← hafter]
      exact (handOff_other s g b hne).trans (releaseLanes_waiter s g w ho hwait)
  case move =>
    intro tag slot lane g l s hi hg hl hs hm hh ho hother hx hb r
    let q : Request := .moveGroup slot lane
    let v := s.queuedUp .desk tag q
    refine State.serves_with' (r := q) rfl hi rfl (by nofun) (by nofun)
      ⟨_, handleMoveGroup_accepts (s := v) hg hl hs hm hh ho hother hx hb, ?_⟩
    have hrest := rehomed_rest v g l
    obtain ⟨hpdu, hsensing, hret⟩ := announce_decks (v.rehomed g l) v none
    obtain ⟨hhome, horder, hframe⟩ := rehomed_group v g l
    obtain ⟨pstate, phome, porder, pframe⟩ := placed_keeps (v.rehomed g l) ((v.rehomed g l).groups.get g)
    rw [announce_groups, announce_lanes, announce_lines, announce_corrections, pstate, phome, porder, pframe]
    refine ⟨hhome, horder, hframe, (congrArg State.lines hrest :), fun hp => ?_, fun hn => ?_,
      hpdu.trans (congrArg State.pdu hrest :), hsensing.trans (congrArg State.sensing hrest :),
      hret.trans (congrArg State.ret hrest :), (congrArg State.corrections hrest :)⟩
    · have hmoving : ¬ (r.state = .moving ∨ r.state = .moved) := by rcases hs with h | h | h <;> simp [r, h]
      obtain ⟨hlane, hstate, hleft⟩ := rehomed_lanes (s := v) hp ho hmoving
      exact ⟨hlane, hstate, hleft r.home hh⟩
    · rw [rehomed_idle v g l hn, State.modGroup_groups, PerSlot.get_set]
      exact ⟨rfl, rfl⟩
  case frame =>
    intro f final strike
    refine ⟨frameComplete_missed, fun h hn => ?_, fun h hn => ?_⟩
    · rw [frameComplete_bowled h]
      exact ballsComplete_early hn final
    · rw [frameComplete_bowled h, hn]
      exact ballsComplete_tenth final
  case up =>
    intro s l up
    refine ⟨fun g ho hp i x hx hup => ?_, fun i f b h => ?_⟩
    · exact upBowler_eq ((bowling_iff s l g).mpr ⟨ho, hp⟩) ((upLine_eq_some_iff ..).mpr hup) hx
    · obtain ⟨g, hg, hi⟩ := upLine_of_upBowler h
      obtain ⟨ho, hp⟩ := (bowling_iff s l g).mp hg
      exact ⟨g, ho, hp, (upLine_eq_some_iff ..).mp hi⟩
  case advance =>
    intro s g r t due active placed lane on
    have hlane (k : Nat) : r.laneOfFrame k = lane k := laneOfFrame_eq r k
    refine ⟨fun h => ?_, fun h hf ha hl => ?_, fun h hf ha hl => ?_, fun h hn hd => ?_⟩
    · have ht : t = s.announce s none := advance_due s h
      rw [ht]
      exact ⟨announce_groups s s none, SameInside.withGroups (sameInside_announce (s := s) rfl none) rfl⟩
    · have ht : t = on.announce s none :=
        (advance_frame s h hf ha).trans (by rw [hlane, hlane, if_pos hl]; rfl)
      rw [ht]
      exact ⟨announce_groups on s none, SameInside.withGroups (sameInside_announce (s := on) (before := s) rfl none) rfl⟩
    · have ht : t = (on.handOff g (lane (r.frame + 1))).announce s none :=
        (advance_frame s h hf ha).trans (by rw [hlane, hlane, if_neg hl]; rfl)
      have hrest : { on.handOff g (lane (r.frame + 1)) with lanes := s.lanes, groups := s.groups } = s :=
        congrArg (fun v : State => { v with groups := s.groups }) (handOff_rest on g (lane (r.frame + 1)))
      have hplaced : (on.handOff g (lane (r.frame + 1))).placed = placed := placed_congr s (congrArg State.lines hrest :)
      rw [ht]
      refine ⟨announce_lanes .., fun m => ?_, sameInside_rearranged none hrest⟩
      rw [announce_groups, hplaced]
    · have ht : t = s.gameEnd s g := advance_over s h hn
      intro frozen x n checked short starts released ended told
      have hall (i : LineId) (hi : i ∉ r.order) : t.line i = s.line i := by
        by_cases hs : s.NextStarts g
        · exact (next_play s ht hd hs).1 i hi
        · obtain ⟨v, c, hv, hb⟩ := gameEnd_rests s hs
          exact ((rested_play s (ht.trans hv) hb).1 i).trans (endLines_other hi)
      refine ⟨hall, ?_, ?_, ?_, fun hs => ?_, fun hs => ?_⟩
      · exact (Spares.pdu_eq ((Spares.refl s).advance s g))
      · exact (Spares.sensing_eq ((Spares.refl s).advance s g))
      · exact congrArg (·.1) ((Plays.refl s).advance s g).plant
      · obtain ⟨v, c, hv, hb⟩ := gameEnd_rests s hs
        obtain ⟨hlines, hlanes, hcorr, hgroup⟩ := rested_play s (ht.trans hv) hb
        refine ⟨fun i hi y hy => (hlines i).trans (endLines_line hd hi hy), ?_, hlanes, hcorr, fun ha hc => ?_, fun ha hc => ?_⟩
        · refine (congrArg (fun q : Group =>
            { q with runningTotal := r.runningTotal, groupTotal := r.groupTotal }) hgroup).trans ?_
          rw [becomes_fields]
          rfl
        · have hshort : s.NextShort g := by_contra fun hn => hs ⟨ha, hc, hn⟩
          have hfull := gameEnd_tells_full s ha hc hshort
          rw [← ht] at hfull
          exact hfull
        · intro k hm hk
          have hstate := gameEnd_tells_state s ha hc hm hk
          rw [← ht] at hstate
          exact hstate
      · obtain ⟨-, hlines, hgroup, hhome, hother, hcorr, hgames, hprepaid⟩ := next_play s ht hd hs
        intro game home free
        have hgame : nextGame r.game = game := nextGame_eq r.game
        rw [hgame] at hgroup
        refine ⟨hlines, ?_, hhome, hother, hcorr, hgames, hprepaid⟩
        exact congrArg (fun q : Group => { q with runningTotal := r.runningTotal, groupTotal := r.groupTotal }) hgroup

end Sys2Proof.Machine
end

section
/-! Groups and lanes (chapter 5): new-game by request. -/
namespace Sys2Proof.Machine

section
variable {s v : State} {g : Slot}

theorem handleNewGame_permitted {slot : Nat} (hg : slotOf slot = some g) (hp : s.permitStart g = (v, none)) :
    handleNewGame slot s = ((v.startGame g).announce s none,
      .ok (be 1 ((((v.startGame g).announce s none).groups.get g).game.getD 0)
        ++ be 1 (((v.startGame g).announce s none).groups.get g).state.code)) := by
  simp [handleNewGame, hg, hp]

end

/-- Settles O27: the permission of the hypothesis is the one that the request asks for, and the game starts in the state that it
leaves, where groups, lines and lanes are as they were. -/
theorem newGameStarts : Obligations.NewGameStarts := by
  unfold Obligations.NewGameStarts
  intro k tag slot g s v hi hk hg hs ha hc hp r game free
  let q : Request := .newGame slot
  let w := s.queuedUp k tag q
  let u := (v.startGame g).announce w none
  have hb : State.behind v = State.behind w := by
    have h := behind_permitGame w r.home (s.activeLines g)
    rwa [hp] at h
  have hgroups : v.groups = s.groups := (congrArg State.groups hb :)
  have hlanes : v.lanes = s.lanes := (congrArg State.lanes hb :)
  have hlines (i : LineId) : v.line i = s.line i := (congrArg (fun x : State => x.line i) hb :)
  have hcorr : v.corrections = s.corrections := (congrArg State.corrections hb :)
  have hhandicap : v.handicap = s.handicap := (congrArg State.handicap hb :)
  obtain ⟨uline, ugroup, ulanes, ucorr, ufollows⟩ := started_play (g := g) w (u := u) rfl (by simp [hgroups, hs])
  have hf := ufollows.session r.home
  rw [hgroups, hcorr] at ucorr
  rw [hgroups, hlanes] at ulanes ugroup
  simp only [hgroups, hhandicap, hlines] at uline
  rw [nextGame_eq] at ugroup
  have hstate : (u.groups.get g).state = if free then .playing else .waiting := (congrArg Group.state ugroup :)
  have hgame : (u.groups.get g).game = some game := (congrArg Group.game ugroup :)
  have hasked : (s.lanes.get r.home).asked g =
    if free then { s.lanes.get r.home with occupant := some g } else { s.lanes.get r.home with waiter := some g } := rfl
  refine ⟨u, ?_, hstate, hgame, (congrArg Group.inProgress ugroup :), (congrArg Group.frame ugroup :),
    (congrArg Group.order ugroup :), ?_, ?_, fun i hi l hl => ?_, fun i hi => ?_, ucorr, hf.meter, hf.prepaid⟩
  · have hcode : (u.groups.get g).state.code = if free then 2 else 3 := by
      rw [hstate]
      split <;> rfl
    have hanswer := handleNewGame_permitted (s := w) hg ((permitStart_asks (s := w) ⟨hs, ha, hc⟩).trans hp)
    rw [show (v.startGame g).announce w none = u from rfl, hgame, hcode] at hanswer
    exact (State.served (r := q) rfl hi (by rcases hk with rfl | rfl <;> rfl) (by nofun) (by nofun) hanswer).1
  · rw [ulanes, PerLane.get_set, hasked]
  · rw [ulanes, PerLane.get_set_of_ne _ (otherLane_ne _)]
  · rw [uline, if_pos hi, hl]
    rfl
  · rw [uline, if_neg hi]

end Sys2Proof.Machine
end

section
/-! Groups and lanes (chapter 5): groups that are made and dismissed. -/
namespace Sys2Proof.Machine

/-! ### Lines that are created (R89) -/

/-- A group but for its current position, which an announcement places. -/
theorem placed_but_own (s : State) (r : Group) : { s.placed r with position := r.position } = r :=
    placed_but_position s r r.position

section
variable (s : State)

theorem addLines_rest (es : List (LineId × Line)) : { s.addLines es with lines := s.lines } = s := by
  induction es generalizing s with
  | nil => rfl
  | cons e es ih => exact congrArg (fun v : State => { v with lines := s.lines }) (ih (s.setLine e.1 (some e.2)))

theorem addLines_other {es : List (LineId × Line)} {i : LineId} (h : i ∉ es.map (·.1)) : (s.addLines es).line i = s.line i := by
  induction es generalizing s with
  | nil => rfl
  | cons e es ih =>
    rw [List.map_cons, List.mem_cons, not_or] at h
    exact (ih _ h.2).trans ((line_setLine ..).trans (if_neg h.1))

theorem addLines_ids {ids : List LineId} {ls : List Line} (hn : ids.Nodup) (hl : ids.length = ls.length) :
    ids.map (s.addLines (ids.zip ls)).line = ls.map some := by
  induction ids generalizing s ls with
  | nil => cases ls with
    | nil => rfl
    | cons => cases hl
  | cons i ids ih => cases ls with
    | nil => cases hl
    | cons l ls =>
      obtain ⟨hi, hn⟩ := List.nodup_cons.mp hn
      have hl : ids.length = ls.length := Nat.succ.inj hl
      have hhead : ((s.setLine i (some l)).addLines (ids.zip ls)).line i = some l := by
        rw [addLines_other, line_setLine, if_pos rfl]
        rwa [List.map_fst_zip hl.le]
      exact congr (congrArg List.cons hhead) (ih (s.setLine i (some l)) hn hl)

theorem freeLines_nodup : s.freeLines.Nodup := (show lineIds.Nodup by decide).filter _

end

/-! ### create-group (R89) -/

theorem bowlerOk_of {b : BowlerSpec} (h1 : 1 ≤ b.name.length) (h12 : b.name.length ≤ 12)
    (ha : ∀ a, b.average = some a → a ≤ 300) (hm : ∃ m, handicapOf b.mode b.fixed = some m) : bowlerOk b = true := by
  obtain ⟨m, hm⟩ := hm
  have haverage : averageOk b.average = true := by
    unfold averageOk
    split
    · rename_i n hn
      simpa using ha n hn
    · rfl
  simp [bowlerOk, nameOk, h1, h12, haverage, hm]

section
variable (s : State) (g : Slot) (name : Name) (l : Lane) (bowlers : List BowlerSpec)

/-- A new group with its lines at the lowest free ids. -/
def State.grouped : State :=
  (s.addLines ((s.freeLines.take bowlers.length).zip (bowlers.map fun b => newLine s.handicap g b []))).modGroup g fun _ =>
    { Group.empty with state := .idle, name := name, home := l, order := s.freeLines.take bowlers.length }

theorem grouped_rest : { s.grouped g name l bowlers with lines := s.lines, groups := s.groups } = s :=
  congrArg (fun v : State => { v with groups := s.groups }) (addLines_rest s _)

theorem grouped_groups : (s.grouped g name l bowlers).groups = s.groups.set g
    { Group.empty with state := .idle, name := name, home := l, order := s.freeLines.take bowlers.length } := by
  have h : (s.addLines ((s.freeLines.take bowlers.length).zip (bowlers.map fun b => newLine s.handicap g b []))).groups
      = s.groups :=
    (congrArg State.groups (addLines_rest s _) :)
  rw [State.grouped, State.modGroup_groups, h]

variable {s g name l bowlers}

theorem handleCreateGroup_accepts {slot lane : Nat} (hg : slotOf slot = some g) (hl : laneOf lane = some l) (h1 : 1 ≤ name.length)
    (h12 : name.length ≤ 12) (hb1 : 1 ≤ bowlers.length) (hb8 : bowlers.length ≤ 8) (hb : ∀ b ∈ bowlers, bowlerOk b = true)
    (he : (s.groups.get g).state = .empty)
    (ho : (s.groups.get (otherSlot g)).state = .empty ∨ (s.groups.get (otherSlot g)).home ≠ l)
    (hc : (s.sessions.get l).state ≠ .closed) (hc' : (s.sessions.get l).state ≠ .closing)
    (hf : bowlers.length ≤ s.freeLines.length) :
    handleCreateGroup slot name lane bowlers s =
      ((s.grouped g name l bowlers).announce s none, .ok (listed lineField (s.freeLines.take bowlers.length))) := by
  have hother : s.otherHomed g l = false := by
    rcases ho with h | h <;> simp [State.otherHomed, Group.present, h]
  have hlen : (s.freeLines.take bowlers.length).length = bowlers.length := List.length_take_of_le hf
  have hall : bowlers.all bowlerOk = true := List.all_eq_true.mpr hb
  have hname : nameOk name = true := by simp [nameOk, h1, h12]
  simp [handleCreateGroup, hg, hl, hname, hb1, hb8, hall, Group.present, he, hother, sessionTakesGroups, hc, hc', hlen]
  rfl

end

/-! ### dismiss-group (R90, R128) -/

theorem inside_tellHolder (s : State) (k : Link) (c : CopyState) (n : Notice) :
    State.inside (s.tellHolder k c n) = State.inside s := by
  unfold State.tellHolder
  split <;> simp

section
variable (s : State) (home : Lane) (i : LineId)

theorem removeLine_unused (h : s.line i = none) : s.removeLine home i = s := by simp [State.removeLine, h]

theorem inside_removeLine {l : Line} (h : s.line i = some l) : State.inside (s.removeLine home i) =
    (State.inside { s with corrections := s.corrections.filter fun e => !decide (e.line = i) }).setLine i none := by
  let n := Notice.lineRemoved i
  let t := ((s.tellHolder .desk l.copies.desk n).tellHolder .service l.copies.service n).tellHolder .console l.copies.console n
  have ht : State.inside t = State.inside s := by rw [inside_tellHolder, inside_tellHolder, inside_tellHolder]
  have hr : s.removeLine home i = (t.voidCorrections (fun e => e.line = i) home).setLine i none := by
    simp only [State.removeLine, h]
    rfl
  have hc : t.corrections = s.corrections := (congrArg State.corrections ht :)
  have hset (v : State) : State.inside (v.setLine i none) = (State.inside v).setLine i none := rfl
  rw [hr, hset, inside_voidCorrections, hc]
  exact (congrArg (fun v : State =>
    { v with corrections := s.corrections.filter fun e => !decide (e.line = i) }.setLine i none) ht :)

theorem removeLine_line (j : LineId) : (s.removeLine home i).line j = if j = i then none else s.line j := by
  cases h : s.line i with
  | none =>
    rw [removeLine_unused s home i h]
    split
    · rename_i e
      rw [e, h]
    · rfl
  | some l => exact (congrArg (fun v : State => v.line j) (inside_removeLine s home i h) :).trans (line_setLine ..)

theorem removeLine_corrections : (s.removeLine home i).corrections =
    s.corrections.filter fun e => !(decide (e.line = i) && (s.line i).isSome) := by
  cases h : s.line i with
  | none => simp [removeLine_unused s home i h]
  | some l => exact (congrArg State.corrections (inside_removeLine s home i h) :).trans (by simp; rfl)

theorem removeLine_rest :
    State.inside { s.removeLine home i with lines := s.lines, corrections := s.corrections } = State.inside s := by
  cases h : s.line i with
  | none => rw [removeLine_unused s home i h]
  | some l =>
    exact (congrArg (fun v : State => { v with lines := s.lines, corrections := s.corrections }) (inside_removeLine s home i h) :)

/-- The lines of an order removed, one by one. -/
def State.removeLines (order : List LineId) : State := order.foldl (fun t i => t.removeLine home i) s

/-- What the removal of lines leaves: their ids free, and the entries of no line that was in use. -/
theorem removeLines_effect (order : List LineId) :
    (∀ j, (s.removeLines home order).line j = if j ∈ order then none else s.line j)
    ∧ (s.removeLines home order).corrections = s.corrections.filter (fun e => !(order.contains e.line && (s.line e.line).isSome))
    ∧ State.inside { s.removeLines home order with lines := s.lines, corrections := s.corrections } = State.inside s := by
  induction order generalizing s with
  | nil => exact ⟨fun _ => rfl, by simp [State.removeLines], rfl⟩
  | cons i order ih =>
    obtain ⟨hl, hc, hr⟩ := ih (s.removeLine home i)
    refine ⟨fun j => (hl j).trans ?_, hc.trans ?_, ?_⟩
    · rw [removeLine_line]
      by_cases h : j = i <;> simp [h]
    · rw [removeLine_corrections, List.filter_filter]
      refine List.filter_congr fun e _ => ?_
      rw [removeLine_line]
      by_cases h : e.line = i <;> simp [h]
    · exact (congrArg (fun v : State => { v with lines := s.lines, corrections := s.corrections }) hr :).trans
        (removeLine_rest s home i)

end

/-- The groups and lines of a state in which a group was made, with the current positions placed. -/
theorem grouped_placed {s t : State} {g : Slot} {name : Name} {l : Lane} {bowlers : List BowlerSpec}
    (ht : SameInside t (s.grouped g name l bowlers).withPositions) :
    let ids := s.freeLines.take bowlers.length
    t.groups.get g = { Group.empty with state := .idle, name := name, home := l, order := ids }
    ∧ { t.groups.get (otherSlot g) with position := (s.groups.get (otherSlot g)).position } = s.groups.get (otherSlot g)
    ∧ t.line = (s.addLines (ids.zip (bowlers.map fun b => newLine s.handicap g b []))).line
    ∧ SameInside t { s with groups := t.groups, lines := t.lines } := by
  intro ids
  let u := s.grouped g name l bowlers
  have hg (h : Slot) : t.groups.get h = u.placed (u.groups.get h) :=
    (congrArg (fun v : State => v.groups.get h) ht :).trans (withPositions_groups u h)
  refine ⟨?_, ?_, (congrArg State.line ht :), ?_⟩
  · rw [hg, grouped_groups, PerSlot.get_set]
    exact placed_of_not_playing u (by nofun)
  · rw [hg, grouped_groups, PerSlot.get_set_of_ne _ (otherSlot_ne g)]
    exact placed_but_own u _
  · have hrest : u.withPositions = { s with groups := u.withPositions.groups, lines := u.withPositions.lines } :=
      (congrArg (fun v : State => { v with groups := u.withPositions.groups, lines := u.withPositions.lines })
        (grouped_rest s g name l bowlers) :)
    have hgroups : t.groups = u.withPositions.groups := (congrArg State.groups ht :)
    have hlines : t.lines = u.withPositions.lines := (congrArg State.lines ht :)
    rw [hgroups, hlines, ← hrest]
    exact ht

/-- A state after the lines of a group went and its slot was emptied. -/
def State.dismissed (s : State) (g : Slot) : State :=
  ((s.removeLines (s.groups.get g).home (s.groups.get g).order).modGroup g fun _ => Group.empty).dropHighlights
    (s.groups.get g).home

/-- The groups, lines and corrections of a state in which a group was dismissed, with the current positions placed. -/
theorem dismissed_placed {s t : State} {g : Slot} (ht : SameInside t (s.dismissed g).withPositions) :
    let r := s.groups.get g
    t.groups.get g = Group.empty
    ∧ { t.groups.get (otherSlot g) with position := (s.groups.get (otherSlot g)).position } = s.groups.get (otherSlot g)
    ∧ (∀ i, t.line i = if i ∈ r.order then none else s.line i)
    ∧ t.corrections = s.corrections.filter (fun e => !(r.order.contains e.line && (s.line e.line).isSome))
    ∧ SameInside t { s with groups := t.groups, lines := t.lines, corrections := t.corrections } := by
  intro r
  let u := s.dismissed g
  let w := u.withPositions
  obtain ⟨hline, hcorr, hrest⟩ := removeLines_effect s r.home r.order
  have hgroups : u.groups = s.groups.set g Group.empty :=
    (congrArg (fun v : State => v.groups.set g Group.empty) hrest :)
  have hg (h : Slot) : t.groups.get h = u.placed (u.groups.get h) :=
    (congrArg (fun v : State => v.groups.get h) ht :).trans (withPositions_groups u h)
  refine ⟨?_, ?_, fun i => (congrArg (fun v : State => v.line i) ht :).trans (hline i),
    (congrArg State.corrections ht :).trans hcorr, ?_⟩
  · rw [hg, hgroups, PerSlot.get_set]
    exact placed_of_not_playing u (by nofun)
  · rw [hg, hgroups, PerSlot.get_set_of_ne _ (otherSlot_ne g)]
    exact placed_but_own u _
  · have hw : State.inside w = State.inside { s with groups := w.groups, lines := w.lines, corrections := w.corrections } :=
      (congrArg (fun v : State => { v with groups := w.groups, lines := w.lines, corrections := w.corrections }) hrest :)
    have htg : t.groups = w.groups := (congrArg State.groups ht :)
    have htl : t.lines = w.lines := (congrArg State.lines ht :)
    have htc : t.corrections = w.corrections := (congrArg State.corrections ht :)
    rw [sameInside_iff_inside, htg, htl, htc, ← hw, ← sameInside_iff_inside]
    exact ht

theorem handleDismissGroup_accepts {s : State} {g : Slot} {slot : Nat} (hg : slotOf slot = some g)
    (hs : (s.groups.get g).state = .idle) :
    handleDismissGroup slot s = accept ((s.dismissed g).announce s none) := by
  simp [handleDismissGroup, hg, hs, State.dismissed, State.removeLines]

theorem handleDismissGroup_refuses {s : State} {g : Slot} {slot : Nat} (hg : slotOf slot = some g)
    (hs : (s.groups.get g).state ≠ .idle) :
    handleDismissGroup slot s = refuse .state s := by
  simp [handleDismissGroup, hg, hs]

/-- Settles O24: the announcement after either request places the current positions alone, so what it leaves is read off the
group and the lines that were made, or off the lines removed one by one. -/
theorem groupsAreMadeAndDismissed : Obligations.GroupsAreMadeAndDismissed := by
  unfold Obligations.GroupsAreMadeAndDismissed
  constructor
  case left =>
    intro k tag slot name lane bowlers g l s hi hk hg hl h1 h12 hb1 hb8 hb he ho hc hc' free ids hf
    let r : Request := .createGroup slot name lane bowlers
    let v := s.queuedUp k tag r
    have hbowlers : ∀ b ∈ bowlers, bowlerOk b = true := fun b h =>
      let ⟨hn1, hn12, ha, hm⟩ := hb b h
      bowlerOk_of hn1 hn12 ha hm
    have hlanes : v.lanes = (v.grouped g name l bowlers).lanes := (congrArg State.lanes (grouped_rest v g name l bowlers) :).symm
    obtain ⟨t, hexec, hreplied, ht⟩ := State.serves_same' (i := .createGroup k tag slot name lane bowlers)
      (r := r) rfl hi (by rcases hk with rfl | rfl <;> rfl) (by nofun) (by nofun)
      (fun _ => .inl rfl)
      ⟨_, handleCreateGroup_accepts (s := v) hg hl h1 h12 hb1 hb8 hbowlers he ho hc hc' hf, sameInside_announce hlanes none⟩
    obtain ⟨hgroup, hother, hline, hrest⟩ := grouped_placed ht
    have hlen : ids.length = bowlers.length := List.length_take_of_le hf
    refine ⟨t, hexec, hreplied, hgroup, hother, ?_, fun i hn => ?_, hrest.ports s.ports⟩
    · rw [hline]
      exact (addLines_ids v ((List.take_sublist ..).nodup (freeLines_nodup s)) (by rw [List.length_map]; exact hlen)).trans
        List.map_map
    · rw [hline]
      refine addLines_other v ?_
      rw [List.map_fst_zip (by rw [List.length_map]; exact hlen.le)]
      exact hn
  case right =>
    intro tag slot g s hi hg r
    let q : Request := .dismissGroup slot
    let v := s.queuedUp .desk tag q
    refine ⟨fun hs => ?_, fun hs => ?_⟩
    · have hlanes : v.lanes = (v.dismissed g).lanes :=
        (congrArg State.lanes (removeLines_effect v r.home r.order).2.2 :).symm
      obtain ⟨t, hexec, hreplied, ht⟩ := State.serves_same' (i := .dismissGroup .desk tag slot) rfl hi rfl (by nofun) (by nofun)
        (fun _ => .inl rfl)
        ⟨_, handleDismissGroup_accepts (s := v) hg hs, sameInside_announce hlanes none⟩
      obtain ⟨hgroup, hother, hline, hcorr, hrest⟩ := dismissed_placed ht
      exact ⟨t, hexec, hreplied, congrArg Group.state hgroup, congrArg Group.order hgroup, hother, hline, hcorr,
        hrest.ports s.ports⟩
    · obtain ⟨t, hexec, hreplied, ht⟩ := State.serves_same' (i := .dismissGroup .desk tag slot) rfl hi rfl (by nofun) (by nofun)
        (fun _ => .inl rfl)
        ⟨_, handleDismissGroup_refuses (s := v) hg hs, SameInside.refl v⟩
      exact ⟨t, hexec, hreplied, ht.ports s.ports⟩

end Sys2Proof.Machine
end

section
/-! Groups and lanes (chapter 5): bowlers that join a group, and its play mode. -/
namespace Sys2Proof.Machine

/-! ### add-bowler (R91) -/

/-- The computation of a line's frames keeps which frames it holds and computes the split flags of their balls (R109). -/
theorem scoreFrames_keeps (before : Option Nat) (frames : List FrameRecord) :
    (scoreFrames before frames).map (fun f => (f.number, f.missed, f.balls))
      = frames.map (fun f => (f.number, f.missed, splitBalls f.number f.balls)) := by
  induction frames generalizing before with
  | nil => rfl
  | cons f rest ih =>
    unfold scoreFrames
    dsimp only
    split <;> exact congrArg _ (ih _)

theorem scoreFrames_missed (before : Option Nat) (k : Nat) :
    (scoreFrames before (missedFrames k)).map (fun f => (f.number, f.missed, f.balls))
      = (List.range (k - 1)).map (fun n => (n + 1, true, [])) := by
  rw [scoreFrames_keeps, missedFrames, List.map_map]
  rfl

section
variable (s : State) (g : Slot) (b : BowlerSpec) (i : LineId)

/-- The frames of a line that joins a group: those before the frame in progress of a PLAYING group, missed. -/
def Group.framesToJoin (r : Group) : List FrameRecord := if r.state = .playing then missedFrames r.frame else []

/-- A state in which a bowler joined a group, before the announcement. -/
def State.joined : State :=
  ((s.setLine i (some (newLine s.handicap g b (s.groups.get g).framesToJoin))).modGroup g fun r =>
    { r with order := r.order ++ [i] }).refreshTotals g

theorem joined_line (j : LineId) : (s.joined g b i).line j
    = if j = i then some (newLine s.handicap g b (s.groups.get g).framesToJoin) else s.line j := line_setLine ..

theorem joined_lanes : (s.joined g b i).lanes = s.lanes := rfl

/-- The group that a bowler joined: its order with the new line, and its totals computed again. -/
theorem joined_groups :
    let r := s.groups.get g
    let lines := (r.order ++ [i]).filterMap (s.joined g b i).line
    (s.joined g b i).groups = s.groups.set g
      { r with order := r.order ++ [i], runningTotal := groupRunningOf lines, groupTotal := groupTotalOf lines } := by
  cases g <;> rfl

end

/-- The group, the line and the rest of a state in which a bowler joined, with the current positions placed. -/
theorem joined_placed {s u : State} {g : Slot} {b : BowlerSpec} {i : LineId} (hu : SameInside u (s.joined g b i).withPositions) :
    let r := s.groups.get g
    (u.groups.get g).order = r.order ++ [i]
    ∧ { u.groups.get g with
        order := r.order, position := r.position, runningTotal := r.runningTotal, groupTotal := r.groupTotal } = r
    ∧ (∀ j, u.line j = if j = i then some (newLine s.handicap g b r.framesToJoin) else s.line j)
    ∧ { u.groups.get (otherSlot g) with position := (s.groups.get (otherSlot g)).position } = s.groups.get (otherSlot g)
    ∧ SameInside u { s with groups := u.groups, lines := u.lines } := by
  intro r
  let t := s.joined g b i
  have hgroup (h : Slot) : { u.groups.get h with position := (s.groups.get h).position }
      = { t.groups.get h with position := (s.groups.get h).position } := by
    have hp : u.groups.get h = t.placed (t.groups.get h) :=
      (congrArg (fun v : State => v.groups.get h) hu :).trans (withPositions_groups t h)
    rw [hp, placed_but_position]
  have hjoined := hgroup g
  rw [joined_groups, PerSlot.get_set] at hjoined
  refine ⟨(congrArg Group.order hjoined :), (congrArg (fun x : Group =>
      { x with order := r.order, runningTotal := r.runningTotal, groupTotal := r.groupTotal }) hjoined :),
    fun j => (congrArg (fun v : State => v.line j) hu :).trans (joined_line s g b i j), (hgroup (otherSlot g)).trans ?_, ?_⟩
  · rw [joined_groups, PerSlot.get_set_of_ne _ (otherSlot_ne g)]
  · have htg : u.groups = t.withPositions.groups := (congrArg State.groups hu :)
    have htl : u.lines = t.withPositions.lines := (congrArg State.lines hu :)
    rw [htg, htl]
    exact hu

theorem newLine_mode {p : HandicapParams} {g : Slot} {b : BowlerSpec} {frames : List FrameRecord} {m : HandicapMode}
    (h : handicapOf b.mode b.fixed = some m) : (newLine p g b frames).mode = m :=
  congrArg (fun o : Option HandicapMode => o.getD .noHandicap) h

/-- The line of a bowler that joins a group: its frames are those before the frame in progress, missed and empty. -/
theorem newLine_joined (p : HandicapParams) (g : Slot) (b : BowlerSpec) (r : Group) :
    (newLine p g b r.framesToJoin).frames.map (fun f => (f.number, f.missed, f.balls))
      = if r.state = .playing then (List.range (r.frame - 1)).map (fun n => (n + 1, true, [])) else [] := by
  show (scoreFrames (some 0) r.framesToJoin).map _ = _
  unfold Group.framesToJoin
  split
  · exact scoreFrames_missed ..
  · rfl

theorem handleAddBowler_accepts {s : State} {g : Slot} {slot : Nat} {b : BowlerSpec} {i : LineId} (hg : slotOf slot = some g)
    (hb : bowlerOk b = true) (hs : (s.groups.get g).state = .idle ∨ (s.groups.get g).state = .playing)
    (ho : (s.groups.get g).order.length < 8) (hi : s.freeLines.head? = some i) :
    handleAddBowler slot b s = ((s.joined g b i).announce s none, .ok (lineField i)) := by
  have hstate : ((s.groups.get g).state = .idle || (s.groups.get g).state = .playing) = true := by simpa using hs
  simp only [handleAddBowler, hg, hb, hstate, hi, Nat.not_le.mpr ho]
  rfl

/-! ### set-play-mode (R100, log 34) -/

section
variable {s : State} {g : Slot} {slot mode : Nat} {m : PlayMode}

theorem handleSetPlayMode_changes (hg : slotOf slot = some g) (hm : playModeOf mode = some m)
    (hs : (s.groups.get g).state = .idle)
    (hn : (s.groups.get g).playMode ≠ m) (ha : m = .cross → s.BothLeague) :
    handleSetPlayMode slot mode s = accept ((s.modGroup g fun r => { r with playMode := m }).announce s none) := by
  have hcross : (m = .cross && !s.crossAdmitted) = false := by
    rw [← crossAdmitted_iff] at ha
    simpa using ha
  simp [handleSetPlayMode, hg, hm, hs, hn, hcross]

theorem handleSetPlayMode_in_force (hg : slotOf slot = some g) (hm : playModeOf mode = some m)
    (hs : (s.groups.get g).state = .idle)
    (hn : (s.groups.get g).playMode = m) : handleSetPlayMode slot mode s = accept s := by
  simp [handleSetPlayMode, hg, hm, hs, hn]

theorem handleSetPlayMode_refuses (hg : slotOf slot = some g) (hm : playModeOf mode = some m)
    (h : (s.groups.get g).state ≠ .idle ∨ ((s.groups.get g).playMode ≠ m ∧ m = .cross ∧ ¬ s.BothLeague)) :
    handleSetPlayMode slot mode s = refuse .state s := by
  rcases h with hs | ⟨hn, rfl, hc⟩
  · simp [handleSetPlayMode, hg, hm, hs]
  · rw [← crossAdmitted_iff] at hc
    simp [handleSetPlayMode, hg, hm, hn, hc]

/-- The groups and the rest of a state in which an IDLE group's mode was changed, with the current positions placed. -/
theorem playMode_placed {t : State} (hs : (s.groups.get g).state = .idle)
    (ht : SameInside t (s.modGroup g fun r => { r with playMode := m }).withPositions) :
    t.groups.get g = { s.groups.get g with playMode := m }
    ∧ { t.groups.get (otherSlot g) with position := (s.groups.get (otherSlot g)).position } = s.groups.get (otherSlot g)
    ∧ SameInside t { s with groups := t.groups } := by
  let w := s.modGroup g fun r => { r with playMode := m }
  have hgroups (h : Slot) : t.groups.get h = w.placed (w.groups.get h) :=
    (congrArg (fun v : State => v.groups.get h) ht :).trans (withPositions_groups w h)
  have hidle : (s.groups.get g).state ≠ .playing := by rw [hs]; nofun
  refine ⟨?_, ?_, ht.withGroups rfl⟩
  · rw [hgroups, State.modGroup_groups, PerSlot.get_set]
    exact placed_of_not_playing w hidle
  · rw [hgroups, State.modGroup_groups, PerSlot.get_set_of_ne _ (otherSlot_ne g)]
    exact placed_but_own w _

end

/-- Settles O25: a bowler that joins changes one line and the order and totals of one group, and a change of mode that group
alone; the announcement places the current positions, which an IDLE group keeps. -/
theorem groupsChange : Obligations.GroupsChange := by
  unfold Obligations.GroupsChange
  constructor
  case left =>
    intro k tag slot b g i m s hi hk hg hn1 hn12 ha hm hs ho hfree r
    let q : Request := .addBowler slot b
    let v := s.queuedUp k tag q
    have hhead : v.freeLines.head? = some i := by
      rw [State.freeLines, List.head?_filter]
      exact hfree
    obtain ⟨u, hexec, hu⟩ := State.serves_with' (i := .addBowler k tag slot b) (r := q)
      (P := (SameInside · (v.joined g b i).withPositions))
      rfl hi (by rcases hk with rfl | rfl <;> rfl) (by nofun) (by nofun)
      ⟨_, handleAddBowler_accepts (s := v) hg (bowlerOk_of hn1 hn12 ha ⟨m, hm⟩) hs ho hhead,
        sameInside_announce (joined_lanes v g b i).symm none⟩
    obtain ⟨horder, hgroup, hline, hother, hrest⟩ := joined_placed hu
    refine ⟨u, hexec, horder, hgroup, ⟨_, (hline i).trans (if_pos rfl), rfl, rfl, rfl, newLine_mode hm, rfl, rfl, rfl, rfl,
      newLine_joined ..⟩, fun j hj => (hline j).trans (if_neg hj), hother, hrest.ports s.ports⟩
  case right =>
    intro k tag slot mode g m s hi hk hg hm r open2
    let q : Request := .setPlayMode slot mode
    let v := s.queuedUp k tag q
    have hadmits : admits k q.kind = true := by rcases hk with rfl | rfl <;> rfl
    have hserves {a : Answer} {w : State} (h : ∃ u, handle k q v = (u, a) ∧ SameInside u w) :
        ∃ t, exec (.setPlayMode k tag slot mode) s = .next t ∧ Replied t k tag q a ∧ SameInside t w :=
      State.serves_same' rfl hi hadmits (by nofun) (by nofun) (fun _ => .inl rfl) h
    refine ⟨fun hs h => ?_, fun h => ?_⟩
    · by_cases hmode : r.playMode = m
      · obtain ⟨t, hexec, hreplied, ht⟩ := hserves ⟨v, handleSetPlayMode_in_force hg hm hs hmode, SameInside.refl v⟩
        have hgroups : t.groups = s.groups := (congrArg State.groups ht :)
        refine ⟨t, hexec, hreplied, ?_, ?_, (ht.withGroups (s := v) rfl).ports s.ports⟩
        · rw [hgroups, ← hmode]
        · rw [hgroups]
      · have hleague : m = .cross → v.BothLeague := by
          rintro rfl
          rcases h with h | h | h
          · exact absurd h hmode
          · nomatch h
          · exact h
        obtain ⟨t, hexec, hreplied, ht⟩ := hserves
          ⟨_, handleSetPlayMode_changes hg hm hs hmode hleague, sameInside_announce (State.modGroup_lanes v g _).symm none⟩
        obtain ⟨hgroup, hother, hrest⟩ := playMode_placed (s := v) hs ht
        exact ⟨t, hexec, hreplied, hgroup, hother, hrest.ports s.ports⟩
    · obtain ⟨t, hexec, hreplied, ht⟩ := hserves ⟨v, handleSetPlayMode_refuses hg hm h, SameInside.refl v⟩
      exact ⟨t, hexec, hreplied, ht.ports s.ports⟩

end Sys2Proof.Machine
end

section
/-! Scores (chapter 6): the handicap of a line, and new handicap parameters. -/
namespace Sys2Proof.Machine

/-! ### The handicap by mode and average (R117) -/

section
variable (p : HandicapParams) {a : Nat}

theorem handicapFigure_not_below (h : p.basis ≤ a) : handicapFigure p .computed (some a) = 0 := if_pos h

theorem handicapFigure_below (h : a < p.basis) :
    handicapFigure p .computed (some a) = min ((p.basis - a) * p.percent / 100) p.cap := if_neg (Nat.not_le.mpr h)

/-- Every figure has its bound: the cap, the handicap without an average, or the fixed value. -/
theorem handicapFigure_le (hc : p.cap ≤ 255) (hn : p.noAverage ≤ 255) {m : HandicapMode} (hm : ∀ v, m = .fixed v → v ≤ 255)
    (a : Option Nat) : handicapFigure p m a ≤ 255 := by
  match m, a with
  | .computed, some a =>
    rcases Nat.lt_or_ge a p.basis with h | h
    · rw [handicapFigure_below p h]
      exact (min_le_right ..).trans hc
    · rw [handicapFigure_not_below p h]
      exact Nat.zero_le _
  | .computed, none => exact hn
  | .fixed v, _ => exact hm v rfl
  | .noHandicap, _ => exact Nat.zero_le _

end

/-- Settles O16: the figure by mode and average, its bound, and the computation of a line that forms it. -/
theorem handicapByMode : Obligations.HandicapByMode := fun p =>
  ⟨fun _ => handicapFigure_not_below p, fun _ => handicapFigure_below p, rfl, fun _ _ => rfl, fun _ => rfl,
    fun hc hn _ a hm => handicapFigure_le p hc hn hm a, fun _ => rfl⟩

/-! ### The lines that changed in an event (R125, R127) -/

section
variable (s : State) (i j : LineId)

theorem mem_lineIds : ∀ i : LineId, i ∈ lineIds := by decide

theorem changeLine_dirty (f : Line → Line) : (s.changeLine i f).dirty.getLsbD j.val
    = (s.dirty.getLsbD j.val || ((s.line i).isSome && decide (j = i))) := by
  unfold State.changeLine
  cases h : s.line i with
  | none => simp
  | some l => exact (BitVec.getLsbD_or.trans (congrArg _ (getLsbD_lineBit i j)))

/-- A line as the end of the event in which it changed leaves it, when no link is exempt: its version advanced, and its COPY
holders dropped (R125, R127). -/
def Line.advanced (l : Line) : Line :=
  { l with
    version := wrapInc l.version
    copies := ⟨copyAfter false l.copies.desk, copyAfter false l.copies.service, copyAfter false l.copies.console⟩ }

/-- The advance of a line is that line's alone; its notices and marks reach no line. -/
theorem flushLine_line : (s.flushLine none i).line j
    = if j = i ∧ s.dirty.getLsbD i.val = true then (s.line i).map Line.advanced else s.line j := by
  have told (v : State) (k : Link) (c : CopyState) (n : Notice) : (v.tellHolder k c n).line j = v.line j := by
    unfold State.tellHolder
    split <;> rfl
  unfold State.flushLine
  by_cases hd : s.dirty.getLsbD i.val = true
  · rw [if_pos hd]
    cases hl : s.line i with
    | some l =>
      refine ((told ..).trans ((told ..).trans (told ..))).trans ((line_setLine ..).trans ?_)
      simp only [hd, and_true]
      rfl
    | none =>
      dsimp only
      split
      · rename_i h
        rw [h.1, hl]
        rfl
      · rfl
  · rw [if_neg hd, if_neg (fun h => hd h.2)]

theorem flushLine_dirty (x : Exempt) : (s.flushLine x i).dirty = s.dirty := by
  have told {p : Prop} [Decidable p] (v : State) (k : Link) (c : CopyState) (n : Notice) :
      (if p then v else v.tellHolder k c n).dirty = v.dirty := by
    unfold State.tellHolder
    split
    · rfl
    · split <;> rfl
  unfold State.flushLine
  split
  · split
    · exact (told ..).trans ((told ..).trans (told ..))
    · rfl
  · rfl

/-- Every line whose change waits advances once. -/
theorem flushLines_line : (s.flushLines none).line i
    = if s.dirty.getLsbD i.val = true then (s.line i).map Line.advanced else s.line i := by
  have fold (is : List LineId) (hn : is.Nodup) : ∀ t : State, (is.foldl (State.flushLine none) t).line i
      = if i ∈ is ∧ t.dirty.getLsbD i.val = true then (t.line i).map Line.advanced else t.line i := by
    induction is with
    | nil => exact fun t => (if_neg (fun h => nomatch h.1)).symm
    | cons j is ih =>
      intro t
      obtain ⟨hj, hn⟩ := List.nodup_cons.mp hn
      rw [List.foldl_cons, ih hn, flushLine_dirty, flushLine_line]
      by_cases hij : i = j
      · subst hij
        simp [hj]
      · simp [hij]
  exact (fold lineIds (by decide) s).trans (by simp only [mem_lineIds, true_and])

end

/-! ### set-handicap (R118) -/

section
variable (s : State)

/-- Every line in use computed again. -/
def State.recomputed : State := s.changeLines id (fun _ l => l) lineIds

theorem recomputed_line (i : LineId) : s.recomputed.line i = (s.line i).map (computeLine s.handicap) :=
  changeLines_entry (s := s) id (fun _ l => l) (xs := lineIds) (by decide) (mem_lineIds i)

theorem recomputed_dirty {i : LineId} (h : (s.line i).isSome = true) : s.recomputed.dirty.getLsbD i.val = true := by
  have kept (is : List LineId) : ∀ t : State, t.dirty.getLsbD i.val = true →
      (t.changeLines id (fun _ l => l) is).dirty.getLsbD i.val = true := by
    induction is with
    | nil => exact fun _ h => h
    | cons j is ih => exact fun t h => ih _ (by simp [changeLine_dirty, h])
  have fold (is : List LineId) : ∀ t : State, (t.line i).isSome = true → i ∈ is →
      (t.changeLines id (fun _ l => l) is).dirty.getLsbD i.val = true := by
    induction is with
    | nil => exact fun _ _ h => nomatch h
    | cons j is ih =>
      intro t ht hi
      by_cases hij : i = j
      · subst hij
        exact kept is _ (by simp [changeLine_dirty, ht])
      · exact ih _ (by simpa [changeLine_line, hij] using ht) ((List.mem_cons.mp hi).resolve_left hij)
  exact fold lineIds s h (mem_lineIds i)

/-- What the end of the event makes of the lines that were computed again. -/
theorem recomputed_finishes (i : LineId) :
    s.recomputed.finishLines.line i = (s.line i).map fun l => (computeLine s.handicap l).advanced := by
  refine (flushLines_line s.recomputed i).trans ?_
  rw [recomputed_line]
  cases hl : s.line i with
  | none => simp
  | some l =>
    rw [if_pos (recomputed_dirty s (by rw [hl]; rfl))]
    rfl

theorem recomputed_keeps : s.recomputed.unplayed = s.unplayed ∧ s.recomputed.lanes = s.lanes
    ∧ ∀ g, (s.recomputed.groups.get g).bare = (s.groups.get g).bare := changeLines_keeps ..

/-- The end of an event leaves the groups, and of the rest all but what lines, notices and the monitor take. -/
theorem finishLines_keeps : s.finishLines.unplayed.inside = s.unplayed.inside ∧ s.finishLines.lanes = s.lanes
    ∧ s.finishLines.groups = s.groups := by
  obtain ⟨w, hw⟩ := inside_finishLines s
  exact ⟨(congrArg State.unplayed hw :), (congrArg State.lanes hw :), flushLines_groups s none⟩

theorem rest_of_unplayed {s t : State} (h : t.unplayed.inside = s.unplayed.inside) (hl : t.lanes = s.lanes) :
    { t with lines := s.lines, groups := s.groups, ports := s.ports, feeds := s.feeds, dirty := s.dirty } = s := by
  have e := congrArg (fun u : State => { u with
    lines := s.lines, groups := s.groups, ports := s.ports, feeds := s.feeds, dirty := s.dirty, lanes := s.lanes }) h
  conv at e => lhs; rw [← hl]
  exact e

/-- What becomes of the groups and of the rest in an event that computes every line again (R118). -/
theorem recomputed_rest (hd : s.dirty = 0#16) :
    (∀ g, { s.recomputed.finishLines.groups.get g with
      runningTotal := (s.groups.get g).runningTotal, groupTotal := (s.groups.get g).groupTotal } = s.groups.get g)
    ∧ { s.recomputed.finishLines with lines := s.lines, groups := s.groups, ports := s.ports, feeds := s.feeds } = s := by
  obtain ⟨hunplayed, hlanes, hbare⟩ := recomputed_keeps s
  have hdirty : s.recomputed.finishLines.dirty = s.dirty := hd.symm
  generalize s.recomputed = t at *
  obtain ⟨hunplayed', hlanes', hgroups⟩ := finishLines_keeps t
  generalize t.finishLines = u at *
  have hrest := rest_of_unplayed (hunplayed'.trans (congrArg State.inside hunplayed)) (hlanes'.trans hlanes)
  refine ⟨fun g => ?_, by rw [← hdirty] at hrest; exact hrest⟩
  rw [hgroups]
  exact congrArg (fun r : Group => { r with
    runningTotal := (s.groups.get g).runningTotal, groupTotal := (s.groups.get g).groupTotal }) (hbare g)

theorem handleSetHandicap_changes {basis percent cap noAverage : Nat} (hb : basis ≤ 300) (hp : percent ≤ 100) (hc : cap ≤ 255)
    (hn : noAverage ≤ 255) (hne : s.handicap ≠ ⟨basis, percent, cap, noAverage⟩) :
    handleSetHandicap basis percent cap noAverage s
      = accept (State.recomputed { s with handicap := ⟨basis, percent, cap, noAverage⟩ }) := by
  simp only [handleSetHandicap, hb, hp, hc, hn, decide_true, Bool.and_self, Bool.not_true, Bool.false_eq_true, if_false,
    if_neg (Ne.symm hne)]
  rfl

end

/-- The reply to a set-handicap request leaves of the end of its event all but the link ports. -/
theorem answered_setHandicap (u : State) (tag : Tag) (basis percent cap noAverage : Nat) (a : Answer) : ∃ ports,
    u.answered .desk tag (.setHandicap basis percent cap noAverage) a = { u.finishLines with ports := ports } := ⟨_, rfl⟩

/-- Settles O17: the accepted request computes every line in use again, and the end of its event advances each once. -/
theorem setHandicapRecomputesLines : Obligations.SetHandicapRecomputesLines := by
  unfold Obligations.SetHandicapRecomputesLines
  intro tag basis percent cap noAverage s hi hb hp hc hn hd hne
  let v := s.queuedUp .desk tag (.setHandicap basis percent cap noAverage)
  let w : State := { v with handicap := ⟨basis, percent, cap, noAverage⟩ }
  obtain ⟨hexec, hreplied⟩ := State.served (i := .setHandicap .desk tag basis percent cap noAverage) rfl hi rfl
    (by nofun) (by nofun) (handleSetHandicap_changes (s := v) hb hp hc hn hne)
  obtain ⟨ports, hanswered⟩ := answered_setHandicap w.recomputed tag basis percent cap noAverage (.ok [])
  obtain ⟨hgroup, hrest⟩ := recomputed_rest w hd
  have hline := recomputed_finishes w
  refine ⟨_, hexec, hreplied, ?_⟩
  rw [hanswered]
  generalize w.recomputed.finishLines = u at *
  have hhandicap : u.handicap = w.handicap := (congrArg State.handicap hrest :)
  refine ⟨hhandicap, fun i => (hline i).trans ?_, hgroup, ?_⟩
  · exact congrArg (fun p => (s.line i).map fun l => (computeLine p l).advanced) hhandicap.symm
  · exact congrArg (fun u : State => { u with handicap := s.handicap, ports := s.ports, feeds := s.feeds }) hrest

end Sys2Proof.Machine
end

section
/-! Scores (chapter 6): the score of a frame, from its balls and the balls that follow it. -/
namespace Sys2Proof.Machine

theorem isStrike_eq_false_iff (b : BallRecord) : isStrike b = false ↔ ¬ (b.count = 10 ∧ b.foul = false) := by
  rw [← isStrike_iff, Bool.not_eq_true]

theorem figureState_eq_final_iff (balls : List BallRecord) :
    figureState balls = .final ↔ ∀ b ∈ balls, b.state = .final := by
  simp [figureState, isFinal]

section
variable {f : FrameRecord} {after : List BallRecord}

theorem frameScore_missed (h : f.missed = true) (after : List BallRecord) : frameScore f after = some (0, .final) := if_pos h

/-! ### Frames 1 to 9 (R113) -/

section
variable (hm : f.missed = false) (hn : f.number < 10)
include hm hn

theorem frameScore_strike {b1 n1 n2 : BallRecord} {rest more : List BallRecord} (hb : f.balls = b1 :: rest)
    (hs : isStrike b1 = true) (ha : rest ++ after = n1 :: n2 :: more) :
    frameScore f after = some (10 + n1.count + n2.count, figureState [b1, n1, n2]) := by
  simp [frameScore, hm, hn, hb, hs, ha]

theorem frameScore_strike_waits {b1 : BallRecord} {rest : List BallRecord} (hb : f.balls = b1 :: rest)
    (hs : isStrike b1 = true) (ha : (rest ++ after).length < 2) : frameScore f after = none := by
  match h : rest ++ after with
  | [] | [_] => simp [frameScore, hm, hn, hb, hs, h]
  | _ :: _ :: more => simp [h] at ha

theorem frameScore_one_ball {b1 : BallRecord} (hb : f.balls = [b1]) (hs : isStrike b1 = false) :
    frameScore f after = none := by
  simp [frameScore, hm, hn, hb, hs]

variable {b1 b2 : BallRecord} {later : List BallRecord} (hb : f.balls = b1 :: b2 :: later) (hs : isStrike b1 = false)
include hb hs

theorem frameScore_open (hc : b1.count + b2.count ≠ 10) :
    frameScore f after = some (b1.count + b2.count, figureState [b1, b2]) := by
  simp [frameScore, hm, hn, hb, hs, hc]

theorem frameScore_spare {n : BallRecord} {more : List BallRecord} (hc : b1.count + b2.count = 10) (ha : after = n :: more) :
    frameScore f after = some (10 + n.count, figureState [b1, b2, n]) := by
  simp [frameScore, hm, hn, hb, hs, hc, ha]

theorem frameScore_spare_waits (hc : b1.count + b2.count = 10) (ha : after = []) : frameScore f after = none := by
  simp [frameScore, hm, hn, hb, hs, hc, ha]

end

/-! ### Frame 10 (R114) -/

section
variable (hm : f.missed = false) (hn : f.number = 10)
include hm hn

theorem frameScore_tenth_waits (hb : ballsComplete 10 f.balls = false) : frameScore f after = none := by
  match h : f.balls with
  | [] | [_] => simp [frameScore, hm, hn, h]
  | b1 :: b2 :: rest =>
    rw [h] at hb
    obtain ⟨he, rfl⟩ : earnsThird b1 b2 = true ∧ rest = [] := by simpa [ballsComplete] using hb
    simp [frameScore, hm, hn, h, he]

variable {b1 b2 : BallRecord} {later : List BallRecord} (hb : f.balls = b1 :: b2 :: later)
include hb

theorem frameScore_tenth_two (he : earnsThird b1 b2 = false) :
    frameScore f after = some (b1.count + b2.count, figureState [b1, b2]) := by
  simp [frameScore, hm, hn, hb, he]

theorem frameScore_tenth_three {b3 : BallRecord} {more : List BallRecord} (he : earnsThird b1 b2 = true)
    (hl : later = b3 :: more) :
    frameScore f after = some (b1.count + b2.count + b3.count, figureState [b1, b2, b3]) := by
  simp [frameScore, hm, hn, hb, he, hl]

end

/-- No ball after frame 10 counts for it. -/
theorem frameScore_tenth_after (hn : f.number = 10) (after : List BallRecord) : frameScore f after = frameScore f [] := by
  simp [frameScore, hn]

/-- The score of frame 10 that has just the balls it is due is their sum. -/
theorem frameScore_tenth_sum (hm : f.missed = false) (hn : f.number = 10) (hc : ballsComplete 10 f.balls = true)
    (hl : f.balls.length ≤ 3) (h3 : f.balls.length = 3 → ∀ b1 b2 b3, f.balls = [b1, b2, b3] → earnsThird b1 b2 = true) :
    (frameScore f after).map (·.1) = some (f.balls.map (·.count)).sum := by
  match h : f.balls with
  | [] | [_] => simp [h, ballsComplete] at hc
  | [b1, b2] =>
    have he : earnsThird b1 b2 = false := by simpa [h, ballsComplete] using hc
    simp [frameScore_tenth_two hm hn h he]
  | [b1, b2, b3] =>
    have he : earnsThird b1 b2 = true := h3 (by rw [h]; rfl) _ _ _ h
    simp [frameScore_tenth_three hm hn h he rfl, Nat.add_assoc]
  | _ :: _ :: _ :: _ :: _ =>
    rw [h] at hl
    simp only [List.length_cons] at hl
    omega

theorem rangesOk_tenth {balls : List BallRecord} (h : rangesOk 10 balls = true) : balls.length ≤ 3
    ∧ (∀ b ∈ balls, b.count ≤ 10) ∧ ∀ b1 b2 b3, balls = [b1, b2, b3] → earnsThird b1 b2 = true := by
  match balls with
  | [] => exact ⟨by simp, by simp, by simp⟩
  | [b1] => exact ⟨by simp, by simpa [rangesOk] using h, by simp⟩
  | [b1, b2] =>
    simp only [rangesOk, Bool.and_eq_true, decide_eq_true_eq, lt_self_iff_false, if_false] at h
    obtain ⟨h1, h2, -⟩ := h
    exact ⟨by simp, by simp [h1, h2], by simp⟩
  | [b1, b2, b3] =>
    simp only [rangesOk, Bool.and_eq_true, decide_eq_true_eq, true_and] at h
    obtain ⟨⟨⟨⟨h1, h2⟩, he⟩, h3⟩, -⟩ := h
    refine ⟨by simp, by simp [h1, h2, h3], ?_⟩
    rintro _ _ _ ⟨⟩
    exact he
  | _ :: _ :: _ :: _ :: _ => simp [rangesOk] at h

/-- Balls within their ranges give frame 10 at most 30: it is the sum of at most three counts of at most 10. -/
theorem frameScore_tenth_le (hm : f.missed = false) (hn : f.number = 10) (hr : rangesOk 10 f.balls = true) {v : Nat}
    {st : FigureState} (h : frameScore f after = some (v, st)) : v ≤ 30 := by
  obtain ⟨hl, hcounts, h3⟩ := rangesOk_tenth hr
  cases hc : ballsComplete 10 f.balls with
  | false =>
    rw [frameScore_tenth_waits hm hn hc] at h
    cases h
  | true =>
    have hsum := frameScore_tenth_sum (after := after) hm hn hc hl fun _ => h3
    have hle := List.sum_le_card_nsmul (f.balls.map (·.count)) 10 (by simpa using hcounts)
    rw [h] at hsum
    simp only [Option.map_some, Option.some.injEq] at hsum
    simp only [List.length_map, smul_eq_mul] at hle
    omega

/-! ### The score state (R115) -/

/-- The state of a figure is FINAL just when the balls it needs are. -/
def NeedsFinal (st : FigureState) (balls : List BallRecord) : Prop := st = .final ↔ ∀ b ∈ balls, b.state = .final

theorem needsFinal_of_score {v : Nat} {st : FigureState} {w : Nat} {balls : List BallRecord}
    (h : frameScore f after = some (v, st)) (e : frameScore f after = some (w, figureState balls)) : NeedsFinal st balls := by
  obtain ⟨-, rfl⟩ := Prod.mk.injEq .. ▸ Option.some.inj (h.symm.trans e)
  exact figureState_eq_final_iff balls

section
variable {v : Nat} {st : FigureState} (h : frameScore f after = some (v, st)) (hm : f.missed = false)
include h hm

theorem strike_needs (hn : f.number < 10) {b1 : BallRecord} {rest : List BallRecord} (hb : f.balls = b1 :: rest)
    (hs : isStrike b1 = true) : NeedsFinal st ((f.balls ++ after).take 3) := by
  match ha : rest ++ after with
  | [] | [_] =>
    rw [frameScore_strike_waits hm hn hb hs (by simp [ha])] at h
    cases h
  | n1 :: n2 :: more =>
    rw [hb, List.cons_append, ha]
    exact needsFinal_of_score h (frameScore_strike hm hn hb hs ha)

variable {b1 b2 : BallRecord} {later : List BallRecord} (hb : f.balls = b1 :: b2 :: later)
include hb

theorem spare_needs (hn : f.number < 10) (hs : isStrike b1 = false) (hc : b1.count + b2.count = 10) :
    NeedsFinal st (b1 :: b2 :: after.take 1) := by
  match ha : after with
  | [] =>
    rw [frameScore_spare_waits hm hn hb hs hc rfl] at h
    cases h
  | n :: more => exact needsFinal_of_score h (frameScore_spare hm hn hb hs hc rfl)

theorem open_needs (hn : f.number < 10) (hs : isStrike b1 = false) (hc : b1.count + b2.count ≠ 10) : NeedsFinal st [b1, b2] :=
  needsFinal_of_score h (frameScore_open hm hn hb hs hc)

theorem tenth_three_needs (hn : f.number = 10) (he : earnsThird b1 b2 = true) : NeedsFinal st (b1 :: b2 :: later.take 1) := by
  match hl : later with
  | [] =>
    rw [frameScore_tenth_waits hm hn (by simp [hb, ballsComplete, he])] at h
    cases h
  | b3 :: more => exact needsFinal_of_score h (frameScore_tenth_three hm hn hb he rfl)

theorem tenth_two_needs (hn : f.number = 10) (he : earnsThird b1 b2 = false) : NeedsFinal st [b1, b2] :=
  needsFinal_of_score h (frameScore_tenth_two hm hn hb he)

end

end

end Sys2Proof.Machine
end

section
/-! Scores (chapter 6): split flags and marks, the computed frames of a line, and totals. -/
namespace Sys2Proof.Machine

/-! ### Split flags (R120) -/

theorem agreedStanding_eq_some_iff {b : BallRecord} (hf : b.foul = false) {standing : Pins} :
    agreedStanding b = some standing ↔
      ∃ up, b.pinsUp = some up ∧ b.standing = some standing ∧ b.count + pinCount standing = pinCount up := by
  unfold agreedStanding
  cases b.standing with
  | none => simp
  | some s =>
    cases b.pinsUp with
    | none => simp [hf]
    | some up =>
      simp only [hf, Bool.false_and, Bool.or_false, decide_eq_true_eq, Option.some.injEq, Option.ite_none_right_eq_some,
        exists_eq_left']
      constructor
      · rintro ⟨h, rfl⟩
        exact ⟨rfl, h⟩
      · rintro ⟨rfl, h⟩
        exact ⟨h, rfl⟩

theorem splitSet_iff (standing : Pins) :
    splitSet standing = true ↔ hasPin standing 0 = false ∧ 2 ≤ pinCount standing ∧ connected standing = false := by
  simp [splitSet, and_assoc]

theorem derivedSplit_iff (number pos : Nat) (b : BallRecord) : derivedSplit number pos b = true ↔
    (if number < 10 then pos = 1 else b.pinsUp = some allPins) ∧ b.foul = false
      ∧ ∃ up standing, b.pinsUp = some up ∧ b.standing = some standing ∧ b.count + pinCount standing = pinCount up
        ∧ hasPin standing 0 = false ∧ 2 ≤ pinCount standing ∧ connected standing = false := by
  have agreed : derivedSplit number pos b = true ↔ (if number < 10 then pos = 1 else b.pinsUp = some allPins)
      ∧ b.foul = false ∧ ∃ s, agreedStanding b = some s ∧ splitSet s = true := by
    unfold derivedSplit
    cases agreedStanding b with
    | none => simp
    | some s => split <;> simp [and_assoc]
  rw [agreed]
  refine and_congr_right fun _ => and_congr_right fun hf => ?_
  simp only [agreedStanding_eq_some_iff hf, splitSet_iff]
  constructor
  · rintro ⟨s, ⟨up, hu, hs, hc⟩, h⟩
    exact ⟨up, s, hu, hs, hc, h⟩
  · rintro ⟨up, s, hu, hs, hc, h⟩
    exact ⟨s, ⟨up, hu, hs, hc⟩, h⟩

/-! ### Ball marks (R121) -/

/-- The mark of a ball that is neither a foul, nor a strike, nor a spare. -/
def plainSymbol (b : BallRecord) : MarkSymbol := if b.count = 0 then .miss else .pins b.count

section
variable {balls : List BallRecord} {b b1 b2 : BallRecord} (number : Nat)

theorem markSymbol_foul (hf : b.foul = true) (pos : Nat) : markSymbol number pos balls b = .foul := by
  simp [markSymbol, hf]

variable (hf : b.foul = false)
include hf

theorem markSymbol_first : markSymbol number 1 balls b = if b.count = 10 then .strike else plainSymbol b := by
  simp [markSymbol, hf, plainSymbol]

theorem markSymbol_second (h1 : balls[0]? = some b1) : markSymbol number 2 balls b =
    if number = 10 ∧ isStrike b1 = true ∧ b.count = 10 then .strike
    else if (number < 10 ∨ isStrike b1 = false) ∧ b1.count + b.count = 10 then .spare else plainSymbol b := by
  by_cases hx : number = 10 ∧ isStrike b1 = true
  · simp [markSymbol, hf, plainSymbol, h1, hx]
  · have hn : ¬ (number = 10 ∧ isStrike b1 = true ∧ b.count = 10) := fun h => hx ⟨h.1, h.2.1⟩
    simp [markSymbol, hf, plainSymbol, h1, hn, and_assoc]

theorem markSymbol_third (h1 : balls[0]? = some b1) (h2 : balls[1]? = some b2) : markSymbol number 3 balls b =
    if b.count = 10 ∧ (b2.count = 10 ∨ (isStrike b1 = false ∧ b1.count + b2.count = 10)) then .strike
    else if isStrike b1 = true ∧ b2.count < 10 ∧ b2.count + b.count = 10 then .spare else plainSymbol b := by
  simp [markSymbol, hf, plainSymbol, h1, h2, and_assoc]

theorem markSymbol_later {pos : Nat} (hp : 4 ≤ pos) : markSymbol number pos balls b = plainSymbol b := by
  have h1 : pos ≠ 1 := by omega
  have h2 : pos ≠ 2 := by omega
  have h3 : pos ≠ 3 := by omega
  simp [markSymbol, hf, plainSymbol, h1, h2, h3]

end

/-- R121: ball `n + 1` of a frame is marked as a strike; `second` is the count of ball 2. -/
def StrikeMarked (number n : Nat) (b1 b : BallRecord) (second : Nat) : Prop :=
  (n = 0 ∧ b.count = 10) ∨ (n = 1 ∧ number = 10 ∧ (b1.count = 10 ∧ b1.foul = false) ∧ b.count = 10)
    ∨ (n = 2 ∧ b.count = 10 ∧ (second = 10 ∨ (¬ (b1.count = 10 ∧ b1.foul = false) ∧ b1.count + second = 10)))

/-- R121: ball `n + 1` of a frame is marked as a spare. -/
def SpareMarked (number n : Nat) (b1 b : BallRecord) (second : Nat) : Prop :=
  (n = 1 ∧ (number < 10 ∨ ¬ (b1.count = 10 ∧ b1.foul = false)) ∧ b1.count + b.count = 10)
    ∨ (n = 2 ∧ (b1.count = 10 ∧ b1.foul = false) ∧ second < 10 ∧ second + b.count = 10)

theorem symbol_by_choice {x spare p q : Prop} [Decidable p] [Decidable q] {symbol plain : MarkSymbol} (hx : x ↔ p)
    (hs : spare ↔ q) (hne : q → ¬ p) (h : symbol = if p then .strike else if q then .spare else plain) :
    (x → symbol = .strike) ∧ (spare → symbol = .spare) ∧ (¬ x → ¬ spare → symbol = plain) := by
  rw [hx, hs]
  exact ⟨fun hp => by rw [h, if_pos hp], fun hq => by rw [h, if_neg (hne hq), if_pos hq],
    fun hp hq => by rw [h, if_neg hp, if_neg hq]⟩

/-- R121, the table of marks, ball by ball. -/
theorem markSymbol_by_table (number : Nat) {n : Nat} {balls : List BallRecord} {b1 b : BallRecord} (h1 : balls[0]? = some b1)
    (hb : balls[n]? = some b) (hf : b.foul = false) :
    let second := (balls[1]?.map (·.count)).getD 0
    (StrikeMarked number n b1 b second → markSymbol number (n + 1) balls b = .strike)
    ∧ (SpareMarked number n b1 b second → markSymbol number (n + 1) balls b = .spare)
    ∧ (¬ StrikeMarked number n b1 b second → ¬ SpareMarked number n b1 b second →
        markSymbol number (n + 1) balls b = plainSymbol b) := by
  intro second
  match n with
  | 0 =>
    refine symbol_by_choice (p := b.count = 10) (q := False) (by simp [StrikeMarked]) (by simp [SpareMarked]) (by simp) ?_
    simpa using markSymbol_first number hf
  | 1 =>
    refine symbol_by_choice ?_ ?_ ?_ (markSymbol_second number hf h1)
    · simp [StrikeMarked, isStrike_iff]
    · simp [SpareMarked, isStrike_eq_false_iff]
    · rintro ⟨h | h, -⟩ ⟨hn, hs, -⟩
      · omega
      · rw [h] at hs
        cases hs
  | 2 =>
    obtain ⟨hlt, -⟩ := List.getElem?_eq_some_iff.mp hb
    have h2 : balls[1]? = some balls[1] := List.getElem?_eq_getElem (by omega)
    have hsecond : second = balls[1].count := by simp [second, h2]
    refine symbol_by_choice ?_ ?_ ?_ (markSymbol_third number hf h1 h2)
    · simp [StrikeMarked, hsecond, isStrike_eq_false_iff]
    · simp [SpareMarked, hsecond, isStrike_iff]
    · rintro ⟨hs, hlt, -⟩ ⟨-, h | ⟨h, -⟩⟩
      · omega
      · rw [h] at hs
        cases hs
  | n + 3 =>
    refine symbol_by_choice (p := False) (q := False) (by simp [StrikeMarked]) (by simp [SpareMarked]) False.elim ?_
    simpa using markSymbol_later number hf (by omega)

/-! ### The computed frames of a line (R109, R113, R116) -/

/-- A frame as the computation of its line leaves it: `before` is the running total of the frame before, and `after` are the
balls that follow it on the line. -/
def FrameRecord.scored (f : FrameRecord) (before : Option Nat) (after : List BallRecord) : FrameRecord :=
  let balls := splitBalls f.number f.balls
  { f with
    balls := balls, marks := balls.mapIdx fun i b => markOf f.number (i + 1) balls b
    score := (frameScore f after).map (·.1), state := (frameScore f after).map (·.2)
    running := before.bind fun t => (frameScore f after).map fun x => t + x.1 }

theorem scoreFrames_cons (before : Option Nat) (f : FrameRecord) (rest : List FrameRecord) :
    scoreFrames before (f :: rest) = f.scored before (rest.flatMap (·.balls))
      :: scoreFrames (f.scored before (rest.flatMap (·.balls))).running rest := by
  simp only [scoreFrames, FrameRecord.scored, ← List.flatMap_def]
  cases frameScore f (rest.flatMap (·.balls)) <;> cases before <;> rfl

@[simp] theorem scoreFrames_length (before : Option Nat) (frames : List FrameRecord) :
    (scoreFrames before frames).length = frames.length := by
  simpa using congrArg List.length (scoreFrames_keeps before frames)

/-- Each frame of a line is computed from itself and the balls that follow it. -/
theorem scoreFrames_getElem? {before : Option Nat} {frames : List FrameRecord} {k : Nat} {f : FrameRecord}
    (h : frames[k]? = some f) :
    ∃ t, (scoreFrames before frames)[k]? = some (f.scored t ((frames.drop (k + 1)).flatMap (·.balls))) := by
  induction frames generalizing before k with
  | nil => simp at h
  | cons x rest ih =>
    rw [scoreFrames_cons]
    cases k with
    | zero =>
      cases h
      exact ⟨before, rfl⟩
    | succ k => exact ih h

/-- The running totals of frames add their scores to the total before, and end at the first frame without a score (R116). -/
def RunsFrom : Option Nat → List FrameRecord → Prop
  | _, [] => True
  | before, g :: rest => g.running = (before.bind fun t => g.score.map (t + ·)) ∧ RunsFrom g.running rest

theorem scoreFrames_runs (before : Option Nat) (frames : List FrameRecord) : RunsFrom before (scoreFrames before frames) := by
  induction frames generalizing before with
  | nil => trivial
  | cons f rest ih =>
    rw [scoreFrames_cons]
    refine ⟨?_, ih _⟩
    simp [FrameRecord.scored, Function.comp_def]

namespace RunsFrom
variable {frames : List FrameRecord} {g : FrameRecord} {k t : Nat}

/-- The running total of a frame, when every frame up to it has a score. -/
theorem sum (hr : RunsFrom (some t) frames) (hg : frames[k]? = some g)
    (h : ∀ x ∈ frames.take (k + 1), x.score ≠ none) :
    g.running = some (t + ((frames.take (k + 1)).map fun x => x.score.getD 0).sum) := by
  induction frames generalizing t k with
  | nil => simp at hg
  | cons x rest ih =>
    obtain ⟨hx, hrest⟩ := hr
    rw [List.take_succ_cons, List.forall_mem_cons] at h
    obtain ⟨v, hv⟩ := Option.ne_none_iff_exists'.mp h.1
    simp only [hv, Option.bind_some, Option.map_some] at hx
    cases k with
    | zero =>
      cases hg
      simpa [hv] using hx
    | succ k =>
      rw [hx] at hrest
      rw [ih hrest hg h.2]
      simp [hv, Nat.add_assoc]

/-- No running total follows an absent one. -/
theorem none_after (hr : RunsFrom none frames) (hg : frames[k]? = some g) : g.running = none := by
  induction frames generalizing k with
  | nil => simp at hg
  | cons x rest ih =>
    obtain ⟨hx, hrest⟩ := hr
    have hx : x.running = none := hx
    rw [hx] at hrest
    cases k with
    | zero =>
      cases hg
      exact hx
    | succ k => exact ih hrest hg

/-- A frame without a score ends the running totals. -/
theorem broken {before : Option Nat} (hr : RunsFrom before frames) (hg : frames[k]? = some g)
    (h : ∃ x ∈ frames.take (k + 1), x.score = none) : g.running = none := by
  induction frames generalizing before k with
  | nil => simp at hg
  | cons x rest ih =>
    obtain ⟨hx, hrest⟩ := hr
    rw [List.take_succ_cons, List.exists_mem_cons_iff] at h
    rcases h with h | h
    · have hx : x.running = none := by simpa [h] using hx
      rw [hx] at hrest
      cases k with
      | zero =>
        cases hg
        exact hx
      | succ k => exact none_after hrest hg
    · cases k with
      | zero => simp at h
      | succ k => exact ih hrest hg h

/-- A running total is there only when every frame up to it has its score and its running total. -/
theorem present (hr : RunsFrom (some t) frames) (hg : frames[k]? = some g) (h : g.running ≠ none) :
    ∀ x ∈ frames.take (k + 1), x.score ≠ none ∧ x.running ≠ none := by
  have scores : ∀ x ∈ frames.take (k + 1), x.score ≠ none := fun x hx e => h (broken hr hg ⟨x, hx, e⟩)
  intro x hx
  refine ⟨scores x hx, ?_⟩
  obtain ⟨j, hj⟩ := List.mem_iff_getElem?.mp hx
  obtain ⟨hjk, hj⟩ := Option.ite_none_right_eq_some.mp (List.getElem?_take.symm.trans hj)
  rw [sum hr hj fun y hy => scores y (List.take_subset_take_left _ (by omega) hy)]
  nofun

end RunsFrom

end Sys2Proof.Machine
end

section
/-! Scores (chapter 6): the totals of a line and of a group, and the statements of the chapter. -/
namespace Sys2Proof.Machine

/-! ### A frame of a computed line -/

section
variable (f : FrameRecord) (before : Option Nat) (after : List BallRecord)

theorem scored_balls_length : (f.scored before after).balls.length = f.balls.length := List.length_mapIdx

theorem scored_marks_length : (f.scored before after).marks.length = f.balls.length :=
  List.length_mapIdx.trans (scored_balls_length f before after)

variable {f} {n : Nat} {b : BallRecord} (h : f.balls[n]? = some b)
include h

theorem scored_ball : (f.scored before after).balls[n]? = some { b with split := derivedSplit f.number (n + 1) b } := by
  simp [FrameRecord.scored, splitBalls, h]

theorem scored_mark : (f.scored before after).marks[n]? = some (markOf f.number (n + 1) (f.scored before after).balls
    { b with split := derivedSplit f.number (n + 1) b }) := by
  have hb : (splitBalls f.number f.balls)[n]? = some { b with split := derivedSplit f.number (n + 1) b } :=
    scored_ball before after h
  simp [FrameRecord.scored, hb]

end

/-- A computed frame has its state just when it has its score. -/
theorem score_eq_none_iff {before : Option Nat} {frames : List FrameRecord} {g : FrameRecord}
    (h : g ∈ scoreFrames before frames) : g.score = none ↔ g.state = none := by
  obtain ⟨k, hk⟩ := List.mem_iff_getElem?.mp h
  have hlt : k < frames.length := scoreFrames_length before frames ▸ (List.getElem?_eq_some_iff.mp hk).1
  obtain ⟨t, ht⟩ := scoreFrames_getElem? (before := before) (List.getElem?_eq_getElem hlt)
  cases hk.symm.trans ht
  simp [FrameRecord.scored]

/-- The score of a frame on its computed line: the balls of the frames after it are those that follow. -/
theorem computeLine_score (p : HandicapParams) {l : Line} {earlier later : List FrameRecord} {f : FrameRecord}
    (h : l.frames = earlier ++ f :: later) {k : Nat} (hk : earlier.length = k) :
    (computeLine p l).frames[k]?.bind (·.score) = (frameScore f (later.flatMap (·.balls))).map (·.1) := by
  subst hk
  have hf : l.frames[earlier.length]? = some f := by simp [h]
  have hlater : l.frames.drop (earlier.length + 1) = later := by simp [h, List.drop_append]
  obtain ⟨t, ht⟩ := scoreFrames_getElem? (before := some 0) hf
  rw [hlater] at ht
  exact congrArg (Option.bind · _) ht

/-! ### Running and scratch totals (R116) -/

theorem runningState_eq_final_iff (frames : List FrameRecord) :
    runningState frames = .final ↔ ∀ x ∈ frames, x.state ≠ some .provisional := by
  simp [runningState]

/-- Of frames that are resolved, a total is FINAL when they all are. -/
theorem runningState_of_resolved {frames : List FrameRecord} (h : ∀ x ∈ frames, x.state ≠ none) :
    runningState frames = .final ↔ ∀ x ∈ frames, x.state = some .final := by
  rw [runningState_eq_final_iff]
  refine forall₂_congr fun x hx => ?_
  match hs : x.state with
  | none => exact absurd hs (h x hx)
  | some .final => simp
  | some .provisional => simp

section
variable {frames : List FrameRecord}

theorem lastRunning_of_none (h : ∀ x ∈ frames, x.running = none) : lastRunning frames = none := by
  have hnone : (frames.filter fun f => f.running.isSome) = [] :=
    List.filter_eq_nil_iff.mpr fun x hx => by simp [h x hx]
  simp [lastRunning, hnone]

variable {k v : Nat} {g : FrameRecord} (hg : frames[k]? = some g) (hv : g.running = some v)
include hg hv

/-- The frames with a running total are the first of the line, up to the last that has one. -/
theorem lastRunning_of_initial (hbefore : ∀ x ∈ frames.take k, x.running ≠ none)
    (hafter : ∀ x ∈ frames.drop (k + 1), x.running = none) :
    lastRunning frames = some ⟨v, runningState (frames.take (k + 1))⟩ := by
  have htake : frames.take (k + 1) = frames.take k ++ [g] := by rw [List.take_add_one, hg]; rfl
  have hpresent : (frames.filter fun f => f.running.isSome) = frames.take (k + 1) := by
    conv => lhs; rw [← List.take_append_drop (k + 1) frames]
    rw [List.filter_append, List.filter_eq_self.mpr, List.filter_eq_nil_iff.mpr, List.append_nil]
    · exact fun x hx => by simp [hafter x hx]
    · intro x hx
      rw [htake, List.mem_append, List.mem_singleton] at hx
      rcases hx with hx | rfl
      · exact Option.isSome_iff_ne_none.mpr (hbefore x hx)
      · simp [hv]
  have hlast : (frames.take (k + 1)).getLast? = some g := by rw [htake, List.getLast?_concat]
  simp [lastRunning, hpresent, hlast, hv]

/-- The frames up to one with a running total are resolved, on a computed line. -/
theorem resolved_of_running {before : List FrameRecord} {t : Nat} (hf : frames = scoreFrames (some t) before) :
    ∀ x ∈ frames.take (k + 1), x.running ≠ none ∧ x.state ≠ none := by
  subst hf
  intro x hx
  obtain ⟨hscore, hrunning⟩ := (scoreFrames_runs (some t) before).present hg (by simp [hv]) x hx
  exact ⟨hrunning, fun e => hscore ((score_eq_none_iff (List.mem_of_mem_take hx)).mpr e)⟩

end

section
variable (p : HandicapParams) {l : Line} {g : FrameRecord} {v : Nat}

theorem scratch_active (hs : l.status = .active) : (computeLine p l).scratch
    = ((computeLine p l).frames[9]?.bind (·.running)).map fun v => ⟨v, runningState (computeLine p l).frames⟩ := by
  change scratchTotal l.status (computeLine p l).frames = _
  rw [hs, scratchTotal]
  cases (computeLine p l).frames[9]? <;> rfl

/-- The scratch total of an ACTIVE line with a running total in frame 10. -/
theorem scratch_of_tenth (hs : l.status = .active) (hl : l.frames.length ≤ 10) (hg : (computeLine p l).frames[9]? = some g)
    (hv : g.running = some v) : ∃ st, (computeLine p l).scratch = some ⟨v, st⟩
      ∧ (st = .final ↔ ∀ h ∈ (computeLine p l).frames, h.state = some .final) := by
  have hresolved := resolved_of_running hg hv rfl
  have hlength : (computeLine p l).frames.length ≤ 10 := (scoreFrames_length (some 0) l.frames).trans_le hl
  rw [List.take_of_length_le hlength] at hresolved
  refine ⟨runningState (computeLine p l).frames, ?_, runningState_of_resolved fun x hx => (hresolved x hx).2⟩
  rw [scratch_active p hs, hg, Option.bind_some, hv]
  rfl

theorem scratch_withdrawn (hs : l.status = .withdrawn) :
    (computeLine p l).scratch = some ((lastRunning (computeLine p l).frames).getD ⟨0, .final⟩) := by
  change scratchTotal l.status (computeLine p l).frames = _
  rw [hs, scratchTotal]

/-- The scratch total of a WITHDRAWN line is its last running total. -/
theorem scratch_of_last (hs : l.status = .withdrawn) {k : Nat} (hg : (computeLine p l).frames[k]? = some g)
    (hv : g.running = some v) (hafter : ∀ h ∈ (computeLine p l).frames.drop (k + 1), h.running = none) :
    ∃ st, (computeLine p l).scratch = some ⟨v, st⟩
      ∧ (st = .final ↔ ∀ h ∈ (computeLine p l).frames.take (k + 1), h.state = some .final) := by
  have hresolved := resolved_of_running hg hv rfl
  have hbefore : ∀ h ∈ (computeLine p l).frames.take k, h.running ≠ none := fun h hh =>
    (hresolved h (List.take_subset_take_left _ (Nat.le_succ k) hh)).1
  refine ⟨_, ?_, runningState_of_resolved fun x hx => (hresolved x hx).2⟩
  rw [scratch_withdrawn p hs, lastRunning_of_initial hg hv hbefore hafter]
  rfl

end

/-! ### The totals of a group (R119) -/

theorem sumTotals_eq {ts : List Total} {v : Nat} (h : (ts.map (·.value)).sum = v) :
    ∃ st, sumTotals ts = ⟨v, st⟩ ∧ (st = .final ↔ ∀ t ∈ ts, t.state = .final) :=
  ⟨(sumTotals ts).state, by rw [← h]; rfl, by simp [sumTotals]⟩

section
variable {ls : List Line}

theorem groupTotals_of_nil (h : takingPart ls = []) : groupRunningOf ls = none ∧ groupTotalOf ls = none := by
  simp [groupRunningOf, groupTotalOf, h]

/-- What a line adds to its group's running total: its last running total, 0 without one, and its handicap. -/
def Line.runningShare (y : Line) : Total :=
  let t := (lastRunning y.frames).getD ⟨0, .final⟩
  { t with value := t.value + y.handicap }

theorem runningShare_value (y : Line) :
    y.runningShare.value = ((lastRunning y.frames).map (·.value)).getD 0 + y.handicap := by
  cases h : lastRunning y.frames <;> simp [Line.runningShare, h]

theorem runningShare_final_iff (y : Line) :
    y.runningShare.state = .final ↔ ∀ q, lastRunning y.frames = some q → q.state = .final := by
  cases h : lastRunning y.frames <;> simp [Line.runningShare, h]

theorem groupRunningOf_eq (h : takingPart ls ≠ []) : ∃ st, groupRunningOf ls
      = some ⟨((takingPart ls).map fun y => ((lastRunning y.frames).map (·.value)).getD 0 + y.handicap).sum, st⟩
    ∧ (st = .final ↔ ∀ y ∈ takingPart ls, ∀ q, lastRunning y.frames = some q → q.state = .final) := by
  have hsome : groupRunningOf ls = some (sumTotals ((takingPart ls).map Line.runningShare)) := if_neg (by simpa using h)
  obtain ⟨st, hsum, hst⟩ := sumTotals_eq (ts := (takingPart ls).map Line.runningShare) (by rw [List.map_map])
  refine ⟨st, ?_, hst.trans ?_⟩
  · rw [hsome, hsum]
    simp only [Function.comp_def, runningShare_value]
  · rw [List.forall_mem_map]
    exact forall₂_congr fun y _ => runningShare_final_iff y

/-- The game totals present sum to the game totals of the lines, 0 for a line without one. -/
theorem sum_gameTotals (part : List Line) : ((part.filterMap (·.gameTotal)).map (·.value)).sum
    = (part.map fun y => (y.gameTotal.map (·.value)).getD 0).sum := by
  induction part with
  | nil => rfl
  | cons y part ih => cases h : y.gameTotal <;> simp [h, ih]

theorem groupTotalOf_eq (h : takingPart ls ≠ []) (hall : ∀ y ∈ takingPart ls, y.gameTotal ≠ none) : ∃ st, groupTotalOf ls
      = some ⟨((takingPart ls).map fun y => (y.gameTotal.map (·.value)).getD 0).sum, st⟩
    ∧ (st = .final ↔ ∀ y ∈ takingPart ls, ∀ q, y.gameTotal = some q → q.state = .final) := by
  have hsome : groupTotalOf ls = some (sumTotals ((takingPart ls).filterMap (·.gameTotal))) :=
    if_neg (by simpa [h, Option.isNone_iff_eq_none] using hall)
  obtain ⟨st, hsum, hst⟩ := sumTotals_eq (sum_gameTotals (takingPart ls))
  refine ⟨st, by rw [hsome, hsum], hst.trans ?_⟩
  simp only [List.mem_filterMap, forall_exists_index, and_imp]
  exact forall_comm.trans (forall_congr' fun _ => forall_comm)

theorem groupTotalOf_eq_none (h : ∃ y ∈ takingPart ls, y.gameTotal = none) : groupTotalOf ls = none :=
  if_pos (by simpa using .inr h)

end

theorem refreshTotals_eq (s : State) (g : Slot) : s.refreshTotals g =
    { s with groups := s.groups.set g { s.groups.get g with
      runningTotal := groupRunningOf (s.linesOf g), groupTotal := groupTotalOf (s.linesOf g) } } := rfl

/-! ### The statements -/

/-- Settles O29: the score of a frame by its balls, a line by its frames, and a group by its lines, each by its own lemmas. -/
theorem frameScoresOneToNine : Obligations.FrameScoresOneToNine := by
  unfold Obligations.FrameScoresOneToNine
  have strike {b : BallRecord} (h : b.count = 10 ∧ b.foul = false) : isStrike b = true := (isStrike_iff b).mpr h
  have noStrike {b : BallRecord} (h : ¬ (b.count = 10 ∧ b.foul = false)) : isStrike b = false := (isStrike_eq_false_iff b).mpr h
  refine ⟨?scores, ?states, ?lines, derivedSplit_iff, ?marks, ?running, ?groups, ?changes⟩
  case scores =>
    intro f after hn
    refine ⟨fun hm => frameScore_missed hm after, fun hm b1 b2 hb hs hc => ?opened, fun hm b1 b2 n rest hb hs hc ha => ?spare,
      fun hm b1 n1 n2 rest hb hc hf ha => ?struck, fun hm b1 hb hs => frameScore_one_ball hm hn hb (noStrike hs),
      fun hm b1 hb hc hf hl => frameScore_strike_waits hm hn hb (strike ⟨hc, hf⟩) hl,
      fun hm b1 b2 hb hs hc ha => frameScore_spare_waits hm hn hb (noStrike hs) hc ha⟩
    case opened => rw [frameScore_open hm hn hb (noStrike hs) (by omega), Option.map_some]
    case spare => rw [frameScore_spare hm hn hb (noStrike hs) hc ha, Option.map_some]
    case struck => rw [frameScore_strike hm hn hb (strike ⟨hc, hf⟩) ha, Option.map_some]
  case states =>
    intro f after v st h _ _
    refine ⟨fun hm => ?missed, fun hm b1 rest hb => ⟨fun hn hs => strike_needs h hm hn hb (strike hs), fun b2 later hr => ?_⟩⟩
    case missed =>
      rw [frameScore_missed hm] at h
      cases h
      rfl
    subst hr
    exact ⟨fun hn hs hc => spare_needs h hm hb hn (noStrike hs) hc, fun hn hs hc => open_needs h hm hb hn (noStrike hs) hc,
      fun hn he => tenth_three_needs h hm hb hn ((earnsThird_iff b1 b2).mpr he),
      fun hn he => tenth_two_needs h hm hb hn (by rwa [← Bool.not_eq_true, earnsThird_iff])⟩
  case lines =>
    intro p l c
    have hruns : RunsFrom (some 0) c.frames := scoreFrames_runs (some 0) l.frames
    refine ⟨scoreFrames_length .., fun k f hf => ?frame, rfl, rfl, rfl, fun hs hl => ⟨fun g v => scratch_of_tenth p hs hl, ?_⟩,
      fun hs => ⟨fun k g v => scratch_of_last p hs, fun h => ?_⟩⟩
    case frame =>
      obtain ⟨t, hg⟩ := scoreFrames_getElem? (before := some 0) hf
      refine ⟨_, hg, rfl, rfl, scored_balls_length .., scored_marks_length ..,
        fun n b hb => ⟨scored_ball _ _ hb, scored_mark _ _ hb⟩, ?_, rfl, rfl, fun h => ?_, hruns.broken hg⟩
      · simp [FrameRecord.scored]
      · simpa using hruns.sum hg h
    · intro h
      rw [scratch_active p hs]
      cases hg : (computeLine p l).frames[9]? with
      | none => rfl
      | some g => rw [Option.bind_some, h g hg, Option.map_none]
    · rw [scratch_withdrawn p hs, lastRunning_of_none h]
      rfl
  case marks =>
    intro number n balls b1 b _ h1 hb _ m second _ x spare
    have table := markSymbol_by_table number h1 hb
    exact ⟨rfl, fun hf => markSymbol_foul number hf (n + 1), fun hf => (table hf).1, fun hf => (table hf).2.1,
      fun hf => (table hf).2.2⟩
  case running =>
    exact fun frames => ⟨lastRunning_of_none, fun k g v hg hv hbefore hafter =>
      ⟨_, lastRunning_of_initial hg hv hbefore hafter, runningState_eq_final_iff _⟩⟩
  case groups =>
    intro s g part t r
    have hr : r = { s.groups.get g with
        runningTotal := groupRunningOf (s.linesOf g), groupTotal := groupTotalOf (s.linesOf g) } := PerSlot.get_set ..
    rw [hr]
    exact ⟨groupTotals_of_nil, groupRunningOf_eq, groupTotalOf_eq, groupTotalOf_eq_none, refreshTotals_eq s g⟩
  case changes =>
    intro s i l change hl t
    have ht : t = ((s.setLine i (some (computeLine s.handicap (change l)))).refreshTotals l.group).touch i := by
      simp only [t, State.changeLine, hl]
    refine ⟨?_, fun j hj => (changeLine_line ..).trans (if_neg hj), ?_, fun j => ?_, ?_⟩
    · rw [changeLine_line, if_pos rfl, hl]
      rfl
    · rw [ht]
      rfl
    · rw [changeLine_dirty, hl]
      simp
    · rw [ht]
      rfl

/-- Settles O30: the score of frame 10 by its balls, and those of frames 8 and 9 by the balls that follow them on the line. -/
theorem frameTenScore : Obligations.FrameTenScore := by
  unfold Obligations.FrameTenScore
  refine ⟨⟨fun f after hn => ⟨fun hm => frameScore_missed hm after, fun hm hc hl h3 => frameScore_tenth_sum hm hn hc hl h3,
    fun hm hc => frameScore_tenth_waits hm hn hc, fun hm hr v st h => frameScore_tenth_le hm hn hr h,
    frameScore_tenth_after hn after⟩, ?strikes, ?spare⟩, ?lines⟩
  case strikes =>
    intro b8 b9 t1 t2 rest f8 f9 hn8 hn9 hm8 hm9 hb8 hb9 hs8 hs9
    rw [frameScore_strike hm8 (by omega) hb8 hs8 rfl, frameScore_strike hm9 (by omega) hb9 hs9 rfl]
    exact ⟨rfl, rfl⟩
  case spare =>
    intro b1 b2 t1 rest f9 hn hm hb hs hc
    rw [frameScore_spare hm (by omega) hb hs hc rfl]
    rfl
  case lines =>
    intro p l earlier f8 f9 f10 hframes hlen hn8 hn9 hn10 hm8 hm9 hm10 score strike
    have h8 : score 8 = (frameScore f8 (f9.balls ++ (f10.balls ++ []))).map (·.1) := computeLine_score p hframes hlen
    have h9 : score 9 = (frameScore f9 (f10.balls ++ [])).map (·.1) :=
      computeLine_score p (earlier := earlier ++ [f8]) (later := [f10]) (k := 8) (by simp [hframes]) (by simp [hlen])
    have h10 : score 10 = (frameScore f10 []).map (·.1) :=
      computeLine_score p (earlier := earlier ++ [f8, f9]) (later := []) (k := 9) (by simp [hframes]) (by simp [hlen])
    rw [List.append_nil] at h8 h9
    rw [h8, h9, h10]
    refine ⟨fun b8 b9 t1 rest hb8 hb9 hb10 hs _ => ?double, fun b8 b1 b2 hb8 hb9 hs => ?within,
      fun b9 t1 t2 rest hb9 hb10 hs => ?bonus, fun b9 t1 hb9 hb10 hs => ?waits, fun b1 b2 t1 rest hb9 hb10 hs hc => ?spared, rfl⟩
    case double => rw [frameScore_strike hm8 (by omega) hb8 ((isStrike_iff b8).mpr hs) (by rw [hb9, hb10]; rfl), Option.map_some]
    case within => rw [frameScore_strike hm8 (by omega) hb8 ((isStrike_iff b8).mpr hs) (by rw [hb9]; rfl), Option.map_some]
    case bonus => rw [frameScore_strike hm9 (by omega) hb9 ((isStrike_iff b9).mpr hs) hb10, Option.map_some]
    case waits =>
      rw [frameScore_strike_waits hm9 (by omega) hb9 ((isStrike_iff b9).mpr hs) (by simp [hb10]), Option.map_none]
    case spared => rw [frameScore_spare hm9 (by omega) hb9 ((isStrike_eq_false_iff b1).mpr hs) hc hb10, Option.map_some]

end Sys2Proof.Machine
end

section
/-! The line directory (chapter 7): the bounds of the pending correction queue and of the claims, which every command keeps. -/
namespace Sys2Proof.Machine

/-! ### Entry ids (R138) -/

/-- The ids that the search for a free one tries after `n`: they run from 1 to 255 and wrap. -/
def idAfter (n j : Nat) : Nat := (n - 1 + j) % 255 + 1

theorem idAfter_zero {n : Nat} (h1 : 1 ≤ n) (h255 : n ≤ 255) : idAfter n 0 = n := by
  unfold idAfter
  omega

theorem idAfter_succ {n : Nat} (h1 : 1 ≤ n) (h255 : n ≤ 255) (j : Nat) :
    idAfter (if n < 255 then n + 1 else 1) j = idAfter n (j + 1) := by
  unfold idAfter
  split <;> omega

/-- Fewer than 255 ids in a row are different. -/
theorem idAfter_nodup (n : Nat) {k : Nat} (h : k ≤ 255) : ((List.range k).map (idAfter n)).Nodup := by
  refine List.Nodup.map_on (fun i hi j hj e => ?_) List.nodup_range
  rw [List.mem_range] at hi hj
  unfold idAfter at e
  omega

theorem freeEntry_succ (queue : List Correction) (k n : Nat) : freeEntry queue (k + 1) n =
    if n ∈ queue.map (·.id) then freeEntry queue k (if n < 255 then n + 1 else 1) else n := by
  simp [freeEntry]

theorem nextId_range {n : Nat} (h1 : 1 ≤ n) : 1 ≤ (if n < 255 then n + 1 else 1) ∧ (if n < 255 then n + 1 else 1) ≤ 255 := by
  split <;> omega

theorem freeEntry_range (queue : List Correction) (k : Nat) {n : Nat} (h1 : 1 ≤ n) (h255 : n ≤ 255) :
    1 ≤ freeEntry queue k n ∧ freeEntry queue k n ≤ 255 := by
  induction k generalizing n with
  | zero => exact ⟨h1, h255⟩
  | succ k ih =>
    rw [freeEntry_succ]
    split
    · exact ih (nextId_range h1).1 (nextId_range h1).2
    · exact ⟨h1, h255⟩

/-- The search finds a free id, or every id that it tries is taken. -/
theorem freeEntry_free_or_taken (queue : List Correction) (k : Nat) {n : Nat} (h1 : 1 ≤ n) (h255 : n ≤ 255) :
    freeEntry queue k n ∉ queue.map (·.id) ∨ ∀ j < k, idAfter n j ∈ queue.map (·.id) := by
  induction k generalizing n with
  | zero => exact .inr fun j hj => absurd hj (Nat.not_lt_zero j)
  | succ k ih =>
    rw [freeEntry_succ]
    split
    · rename_i hn
      refine (ih (nextId_range h1).1 (nextId_range h1).2).imp_right fun taken j hj => ?_
      cases j with
      | zero => rwa [idAfter_zero h1 h255]
      | succ j =>
        rw [← idAfter_succ h1 h255]
        exact taken j (Nat.lt_of_succ_lt_succ hj)
    · exact .inl ‹_›

/-- In a queue of fewer than 8 entries, one of the 8 ids that the search tries is free. -/
theorem freeEntry_free {queue : List Correction} (hq : queue.length < 8) {n : Nat} (h1 : 1 ≤ n) (h255 : n ≤ 255) :
    freeEntry queue 8 n ∉ queue.map (·.id) := by
  refine (freeEntry_free_or_taken queue 8 h1 h255).resolve_right fun taken => ?_
  have hsub : (List.range 8).map (idAfter n) ⊆ queue.map (·.id) := by
    intro e he
    obtain ⟨j, hj, rfl⟩ := List.mem_map.mp he
    exact taken j (List.mem_range.mp hj)
  have hle := ((idAfter_nodup n (by decide)).subperm hsub).length_le
  rw [List.length_map, List.length_map, List.length_range] at hle
  omega

/-! ### The pending correction queue (R138) -/

theorem CorrectionsOk.fewer {s : State} (h : CorrectionsOk s) (keep : Correction → Bool) :
    CorrectionsOk { s with corrections := s.corrections.filter keep } := by
  obtain ⟨hlen, hids, hrange, hnext⟩ := h
  exact ⟨(List.length_filter_le ..).trans hlen, (List.filter_sublist.map _).nodup hids,
    fun e he => hrange e (List.mem_of_mem_filter he), hnext⟩

theorem CorrectionsOk.overwrite {s : State} (h : CorrectionsOk s) {f : Correction → Correction}
    (hf : ∀ e ∈ s.corrections, (f e).id = e.id) : CorrectionsOk { s with corrections := s.corrections.map f } := by
  obtain ⟨hlen, hids, hrange, hnext⟩ := h
  have hsame : (s.corrections.map f).map (·.id) = s.corrections.map (·.id) := by
    rw [List.map_map]
    exact List.map_congr_left hf
  refine ⟨(List.length_map f).trans_le hlen, hsame ▸ hids, fun e he => ?_, hnext⟩
  obtain ⟨a, ha, rfl⟩ := List.mem_map.mp he
  exact hf a ha ▸ hrange a ha

theorem CorrectionsOk.append {s : State} (h : CorrectionsOk s) {e : Correction} (hroom : s.corrections.length < 8)
    (he : e.id = freeEntry s.corrections 8 s.nextEntry) :
    CorrectionsOk { s with corrections := s.corrections ++ [e], nextEntry := if e.id < 255 then e.id + 1 else 1 } := by
  obtain ⟨hlen, hids, hrange, hn1, hn255⟩ := h
  have hfree := freeEntry_free hroom hn1 hn255
  have hnew := freeEntry_range s.corrections 8 hn1 hn255
  rw [← he] at hfree hnew
  refine ⟨by simpa using hroom, ?_, fun a ha => ?_, nextId_range hnew.1⟩
  · rw [List.map_append, List.map_singleton]
    exact List.nodup_append_comm.mp (List.nodup_cons.mpr ⟨hfree, hids⟩)
  · rcases List.mem_append.mp ha with ha | ha
    · exact hrange a ha
    · rwa [List.mem_singleton.mp ha]

theorem Evolves.correctionsOk {c : Scope} {s t : State} (h : Evolves c s t) (hs : CorrectionsOk s) : CorrectionsOk t := by
  have congr {u v : State} (hc : u.corrections = v.corrections) (hn : u.nextEntry = v.nextEntry) (hv : CorrectionsOk v) :
      CorrectionsOk u := by
    rw [CorrectionsOk, hc, hn]
    exact hv
  induction h with
  | trans _ _ h h' => exact h' (h hs)
  | other h => exact congr h.corrections h.nextEntry hs
  | control _ hu _ ih => exact congr (congrArg State.corrections hu :) (congrArg State.nextEntry hu :) (ih hs)
  | fewer s keep => exact hs.fewer keep
  | empty s => exact ⟨Nat.zero_le _, List.nodup_nil, fun _ h => (nomatch h), Nat.le_refl 1, Nat.le_of_ble_eq_true rfl⟩
  | overwrite s f hf => exact hs.overwrite hf
  | append s e hroom he => exact hs.append hroom he
  | refl | offer | feed | session | ret | capacity | lines => exact hs

/-! ### Claims (R129 to R131, R143) -/

section
variable {l : Line} {k : Link}

/-- No link holds EDIT, and the claim timer stands. -/
theorem claimOk_of_unclaimed (hc : ∀ j, l.copies.get j ≠ .edit) (ht : l.claimTimer = none) : ClaimOk l :=
  ⟨fun j _ hj => absurd hj (hc j), by
    rw [ht]
    exact iff_of_false (by nofun) fun ⟨j, hj⟩ => hc j hj⟩

/-- One link holds EDIT, and the claim timer runs. -/
theorem claimOk_of_claimed (hk : l.copies.get k = .edit) (hc : ∀ j, l.copies.get j = .edit → j = k)
    (ht : l.claimTimer.isSome = true) : ClaimOk l :=
  ⟨fun i j hi hj => (hc i hi).trans (hc j hj).symm, iff_of_true ht ⟨k, hk⟩⟩

theorem holder_holds (h : l.holder = some k) : l.copies.get k = .edit := by
  unfold Line.holder at h
  split at h
  · rename_i hd
    exact Option.some.inj h ▸ hd
  · split at h
    · rename_i hs
      exact Option.some.inj h ▸ hs
    · split at h
      · rename_i hc
        exact Option.some.inj h ▸ hc
      · cases h

theorem holder_eq_none_iff : l.holder = none ↔ ∀ j, l.copies.get j ≠ .edit := by
  have hlinks : (∀ j, l.copies.get j ≠ .edit)
      ↔ l.copies.desk ≠ .edit ∧ l.copies.service ≠ .edit ∧ l.copies.console ≠ .edit :=
    ⟨fun h => ⟨h .desk, h .service, h .console⟩, fun ⟨hd, hs, hc⟩ j => match j with
      | .desk => hd
      | .service => hs
      | .console => hc⟩
  rw [hlinks, Line.holder]
  split
  · simp [*]
  · split
    · simp [*]
    · split <;> simp [*]

/-- A link that alone holds EDIT is the holder. -/
theorem holder_eq_some (hk : l.copies.get k = .edit) (hc : ∀ j, l.copies.get j = .edit → j = k) : l.holder = some k := by
  cases h : l.holder with
  | none => exact absurd hk (holder_eq_none_iff.mp h k)
  | some j => rw [hc j (holder_holds h)]

/-- Once the copy state of one link is set to something else, EDIT is held where it was, but not there. -/
theorem edit_of_set {c : CopyState} (h : c ≠ .edit) {j : Link} (hj : (l.copies.set k c).get j = .edit) :
    j ≠ k ∧ l.copies.get j = .edit := by
  by_cases e : j = k
  · rw [e, PerLink.get_set] at hj
    exact absurd hj h
  · rw [PerLink.get_set_of_ne _ e] at hj
    exact ⟨e, hj⟩

theorem edit_of_copyAfter {a : Bool} {c : CopyState} : copyAfter a c = .edit ↔ c = .edit := by
  unfold copyAfter
  cases c with
  | copy => cases a <;> simp
  | none | edit => exact Iff.rfl

/-- A grant leaves EDIT with the link alone, when no other held it. -/
theorem claimOk_grant (h : ∀ j, j ≠ k → l.copies.get j ≠ .edit) (n : Nat) : ClaimOk (l.grant k n) := by
  refine claimOk_of_claimed (k := k) (PerLink.get_set ..) (fun j hj => ?_) rfl
  by_contra hne
  exact h j hne ((PerLink.get_set_of_ne _ hne _).symm.trans hj)

theorem claimOk_unclaim (h : ClaimOk l) : ClaimOk l.unclaim := by
  unfold Line.unclaim
  split
  · rename_i k hk
    refine claimOk_of_unclaimed (fun j hj => ?_) rfl
    obtain ⟨hne, hj⟩ := edit_of_set (by nofun) hj
    exact hne (h.1 j k hj (holder_holds hk))
  · rename_i hk
    exact claimOk_of_unclaimed (holder_eq_none_iff.mp hk) rfl

theorem claimOk_forgetLink (h : ClaimOk l) (k : Link) : ClaimOk (l.forgetLink k) := by
  by_cases hk : l.copies.get k = .edit
  · refine claimOk_of_unclaimed (fun j hj => ?_) (if_pos hk)
    obtain ⟨hne, hj⟩ := edit_of_set (by nofun) hj
    exact hne (h.1 j k hj hk)
  · have hkept (j : Link) : (l.forgetLink k).copies.get j = .edit ↔ l.copies.get j = .edit := by
      refine ⟨fun hj => (edit_of_set (by nofun) hj).2, fun hj => ?_⟩
      have hne : j ≠ k := fun e => hk (e ▸ hj)
      exact (PerLink.get_set_of_ne _ hne _).trans hj
    have htimer : (l.forgetLink k).claimTimer = l.claimTimer := if_neg hk
    unfold ClaimOk
    simp only [hkept, htimer]
    exact h

end

theorem LineStep.keeps {l l' : Line} (h : LineStep l l') (hl : ClaimOk l) : ClaimOk l' := by
  cases h with
  | contents _ hc ht =>
    rw [ClaimOk, hc, ht]
    exact hl
  | read k =>
    have hkept (j : Link) :
        (l.copies.set k (if l.copies.get k = .none then .copy else l.copies.get k)).get j = .edit ↔ l.copies.get j = .edit := by
      by_cases hj : j = k
      · subst hj
        rw [PerLink.get_set]
        split
        · rename_i e
          simp [e]
        · rfl
      · rw [PerLink.get_set_of_ne _ hj]
    unfold ClaimOk
    simp only [hkept]
    exact hl
  | grant k n hh =>
    refine claimOk_grant (fun j hj he => ?_) n
    rcases hh with hh | hh
    · exact holder_eq_none_iff.mp hh j he
    · exact hj (hl.1 j k he (holder_holds hh))
  | preempt h k n hh =>
    refine claimOk_grant (fun j _ he => ?_) n
    obtain ⟨hne, he⟩ := edit_of_set (by nofun) he
    exact hne (hl.1 j h he (holder_holds hh))
  | unclaim => exact claimOk_unclaim hl
  | changed a b c v =>
    have hkept (j : Link) : (PerLink.mk (copyAfter a l.copies.desk) (copyAfter b l.copies.service)
        (copyAfter c l.copies.console)).get j = .edit ↔ l.copies.get j = .edit := by
      cases j <;> exact edit_of_copyAfter
    unfold ClaimOk
    simp only [hkept]
    exact hl
  | forget k => exact claimOk_forgetLink hl k
  | restart _ k n hk hc ht =>
    refine claimOk_of_claimed (k := k) (hc ▸ hk) (fun j hj => hl.1 j k (hc ▸ hj) hk) (by rw [ht]; rfl)

theorem LineMove.keeps {o o' : Option Line} (h : LineMove o o') (ho : ∀ l, o = some l → ClaimOk l) :
    ∀ l, o' = some l → ClaimOk l := by
  cases h with
  | same => exact ho
  | step l l' h =>
    rintro _ ⟨⟩
    exact h.keeps (ho l rfl)
  | gone => nofun
  | born _ l hc ht =>
    rintro _ ⟨⟩
    refine claimOk_of_unclaimed (fun j hj => ?_) ht
    rw [hc] at hj
    cases j <;> cases hj

theorem Evolves.claimsOk {c : Scope} {s t : State} (h : Evolves c s t) (hs : ClaimsOk s) : ClaimsOk t := by
  have congr {u v : State} (hl : u.lines = v.lines) (hv : ClaimsOk v) : ClaimsOk u := by
    unfold ClaimsOk State.line
    rw [hl]
    exact hv
  induction h with
  | trans _ _ h h' => exact h' (h hs)
  | other h => exact congr h.lines hs
  | control _ hu _ ih => exact congr (congrArg State.lines hu :) (ih hs)
  | lines s v hmove => exact fun i l hl => (hmove i).keeps (hs i) l hl
  | refl | offer | feed | session | ret | capacity | fewer | empty | overwrite | append => exact hs

/-- Settles O59: the queue and the claims are kept by the single steps of every chain. -/
theorem directoryStaysInBounds : Obligations.DirectoryStaysInBounds := by
  unfold Obligations.DirectoryStaysInBounds
  obtain ⟨-, -, -, -, corrections, claims, -⟩ := reset_bounds
  refine ⟨fun c s t => ?corrections, fun c s t => ?claims⟩
  case corrections => exact exec_keeps (fun _ => corrections) (fun _ _ _ => id) fun _ _ h => h.correctionsOk
  case claims => exact exec_keeps (fun _ => claims) (fun _ _ _ => id) fun _ _ h => h.claimsOk

end Sys2Proof.Machine
end

section
/-! The line directory (chapter 7): what a request leaves of the ports and of the rest, and the requests release-line, read-line
and claim-line. -/
namespace Sys2Proof.Machine

/-! ### The end of a request that makes nothing due -/

section
variable (u : State) (k : Link) (tag : Tag) (r : Request) (a : Answer)

/-- The reply and the transmitters reach no notice. -/
theorem answered_notices (j : Link) : ((u.answered k tag r a).port j).notices = ((finishRequest r u).port j).notices := by
  obtain ⟨-, -, -, hpump, -⟩ := (((finishRequest r u).modPort k fun p => p.reply (queuedOf tag r) a).port j).pump_keeps
  rw [State.answered, State.port_pump, hpump]
  by_cases hj : j = k
  · subst hj
    rw [State.port_modPort]
    rfl
  · rw [State.port_modPort_of_ne _ hj]

theorem queuedUp_notices (s : State) (j : Link) : ((s.queuedUp k tag r).port j).notices = (s.port j).notices
    ∧ ((s.queuedUp k tag r).port j).lost = (s.port j).lost := by
  unfold State.queuedUp
  by_cases hj : j = k
  · subst hj
    rw [State.port_modPort]
    exact ⟨rfl, rfl⟩
  · rw [State.port_modPort_of_ne _ hj]
    exact ⟨rfl, rfl⟩

end

section
variable {i : Instr} {s u : State} {k : Link} {tag : Tag} {r : Request} {a : Answer}

/-- A request whose event ends with the reply: what its owning block does is what it leaves, but for the ports. -/
theorem State.serves_plainly (hi : i.request = some (k, tag, r)) (hl : LinkIdle s k) (ha : admits k r.kind = true)
    (hm : ∀ m, r ≠ .setMask m) (hr : r ≠ .linkReset) (hf : finishRequest r u = u)
    (h : handle k r (s.queuedUp k tag r) = (u, a)) :
    ∃ t, exec i s = .next t ∧ Replied t k tag r a ∧ (∀ j, (t.port j).notices = (u.port j).notices)
      ∧ (u.ports = (s.queuedUp k tag r).ports → OthersIdle s t k) ∧ { t with ports := s.ports } = { u with ports := s.ports } := by
  obtain ⟨hexec, hreplied⟩ := State.served hi hl ha hm hr h
  refine ⟨_, hexec, hreplied, fun j => ?_, fun hu => State.others_of_same tag r a (hf.symm ▸ hu), ?_⟩
  · rw [answered_notices, hf]
  · rw [State.answered, hf]
    rfl

/-- The same, for a request that its owning block refuses: nothing but the reply. -/
theorem State.refuses_plainly {c : Code} (hi : i.request = some (k, tag, r)) (hl : LinkIdle s k) (ha : admits k r.kind = true)
    (hm : ∀ m, r ≠ .setMask m) (hr : r ≠ .linkReset) (hf : finishRequest r (s.queuedUp k tag r) = s.queuedUp k tag r)
    (h : handle k r (s.queuedUp k tag r) = refuse c (s.queuedUp k tag r)) :
    ∃ t, exec i s = .next t ∧ Replied t k tag r (.refused c) ∧ OthersIdle s t k ∧ { t with ports := s.ports } = s := by
  obtain ⟨t, hexec, hreplied, -, hothers, hrest⟩ := State.serves_plainly hi hl ha hm hr hf h
  exact ⟨t, hexec, hreplied, hothers rfl, hrest⟩

/-- A request that its link may not send: nothing but the reply RIGHTS (R188). -/
theorem State.denies_plainly (hi : i.request = some (k, tag, r)) (hl : LinkIdle s k) (ha : admits k r.kind = false)
    (hr : r ≠ .linkReset) :
    ∃ t, exec i s = .next t ∧ Replied t k tag r (.refused .rights) ∧ { t with ports := s.ports } = s := by
  obtain ⟨hb, hq, hp, ht⟩ := id hl
  rw [exec_request hi, State.request_of_denied hl tag hr ha]
  refine ⟨_, rfl, ?_, rfl⟩
  simp [Replied, State.queuedUp, Port.enqueue, Port.reply, Port.pump, hb, hq, hp, ht, queuedOf]

end

/-! ### The line that a request names (R126) -/

section
variable {s : State} {line : Nat} {i : LineId} {l : Line} {k : Link}

theorem namedLine_eq_some (hi : lineOf line = some i) (hl : s.line i = some l) : s.namedLine line = some (i, l) := by
  simp [State.namedLine, hi, hl]

theorem namedLine_eq_none (h : ∀ i, lineOf line = some i → s.line i = none) : s.namedLine line = none := by
  cases hi : lineOf line with
  | none => simp [State.namedLine, hi]
  | some i => simp [State.namedLine, hi, h i hi]

theorem lineOf_out_of_range (h : line < 1 ∨ 16 < line) : lineOf line = none := dif_neg (by omega)

theorem admits_from_either (hk : k = .desk ∨ k = .console) {n : Nat} (hd : admits .desk n = true)
    (hc : admits .console n = true) : admits k n = true := by
  rcases hk with rfl | rfl
  · exact hd
  · exact hc

theorem groupFrozen_iff (s : State) (g : Slot) :
    s.groupFrozen g = true ↔ (s.groups.get g).state = .moving ∨ (s.groups.get g).state = .moved := isFrozen_iff _

/-! ### release-line (R130) -/

theorem unclaim_of_holder (h : l.holder = some k) :
    l.unclaim = { l with copies := l.copies.set k .copy, claimTimer := none } := by simp [Line.unclaim, h]

theorem handleReleaseLine_unnamed (h : s.namedLine line = none) : handleReleaseLine k line s = refuse .range s := by
  simp [handleReleaseLine, h]

theorem handleReleaseLine_notHeld (h : s.namedLine line = some (i, l)) (hk : l.copies.get k ≠ .edit) :
    handleReleaseLine k line s = refuse .notHeld s := by
  simp [handleReleaseLine, h, hk]

theorem handleReleaseLine_releases (h : s.namedLine line = some (i, l)) (hk : l.copies.get k = .edit)
    (hj : ∀ j, l.copies.get j = .edit → j = k) : handleReleaseLine k line s =
      (s.setLine i (some { l with copies := l.copies.set k .copy, claimTimer := none }), .ok []) := by
  simp [handleReleaseLine, h, hk, unclaim_of_holder (holder_eq_some hk hj), accept]

end

/-- Settles O33: each refusal leaves all but the reply, and a release its line's copies and claim timer. -/
theorem releaseLineReleases : Obligations.ReleaseLineReleases := by
  unfold Obligations.ReleaseLineReleases
  intro tag line s
  refine ⟨fun hs => State.denies_plainly rfl hs rfl (by nofun), fun k hk hl => ?_⟩
  let r : Request := .releaseLine line
  let v := s.queuedUp k tag r
  have hadmits : admits k r.kind = true := admits_from_either hk rfl rfl
  have hrefuses {c : Code} (h : handleReleaseLine k line v = refuse c v) :
      ∃ t, exec (.releaseLine k tag line) s = .next t ∧ Replied t k tag r (.refused c) ∧ OthersIdle s t k
        ∧ { t with ports := s.ports } = s :=
    State.refuses_plainly rfl hl hadmits (by nofun) (by nofun) rfl h
  refine ⟨fun h => ?range, fun i l hi hli => ⟨fun hn => ?notHeld, fun he hj => ?released⟩⟩
  case range =>
    refine hrefuses (handleReleaseLine_unnamed (namedLine_eq_none fun i hi => ?_))
    rcases h with h | h | h
    · exact nomatch (lineOf_out_of_range (.inl h)).symm.trans hi
    · exact nomatch (lineOf_out_of_range (.inr h)).symm.trans hi
    · exact h i hi
  case notHeld => exact hrefuses (handleReleaseLine_notHeld (namedLine_eq_some hi hli) hn)
  case released =>
    obtain ⟨t, hexec, hreplied, hnotices, hothers, hrest⟩ := State.serves_plainly (i := .releaseLine k tag line) (r := r)
      rfl hl hadmits (by nofun) (by nofun) rfl (handleReleaseLine_releases (s := v) (namedLine_eq_some hi hli) he hj)
    exact ⟨t, hexec, hreplied, hothers rfl, (hnotices k).trans (queuedUp_notices k tag r s k).1, hrest⟩

/-! ### read-line and claim-line (R126, R129) -/

section
variable {s : State} {line : Nat} {i : LineId} {l : Line} {k : Link}

theorem handleReadLine_reads (h : s.namedLine line = some (i, l)) :
    let held : CopyState := if l.copies.get k = .none then .copy else l.copies.get k
    handleReadLine k line s = (s.setLine i (some { l with copies := l.copies.set k held }), .ok (lineBody i l held)) := by
  simp only [handleReadLine, h]

theorem handleClaimLine_frozen (h : s.namedLine line = some (i, l)) (hf : s.groupFrozen l.group = true) :
    handleClaimLine k line s = refuse .state s := by
  simp [handleClaimLine, h, hf]

theorem handleClaimLine_grants (h : s.namedLine line = some (i, l)) (hf : ¬ s.groupFrozen l.group = true)
    (hk : l.holder = none ∨ l.holder = some k) :
    handleClaimLine k line s = (s.setLine i (some (l.grant k s.settings.claimExpiry)), .ok (be 2 l.version)) := by
  simp [handleClaimLine, h, hf, hk]

theorem handleClaimLine_preempts (h : s.namedLine line = some (i, l)) (hf : ¬ s.groupFrozen l.group = true) {j : Link}
    (hj : l.holder = some j) (hne : j ≠ .desk) : handleClaimLine .desk line s =
      ((s.setLine i (some ({ l with copies := l.copies.set j .copy }.grant .desk s.settings.claimExpiry))).tell j
        (.claimLost i .preempted), .ok (be 2 l.version)) := by
  simp [handleClaimLine, h, hf, hj, hne]

theorem handleClaimLine_held (h : s.namedLine line = some (i, l)) (hf : ¬ s.groupFrozen l.group = true) {j : Link}
    (hj : l.holder = some j) (hne : j ≠ k) (hk : k ≠ .desk) : handleClaimLine k line s = refuse .held s := by
  simp [handleClaimLine, h, hf, hj, hne, hk]

/-- With no EDIT at the service link, only the link and its counterpart may hold one. -/
theorem holder_of_service_free (hk : k = .desk ∨ k = .console) (hs : l.copies.service ≠ .edit)
    (ho : l.copies.get (if k = .desk then .console else .desk) ≠ .edit) : l.holder = none ∨ l.holder = some k := by
  cases hh : l.holder with
  | none => exact .inl rfl
  | some j =>
    have hj := holder_holds hh
    refine .inr (congrArg some ?_)
    cases j with
    | service => exact absurd hj hs
    | desk =>
      rcases hk with rfl | rfl
      · rfl
      · exact absurd hj ho
    | console =>
      rcases hk with rfl | rfl
      · exact absurd hj ho
      · rfl

theorem holder_desk (h : l.copies.desk = .edit) : l.holder = some .desk := if_pos h

theorem holder_console (hd : l.copies.desk ≠ .edit) (hs : l.copies.service ≠ .edit) (hc : l.copies.console = .edit) :
    l.holder = some .console := by simp [Line.holder, hd, hs, hc]

/-! ### The expiry of a claim (R131) -/

theorem claimExpires_stopped (hl : s.line i = some l) (ht : l.claimTimer = none) : s.claimExpires i = s := by
  simp [State.claimExpires, hl, ht]

theorem claimExpires_drops (hl : s.line i = some l) (ht : l.claimTimer ≠ none) (hk : l.copies.get k = .edit)
    (hj : ∀ j, l.copies.get j = .edit → j = k) : s.claimExpires i =
      (s.setLine i (some { l with copies := l.copies.set k .copy, claimTimer := none })).tell k (.claimExpired i) := by
  have hh := holder_eq_some hk hj
  simp [State.claimExpires, hl, ht, hh, unclaim_of_holder hh]

theorem tell_notices (s : State) (k : Link) (n : Notice) (h : (s.port k).notices.length < 16) :
    ((s.tell k n).port k).notices = (s.port k).notices ++ [⟨(s.port k).lost, n⟩] := by
  rw [State.tell, State.port_modPort, offer_notices, if_pos h]

end

/-- Settles O32: read-line, claim-line by who holds EDIT, and the expiry of a claim timer that runs or not. -/
theorem copiesAndClaims : Obligations.CopiesAndClaims := by
  unfold Obligations.CopiesAndClaims
  refine ⟨?read, ?claim, ?expiry⟩
  case read =>
    intro k tag line i l s hl hk hi hli held
    let v := s.queuedUp k tag (.readLine line)
    obtain ⟨t, hexec, hreplied, -, hothers, hrest⟩ := State.serves_plainly (i := .readLine k tag line) (r := .readLine line)
      rfl hl (admits_from_either hk rfl rfl) (by nofun) (by nofun) rfl
      (handleReadLine_reads (s := v) (namedLine_eq_some hi hli))
    exact ⟨t, hexec, hreplied, hothers rfl, hrest⟩
  case claim =>
    intro k tag line i l s hl hk hi hli hservice frozen other timer
    let r : Request := .claimLine line
    let v := s.queuedUp k tag r
    have hadmits : admits k r.kind = true := admits_from_either hk rfl rfl
    have hnamed : v.namedLine line = some (i, l) := namedLine_eq_some hi hli
    have hfrozen : v.groupFrozen l.group = true ↔ frozen := groupFrozen_iff s l.group
    refine ⟨fun hf => ?frozen, fun hf ho => ?granted, fun hf hd hne hc => ?preempted, fun hf hc hne hd => ?held⟩
    case frozen =>
      obtain ⟨t, hexec, hreplied, -, hrest⟩ := State.refuses_plainly (i := .claimLine k tag line) (r := r) rfl hl hadmits
        (by nofun) (by nofun) rfl (handleClaimLine_frozen hnamed (hfrozen.mpr hf))
      exact ⟨t, hexec, hreplied, hrest⟩
    case granted =>
      obtain ⟨t, hexec, hreplied, -, -, hrest⟩ := State.serves_plainly (i := .claimLine k tag line) (r := r) rfl hl hadmits
        (by nofun) (by nofun) rfl
        (handleClaimLine_grants hnamed (mt hfrozen.mp hf) (holder_of_service_free hk hservice ho))
      exact ⟨t, hexec, hreplied, hrest⟩
    case preempted =>
      subst hd
      obtain ⟨t, hexec, hreplied, hnotices, -, hrest⟩ := State.serves_plainly (i := .claimLine .desk tag line) (r := r) rfl hl
        hadmits (by nofun) (by nofun) rfl
        (handleClaimLine_preempts hnamed (mt hfrozen.mp hf) (holder_console hne hservice hc) (by nofun))
      refine ⟨t, hexec, hreplied, fun hroom => ?_, hrest⟩
      rw [hnotices]
      exact tell_notices _ .console _ hroom
    case held =>
      subst hc
      obtain ⟨t, hexec, hreplied, -, hrest⟩ := State.refuses_plainly (i := .claimLine .console tag line) (r := r) rfl hl hadmits
        (by nofun) (by nofun) rfl
        (handleClaimLine_held hnamed (mt hfrozen.mp hf) (holder_desk hd) (by nofun) (by nofun))
      exact ⟨t, hexec, hreplied, hrest⟩
  case expiry =>
    intro line i l k s hi hli
    have hexec : exec (.claimTimerExpiry line) s = .next (s.claimExpires i).pump := by
      have hnamed : s.claimExpiry line = s.claimExpires i := by simp [State.claimExpiry, hi]
      rw [← hnamed]
      rfl
    refine ⟨fun ht hk hj => ?_, fun ht => ?_⟩
    · rw [claimExpires_drops hli ht hk hj] at hexec
      refine ⟨_, hexec, fun hroom => ?_, rfl⟩
      rw [State.port_pump, (Port.pump_keeps _).2.2.2.1]
      exact tell_notices (s.setLine i _) k _ hroom
    · rw [hexec, claimExpires_stopped hli ht]

end Sys2Proof.Machine
end

section
/-! The line directory (chapter 7): the end of an event in which lines changed, and the corrections that the desk approves or
denies. -/
namespace Sys2Proof.Machine

/-! ### The lines that changed in an event, with an exempt link (R125, R127) -/

/-- A line as the end of the event in which it changed leaves it: its version advanced, and its COPY holders dropped but for
the exempt link (R125, R127). -/
def Line.announced (l : Line) (x : Exempt) (i : LineId) : Line :=
  { l with
    version := wrapInc l.version
    copies := ⟨copyAfter (exempts x .desk i) l.copies.desk, copyAfter (exempts x .service i) l.copies.service,
      copyAfter (exempts x .console i) l.copies.console⟩ }

/-- The copy state that a change by request of link `k` leaves link `j` (R127). -/
def Line.keptAt (l : Line) (k j : Link) : CopyState := if l.copies.get j = .copy ∧ j ≠ k then .none else l.copies.get j

theorem copyAfter_exempts (l : Line) (k j : Link) (i : LineId) :
    copyAfter (exempts (some (k, i)) j i) (l.copies.get j) = l.keptAt k j := by
  have hx : exempts (some (k, i)) j i = decide (j = k) := by simp [exempts, eq_comm]
  unfold copyAfter Line.keptAt
  rw [hx]
  split
  · rename_i h
    by_cases hj : j = k
    · subst hj
      simp [h]
    · simp [h, hj]
  · rename_i h
    rw [if_neg (fun hc => h hc.1)]

theorem announced_exempting (l : Line) (k : Link) (i : LineId) : l.announced (some (k, i)) i =
    { l with version := (l.version + 1) % 65536, copies := ⟨l.keptAt k .desk, l.keptAt k .service, l.keptAt k .console⟩ } := by
  simp only [← copyAfter_exempts l k _ i]
  rfl

section
variable (s : State) (x : Exempt) (i j : LineId)

theorem flushLine_announces : (s.flushLine x i).line j
    = if j = i ∧ s.dirty.getLsbD i.val = true then (s.line i).map (·.announced x i) else s.line j := by
  have told {p : Prop} [Decidable p] (v : State) (k : Link) (c : CopyState) (n : Notice) :
      (if p then v else v.tellHolder k c n).line j = v.line j := by
    unfold State.tellHolder
    split
    · rfl
    · split <;> rfl
  unfold State.flushLine
  by_cases hd : s.dirty.getLsbD i.val = true
  · rw [if_pos hd]
    cases hl : s.line i with
    | some l =>
      refine ((told ..).trans ((told ..).trans (told ..))).trans ((line_setLine ..).trans ?_)
      simp only [hd, and_true]
      rfl
    | none =>
      refine (ite_eq_right_iff.mpr fun h => ?_).symm
      rw [h.1, hl]
      rfl
  · rw [if_neg hd, if_neg (fun h => hd h.2)]

/-- Every line whose change waits is announced once. -/
theorem flushLines_announces : (s.flushLines x).line i
    = if s.dirty.getLsbD i.val = true then (s.line i).map (·.announced x i) else s.line i := by
  have fold (is : List LineId) (hn : is.Nodup) : ∀ t : State, (is.foldl (State.flushLine x) t).line i
      = if i ∈ is ∧ t.dirty.getLsbD i.val = true then (t.line i).map (·.announced x i) else t.line i := by
    induction is with
    | nil => exact fun t => (if_neg (fun h => nomatch h.1)).symm
    | cons j is ih =>
      intro t
      obtain ⟨hj, hn⟩ := List.nodup_cons.mp hn
      rw [List.foldl_cons, ih hn, flushLine_dirty, flushLine_announces]
      by_cases hij : i = j
      · subst hij
        simp [hj]
      · simp [hij]
  exact (fold lineIds (by decide) s).trans (by simp only [mem_lineIds, true_and])

/-- The end of an event writes of the rest ports and feeds alone. -/
theorem sameInside_flushLines : SameInside (s.flushLines x) { s with lines := (s.flushLines x).lines, dirty := 0#16 } := by
  have fold (is : List LineId) : ∀ t : State, ∃ v : State,
      State.inside (is.foldl (State.flushLine x) t) = (State.inside t).withLines v := by
    induction is with
    | nil => exact fun t => ⟨t, rfl⟩
    | cons i is ih =>
      intro t
      obtain ⟨v, hv⟩ := ih (t.flushLine x i)
      obtain ⟨w, hw⟩ := inside_flushLine t x i
      exact ⟨v, by rw [List.foldl_cons, hv, hw]⟩
  obtain ⟨v, hv⟩ := fold lineIds s
  have hflush : State.inside (s.flushLines x) = { (State.inside s).withLines v with dirty := 0#16 } :=
    congrArg (fun t : State => { t with dirty := 0#16 }) hv
  have hgroups : v.groups = s.groups := (congrArg State.groups hflush :).symm.trans (flushLines_groups s x)
  have hlines : v.lines = (s.flushLines x).lines := (congrArg State.lines hflush :).symm
  rw [sameInside_iff_inside, hflush, State.withLines, hgroups, hlines]
  rfl

variable {s i}

/-- When one line changed, the end of the event is that of this line. -/
theorem flushLines_single (hd : ∀ j : LineId, s.dirty.getLsbD j.val = decide (j = i)) :
    s.flushLines x = { s.flushLine x i with dirty := 0#16 } := by
  have still {j : LineId} (h : j ≠ i) {t : State} (ht : t.dirty = s.dirty) : t.flushLine x j = t := by
    rw [State.flushLine, ht, hd, decide_eq_false h]
    rfl
  have past (is : List LineId) (hi : i ∉ is) : ∀ t : State, t.dirty = s.dirty → is.foldl (State.flushLine x) t = t := by
    induction is with
    | nil => exact fun _ _ => rfl
    | cons j is ih =>
      intro t ht
      obtain ⟨hj, hi⟩ := not_or.mp (mt List.mem_cons.mpr hi)
      rw [List.foldl_cons, still (Ne.symm hj) ht, ih hi t ht]
  obtain ⟨before, after, hids⟩ := List.append_of_mem (mem_lineIds i)
  have hn : (before ++ i :: after).Nodup := hids ▸ (by decide : lineIds.Nodup)
  have hbefore : i ∉ before := fun h => (List.nodup_append.mp hn).2.2 i h i List.mem_cons_self rfl
  have hafter : i ∉ after := (List.nodup_cons.mp (List.nodup_append.mp hn).2.1).1
  rw [State.flushLines, hids, List.foldl_append, past before hbefore s rfl, List.foldl_cons,
    past after hafter _ (flushLine_dirty s i x)]

variable {x j}

theorem flushLines_line_single (hd : ∀ j : LineId, s.dirty.getLsbD j.val = decide (j = i)) :
    (s.flushLines x).line i = (s.line i).map (·.announced x i) ∧ ∀ j, j ≠ i → (s.flushLines x).line j = s.line j := by
  refine ⟨?_, fun j hj => ?_⟩
  · rw [flushLines_announces, hd, if_pos (by simp)]
  · rw [flushLines_announces, hd, if_neg (by simp [hj])]

end

/-! ### The change of one line in an event (R109, R137) -/

section
variable {s : State} {i : LineId}

theorem changeLine_dirty_clean (hd : s.dirty = 0#16) {l : Line} (hl : s.line i = some l) (f : Line → Line) (j : LineId) :
    (s.changeLine i f).dirty.getLsbD j.val = decide (j = i) := by
  rw [changeLine_dirty, hd, hl]
  simp

theorem changeLine_rest (s : State) (i : LineId) (f : Line → Line) :
    { s.changeLine i f with lines := s.lines, groups := s.groups, dirty := s.dirty } = s := by
  unfold State.changeLine
  split <;> rfl

/-- A line that changes alone in its event: the line is computed again and announced, and no other line changes. -/
theorem changedAlone_line (hd : s.dirty = 0#16) {l : Line} (hl : s.line i = some l) (f : Line → Line) (x : Exempt) :
    ((s.changeLine i f).flushLines x).line i = some ((computeLine s.handicap (f l)).announced x i)
    ∧ ∀ j, j ≠ i → ((s.changeLine i f).flushLines x).line j = s.line j := by
  obtain ⟨hline, hothers⟩ := flushLines_line_single (x := x) (changeLine_dirty_clean hd hl f)
  refine ⟨?_, fun j hj => ?_⟩
  · rw [hline, changeLine_line, if_pos rfl, hl]
    rfl
  · rw [hothers j hj, changeLine_line, if_neg hj]

/-- The rest, but for the totals of a group. -/
theorem changedAlone_rest (hd : s.dirty = 0#16) (f : Line → Line) (x : Exempt) :
    let u := (s.changeLine i f).flushLines x
    SameInside u { s with lines := u.lines, groups := u.groups } := by
  intro u
  have hgroups : u.groups = (s.changeLine i f).groups := flushLines_groups ..
  have hrest : { s.changeLine i f with lines := u.lines, dirty := 0#16 } = { s with lines := u.lines, groups := u.groups } := by
    rw [hgroups, ← hd]
    exact congrArg (fun t : State => { t with lines := u.lines, groups := (s.changeLine i f).groups })
      (changeLine_rest s i f)
  exact hrest ▸ sameInside_flushLines (s.changeLine i f) x

theorem versionOf_eq {l : Line} (hl : s.line i = some l) : s.versionOf i = l.version := by simp [State.versionOf, hl]

end

section
variable {s : State} (hd : s.dirty = 0#16) {e : Correction} {l : Line} (hl : s.line e.line = some l) (k : Link)
include hd hl

/-- A correction applied changes its ball and advances its line's version once (R137). -/
theorem applyCorrection_line : (s.applyCorrection k e).line e.line =
    some ((computeLine s.handicap (l.modBall e.frame e.ball fun b => b.corrected e.count e.foul)).announced
      (some (k, e.line)) e.line)
    ∧ ∀ j, j ≠ e.line → (s.applyCorrection k e).line j = s.line j := changedAlone_line hd hl _ _

theorem applyCorrection_version : (s.applyCorrection k e).versionOf e.line = (l.version + 1) % 65536 :=
  versionOf_eq (applyCorrection_line hd hl k).1

omit hl in
theorem applyCorrection_rest : SameInside (s.applyCorrection k e)
    { s with lines := (s.applyCorrection k e).lines, groups := (s.applyCorrection k e).groups } := changedAlone_rest hd _ _

end

/-! ### Entries of the queue by their ids (R139, R140) -/

section
variable {queue before later : List Correction} {e : Correction} {id : Nat}

theorem find_id_eq_none (h : ∀ e ∈ queue, e.id ≠ id) : queue.find? (fun e => e.id = id) = none :=
  List.find?_eq_none.mpr fun e he => by simpa using h e he

theorem find_id_eq_some (he : e.id = id) (h : ∀ f ∈ before ++ later, f.id ≠ id) :
    (before ++ e :: later).find? (fun e => e.id = id) = some e := by
  rw [List.find?_append, find_id_eq_none fun f hf => h f (List.mem_append_left _ hf), Option.none_or,
    List.find?_cons_of_pos (by simpa using he)]

theorem filter_id (he : e.id = id) (h : ∀ f ∈ before ++ later, f.id ≠ id) :
    (before ++ e :: later).filter (fun e => e.id ≠ id) = before ++ later := by
  have kept {es : List Correction} (hes : ∀ f ∈ es, f.id ≠ id) : es.filter (fun e => e.id ≠ id) = es :=
    List.filter_eq_self.mpr fun f hf => by simpa using hes f hf
  rw [List.filter_append, List.filter_cons_of_neg (by simpa using he), kept fun f hf => h f (List.mem_append_left _ hf),
    kept fun f hf => h f (List.mem_append_right _ hf)]

end

theorem markCorrection_ports (s : State) (i : LineId) : (s.markCorrection i).ports = s.ports := by
  unfold State.markCorrection
  split <;> rfl

/-- An entry that left the queue, with the mark of the monitor that shows it. -/
def State.taken (s : State) (e : Correction) (id : Nat) : State := (s.dropEntry id).markCorrection e.line

theorem taken_inside (s : State) (e : Correction) (id : Nat) :
    State.inside (s.taken e id) = State.inside { s with corrections := s.corrections.filter fun e => e.id ≠ id } :=
  inside_markCorrection ..

theorem tellDeskConsole_notices {s : State} {k : Link} (hk : k = .desk ∨ k = .console) (n : Notice)
    (h : (s.port k).notices.length < 16) :
    ((s.tellDeskConsole n).port k).notices = (s.port k).notices ++ [⟨(s.port k).lost, n⟩] := by
  unfold State.tellDeskConsole
  rcases hk with rfl | rfl
  · rw [State.tell, State.port_modPort_of_ne _ (by nofun)]
    exact tell_notices s .desk n h
  · have hsame : (s.tell .desk n).port .console = s.port .console := State.port_modPort_of_ne _ (by nofun) _
    rw [← hsame] at h ⊢
    exact tell_notices _ .console n h

/-! ### deny (R140) -/

section
variable {s : State} {id : Nat}

theorem handleDeny_out_of_range (h : id < 1 ∨ 255 < id) : handleDeny id s = refuse .range s := by
  have hout : (!(1 ≤ id && id ≤ 255)) = true := by
    simp
    omega
  exact if_pos hout

theorem handleDeny_unheld (h1 : 1 ≤ id) (h255 : id ≤ 255) (h : ∀ e ∈ s.corrections, e.id ≠ id) :
    handleDeny id s = refuse .state s := by
  simp [handleDeny, h1, h255, find_id_eq_none h]

theorem handleDeny_denies (h1 : 1 ≤ id) (h255 : id ≤ 255) {e : Correction}
    (h : s.corrections.find? (fun e => e.id = id) = some e) :
    handleDeny id s = ((s.taken e id).tellDeskConsole (.correctionResolved e .denied), .ok []) := by
  simp [handleDeny, h1, h255, h, accept, State.taken]

end

/-- Settles O37: a refusal leaves all but the reply, and a denial the queue without the entry and the notice to both links. -/
theorem denyResolves : Obligations.DenyResolves := by
  unfold Obligations.DenyResolves
  intro tag id s
  let r : Request := .deny id
  let v := s.queuedUp .desk tag r
  have hrights (k : Link) (hk : k ≠ .desk) : admits k r.kind = false := by
    cases k with
    | desk => exact absurd rfl hk
    | service => rfl
    | console => rfl
  refine ⟨fun k hk hl => State.denies_plainly rfl hl (hrights k hk) (by nofun), fun hl => ?_⟩
  have hrefuses {c : Code} (h : handleDeny id v = refuse c v) :
      ∃ t, exec (.deny .desk tag id) s = .next t ∧ Replied t .desk tag r (.refused c) ∧ SameInside t s :=
    State.serves_same' rfl hl rfl (by nofun) (by nofun) (fun _ => .inl rfl) ⟨v, h, rfl⟩
  refine ⟨fun h => hrefuses (handleDeny_out_of_range h), fun h1 h255 h => hrefuses (handleDeny_unheld h1 h255 h),
    fun before e later h1 h255 hq he hothers => ?_⟩
  have hfind : v.corrections.find? (fun e => e.id = id) = some e := by
    rw [State.queuedUp_corrections, hq]
    exact find_id_eq_some he hothers
  let u := (v.taken e id).tellDeskConsole (.correctionResolved e .denied)
  obtain ⟨hexec, hreplied⟩ := State.served (i := .deny .desk tag id) (r := r) rfl hl rfl (by nofun) (by nofun)
    (handleDeny_denies (s := v) h1 h255 hfind)
  refine ⟨_, hexec, hreplied, fun k hk hroom => ?notices, ?rest⟩
  case notices =>
    obtain ⟨hnotices, hlost⟩ := queuedUp_notices .desk tag r s k
    have hv : (v.taken e id).port k = v.port k := congrArg (PerLink.get · k) (markCorrection_ports ..)
    rw [answered_notices]
    refine (tellDeskConsole_notices (s := v.taken e id) hk _ ?_).trans ?_
    · rw [hv, hnotices]
      exact hroom
    · rw [hv, hnotices, hlost]
  case rest =>
    have hinside : State.inside u = State.inside { s with corrections := before ++ later } := by
      rw [inside_tellDeskConsole, taken_inside, State.queuedUp_corrections, hq, filter_id he hothers]
      rfl
    rw [sameInside_iff_inside, ← hinside]
    exact (inside_pump _).trans (inside_feedLoads u)

/-! ### approve (R139) -/

section
variable {s : State} {id : Nat} {e : Correction} {l : Line}

theorem handleApprove_unheld (h1 : 1 ≤ id) (h255 : id ≤ 255) (h : ∀ e ∈ s.corrections, e.id ≠ id) :
    handleApprove id s = refuse .state s := by
  simp [handleApprove, h1, h255, find_id_eq_none h]

variable (h1 : 1 ≤ id) (h255 : id ≤ 255) (h : s.corrections.find? (fun e => e.id = id) = some e) (hl : s.line e.line = some l)
include h1 h255 h hl

theorem handleApprove_frozen (hf : s.groupFrozen l.group = true) : handleApprove id s = refuse .state s := by
  simp [handleApprove, h1, h255, h, State.lineTest, hl, hf]

variable (hf : ¬ s.groupFrozen l.group = true)
include hf

theorem handleApprove_stale (hv : e.base ≠ l.version) : handleApprove id s =
    ((s.taken e id).tellDeskConsole (.correctionResolved e .stale), .refused .stale) := by
  simp [handleApprove, h1, h255, h, State.lineTest, hl, hf, hv, State.taken]

theorem handleApprove_applies (hv : e.base = l.version) : handleApprove id s =
    (((s.taken e id).applyCorrection .desk e).tellDeskConsole (.correctionResolved e .applied),
      .ok (be 2 (((s.taken e id).applyCorrection .desk e).versionOf e.line))) := by
  simp [handleApprove, h1, h255, h, State.lineTest, hl, hf, hv, State.taken]

end

/-- Settles O36: an entry that is held and not frozen leaves the queue, and is applied under its line's version alone. -/
theorem approveResolves : Obligations.ApproveResolves := by
  unfold Obligations.ApproveResolves
  intro tag id s hi h1 h255 hd
  let r : Request := .approve id
  let v := s.queuedUp .desk tag r
  have hserved {u : State} {a : Answer} (h : handleApprove id v = (u, a)) :
      exec (.approve .desk tag id) s = .next (u.answered .desk tag r a) :=
    (State.served (r := r) rfl hi rfl (by nofun) (by nofun) h).1
  refine ⟨fun h => hserved (handleApprove_unheld h1 h255 h), ?_⟩
  intro e l he hl frozen rest
  have hfrozen : v.groupFrozen l.group = true ↔ frozen := groupFrozen_iff s l.group
  have htaken : State.inside (v.taken e id) = State.inside { s with corrections := rest } := taken_inside v e id
  refine ⟨fun hf => ?frozen, fun hf hv => ?stale, fun hf hv => ?applied⟩
  case frozen => exact hserved (handleApprove_frozen h1 h255 he hl (hfrozen.mpr hf))
  case stale =>
    refine ⟨_, hserved (handleApprove_stale h1 h255 he hl (mt hfrozen.mp hf) hv), ?_⟩
    rw [sameInside_iff_inside, inside_tellDeskConsole]
    exact htaken
  case applied =>
    let w := v.taken e id
    have hline (i : LineId) : w.line i = s.line i := (congrArg (fun t : State => t.line i) htaken :)
    have hclean : w.dirty = 0#16 := (congrArg State.dirty htaken :).trans hd
    have hhandicap : w.handicap = s.handicap := (congrArg State.handicap htaken :)
    have hwl : w.line e.line = some l := (hline e.line).trans hl
    have hanswer := handleApprove_applies (s := v) h1 h255 he hl (mt hfrozen.mp hf) hv
    rw [applyCorrection_version (s := v.taken e id) hclean hwl] at hanswer
    obtain ⟨hchanged, hothers⟩ := applyCorrection_line hclean hwl .desk
    have hrest := applyCorrection_rest (e := e) hclean .desk
    let u := (w.applyCorrection .desk e).tellDeskConsole (.correctionResolved e .applied)
    have hu : State.inside u = State.inside (w.applyCorrection .desk e) := inside_tellDeskConsole ..
    have hul (i : LineId) : u.line i = (w.applyCorrection .desk e).line i := (congrArg (fun t : State => t.line i) hu :)
    refine ⟨u, hserved hanswer, ?_, ⟨_, (hul e.line).trans hchanged, rfl, ?_⟩, fun j hj => ?_, ?_⟩
    · exact ((congrArg State.corrections hu :).trans (congrArg State.corrections hrest :)).trans
        (congrArg State.corrections htaken :)
    · rw [hhandicap]
      rfl
    · rw [hul, hothers j hj, hline]
    · have hg : u.groups = (w.applyCorrection .desk e).groups := (congrArg State.groups hu :)
      have hls : u.lines = (w.applyCorrection .desk e).lines := (congrArg State.lines hu :)
      rw [sameInside_iff_inside, hu, (sameInside_iff_inside _ _).mp hrest, ← hg, ← hls]
      exact (congrArg (fun t : State => { t with lines := u.lines, groups := u.groups }) htaken :)

end Sys2Proof.Machine
end

section
/-! The line directory (chapter 7): the checks of correct-ball, and what a correction that is applied makes of the groups and of
the monitors. -/
namespace Sys2Proof.Machine

/-! ### The monitors that show a group whose line changed (R164, R169) -/

/-- The totals of a group are nothing that the monitors choose their groups by. -/
theorem shown_congr {s t : State} (hl : t.lanes = s.lanes) (hg : ∀ g, (t.groups.get g).bare = (s.groups.get g).bare) (j : Lane) :
    t.shownLower j = s.shownLower j ∧ t.shownUpper j = s.shownUpper j := by
  have hstate (g : Slot) : (t.groups.get g).state = (s.groups.get g).state := (congrArg Group.state (hg g) :)
  have hhome (g : Slot) : (t.groups.get g).home = (s.groups.get g).home := (congrArg Group.home (hg g) :)
  have hmode (g : Slot) : (t.groups.get g).playMode = (s.groups.get g).playMode := (congrArg Group.playMode (hg g) :)
  have homed : t.homeGroup j = s.homeGroup j := by
    unfold State.homeGroup Group.present
    rw [show t.groups.g1.state = s.groups.g1.state from hstate .g1, show t.groups.g1.home = s.groups.g1.home from hhome .g1,
      show t.groups.g2.state = s.groups.g2.state from hstate .g2, show t.groups.g2.home = s.groups.g2.home from hhome .g2]
  have hlower : t.shownLower j = s.shownLower j := by rw [State.shownLower, State.shownLower, hl, homed]
  refine ⟨hlower, ?_⟩
  unfold State.shownUpper Group.present
  rw [hlower]
  simp only [hmode, hstate]

theorem markShowing_feed (s before : State) (g : Slot) (j : Lane) : (s.markShowing before g).feeds.get j =
    (s.feeds.get j).mark s.configured (decide (s.shownLower j = some g) || decide (before.shownLower j = some g))
      (decide (s.shownUpper j = some g) || decide (before.shownUpper j = some g)) := by
  cases j <;> rfl

theorem mark_but_marks (f : Feed) (configured lower upper : Bool) :
    { f.mark configured lower upper with markLower := f.markLower, markUpper := f.markUpper } = f := by
  unfold Feed.mark
  split <;> rfl

theorem mark_marks {f : Feed} {configured : Bool} (hc : configured = true) (hb : f.banner = .none) (lower upper : Bool) :
    (f.mark configured lower upper).markLower = (f.markLower || lower)
      ∧ (f.mark configured lower upper).markUpper = (f.markUpper || upper) := by
  simp [Feed.mark, hc, hb]

/-- The announcement of a line marks the halves that show its group. -/
theorem flushLine_feed {s : State} {i : LineId} {l : Line} (hd : s.dirty.getLsbD i.val = true) (hl : s.line i = some l) (x : Exempt)
    (j : Lane) : (s.flushLine x i).feeds.get j = (s.feeds.get j).mark s.configured (decide (s.shownLower j = some l.group))
      (decide (s.shownUpper j = some l.group)) := by
  have told {p : Prop} [Decidable p] (v : State) (k : Link) (c : CopyState) (n : Notice) (ports : PerLink Port) :
      { (if p then v else v.tellHolder k c n) with ports := ports } = { v with ports := ports } := by
    unfold State.tellHolder
    split
    · rfl
    · split <;> rfl
  have shown (v w : State) (hw : { w with ports := v.ports } = v) (g : Slot) : (w.markShowing v g).feeds.get j =
      (v.feeds.get j).mark v.configured (decide (v.shownLower j = some g)) (decide (v.shownUpper j = some g)) := by
    have hfeeds : w.feeds = v.feeds := (congrArg State.feeds hw :)
    have hconfigured : w.configured = v.configured := (congrArg State.configured hw :)
    have hlower : w.shownLower j = v.shownLower j := (congrArg (fun u : State => u.shownLower j) hw :)
    have hupper : w.shownUpper j = v.shownUpper j := (congrArg (fun u : State => u.shownUpper j) hw :)
    rw [markShowing_feed, hfeeds, hconfigured, hlower, hupper, Bool.or_self, Bool.or_self]
  unfold State.flushLine
  rw [if_pos hd, hl]
  exact shown (s.setLine i (some (l.announced x i))) _ ((told ..).trans ((told ..).trans (told ..))) l.group

/-! ### A correction applied: its group and the monitors (R119, R137, R169) -/

/-- A line without its version and its copies, which no total of its group reads. -/
def Line.scored (l : Line) : Line := { l with version := 0, copies := ⟨.none, .none, .none⟩ }

theorem takingPart_scored (ls : List Line) : takingPart (ls.map Line.scored) = (takingPart ls).map Line.scored :=
  List.filter_map ..

/-- The totals of a group by the figures of its lines alone (R119). -/
theorem totals_scored (ls : List Line) :
    groupRunningOf (ls.map Line.scored) = groupRunningOf ls ∧ groupTotalOf (ls.map Line.scored) = groupTotalOf ls := by
  refine ⟨?_, ?_⟩
  · unfold groupRunningOf
    rw [takingPart_scored]
    simp only [List.isEmpty_map, List.map_map]
    rfl
  · unfold groupTotalOf
    rw [takingPart_scored]
    simp only [List.isEmpty_map, List.any_map, List.filterMap_map]
    rfl

/-- States whose lines differ in versions and copies form the same totals. -/
theorem refreshTotals_congr {s t : State} (hg : t.groups = s.groups)
    (hl : ∀ i, (t.line i).map Line.scored = (s.line i).map Line.scored) (g : Slot) :
    (t.refreshTotals g).groups = (s.refreshTotals g).groups := by
  have hlines (order : List LineId) : (order.filterMap t.line).map Line.scored = (order.filterMap s.line).map Line.scored := by
    rw [List.map_filterMap, List.map_filterMap]
    exact List.filterMap_congr fun i _ => hl i
  have hrunning (order : List LineId) : groupRunningOf (order.filterMap t.line) = groupRunningOf (order.filterMap s.line) := by
    rw [← (totals_scored _).1, hlines, (totals_scored _).1]
  have htotal (order : List LineId) : groupTotalOf (order.filterMap t.line) = groupTotalOf (order.filterMap s.line) := by
    rw [← (totals_scored _).2, hlines, (totals_scored _).2]
  simp only [State.refreshTotals, State.modGroup_groups, hg, hrunning, htotal]

section
variable {s : State} (hd : s.dirty = 0#16) {i : LineId} {l : Line} (hl : s.line i = some l) {f : Line → Line}
  (hf : (f l).group = l.group) (x : Exempt)
include hd hl hf

omit hf in
/-- The group of a line that changes alone has the totals of the lines as they are then. -/
theorem changedAlone_groups : ((s.changeLine i f).flushLines x).groups
    = (State.refreshTotals { s with lines := ((s.changeLine i f).flushLines x).lines } l.group).groups := by
  have hchanged : (s.changeLine i f).groups
      = ((s.setLine i (some (computeLine s.handicap (f l)))).refreshTotals l.group).groups := by
    simp only [State.changeLine, hl]
    rfl
  obtain ⟨hline, hothers⟩ := changedAlone_line hd hl f x
  rw [flushLines_groups, hchanged]
  refine (refreshTotals_congr (s := s.setLine i (some (computeLine s.handicap (f l))))
    (t := { s with lines := ((s.changeLine i f).flushLines x).lines }) rfl (fun j => ?_) _).symm
  by_cases hj : j = i
  · subst hj
    refine (congrArg (Option.map Line.scored) hline).trans ?_
    rw [line_setLine, if_pos rfl]
    rfl
  · refine (congrArg (Option.map Line.scored) (hothers j hj)).trans ?_
    rw [line_setLine, if_neg hj]

/-- The monitors that show that group are marked. -/
theorem changedAlone_feed (j : Lane) : ((s.changeLine i f).flushLines x).feeds.get j =
    (s.feeds.get j).mark s.configured (decide (s.shownLower j = some l.group)) (decide (s.shownUpper j = some l.group)) := by
  have hline : (s.changeLine i f).line i = some (computeLine s.handicap (f l)) := by
    rw [changeLine_line, if_pos rfl, hl]
    rfl
  obtain ⟨hlower, hupper⟩ := shown_congr (changeLine_lanes s i f) (changeLine_bare s i f) j
  have hfeeds : (s.changeLine i f).feeds = s.feeds := (congrArg State.feeds (changeLine_rest s i f) :)
  have hconfigured : (s.changeLine i f).configured = s.configured := (congrArg State.configured (changeLine_rest s i f) :)
  have hdirty := changeLine_dirty_clean hd hl f
  rw [flushLines_single x hdirty]
  refine (flushLine_feed (by rw [hdirty]; simp) hline x j).trans ?_
  rw [hfeeds, hconfigured, hlower, hupper, show (computeLine s.handicap (f l)).group = l.group from hf]

end

/-! ### The shape and the ranges of a frame (R136, R110, R111) -/

section
variable (balls : List BallRecord)

/-- The frame opens with a strike (R110). -/
def Struck : Prop := ∃ b1 rest, balls = b1 :: rest ∧ b1.count = 10 ∧ b1.foul = false

/-- The first two balls of frame 10 earn a third (R111). -/
def EarnsThird : Prop := ∃ b1 b2 rest, balls = b1 :: b2 :: rest ∧ ((b1.count = 10 ∧ b1.foul = false) ∨ b1.count + b2.count = 10)

/-- The balls of a frame within the ranges of their positions (R110, R111). -/
def InRanges (number : Nat) : Prop :=
  (∀ b ∈ balls, b.count ≤ 10)
  ∧ (number < 10 → balls.length ≤ 2 ∧ (2 ≤ balls.length → ¬ Struck balls))
  ∧ (number = 10 → balls.length ≤ 3 ∧ (3 ≤ balls.length → EarnsThird balls))
  ∧ (∀ b1 b2 rest, balls = b1 :: b2 :: rest → ¬ Struck balls → b1.count + b2.count ≤ 10)
  ∧ (∀ b1 b2 b3 rest, balls = b1 :: b2 :: b3 :: rest → Struck balls → b2.count < 10 → b2.count + b3.count ≤ 10)

variable {balls}

theorem struck_cons_iff {b1 : BallRecord} {rest : List BallRecord} : Struck (b1 :: rest) ↔ isStrike b1 = true := by
  rw [isStrike_iff]
  refine ⟨fun ⟨_, _, e, h⟩ => ?_, fun h => ⟨b1, rest, rfl, h⟩⟩
  obtain ⟨rfl, rfl⟩ := List.cons.inj e
  exact h

theorem not_struck_nil : ¬ Struck [] := fun ⟨_, _, e, _⟩ => nomatch e

theorem earnsThird_cons_iff {b1 b2 : BallRecord} {rest : List BallRecord} :
    EarnsThird (b1 :: b2 :: rest) ↔ earnsThird b1 b2 = true := by
  rw [earnsThird_iff]
  refine ⟨fun ⟨_, _, _, e, h⟩ => ?_, fun h => ⟨b1, b2, rest, rfl, h⟩⟩
  simp only [List.cons.injEq] at e
  obtain ⟨rfl, rfl, rfl⟩ := e
  exact h

/-- The shape of a frame 1 to 9 is whether it opens with a strike. -/
theorem frameShape_early {n : Nat} (hn : n < 10) : frameShape n balls = true ↔ Struck balls := by
  match balls with
  | [] => exact iff_of_false (by nofun) not_struck_nil
  | [b1] => exact struck_cons_iff.symm
  | b1 :: b2 :: rest =>
    rw [struck_cons_iff]
    simp [frameShape, hn]

/-- That of frame 10, which has two balls when it is complete, is whether it earns a third. -/
theorem frameShape_tenth (hlen : 2 ≤ balls.length) : frameShape 10 balls = true ↔ EarnsThird balls := by
  match balls, hlen with
  | b1 :: b2 :: rest, _ => exact earnsThird_cons_iff.symm

theorem forall_two_iff {b1 b2 : BallRecord} {tail : List BallRecord} {P : BallRecord → BallRecord → Prop} :
    (∀ a b rest, b1 :: b2 :: tail = a :: b :: rest → P a b) ↔ P b1 b2 := by
  refine ⟨fun h => h _ _ _ rfl, fun h a b rest e => ?_⟩
  simp only [List.cons.injEq] at e
  obtain ⟨rfl, rfl, -⟩ := e
  exact h

theorem forall_three_iff {b1 b2 b3 : BallRecord} {tail : List BallRecord} {P : BallRecord → BallRecord → Prop} :
    (∀ a b c rest, b1 :: b2 :: b3 :: tail = a :: b :: c :: rest → P b c) ↔ P b2 b3 := by
  refine ⟨fun h => h _ _ _ _ rfl, fun h a b c rest e => ?_⟩
  simp only [List.cons.injEq] at e
  obtain ⟨-, rfl, rfl, -⟩ := e
  exact h

/-- The ranges by the number of balls: a fourth ball is in none, and a third one in frame 10 alone. -/
theorem rangesOk_iff {n : Nat} (hn : n ≤ 10) : rangesOk n balls = true ↔ InRanges balls n := by
  match balls with
  | [] => simp [rangesOk, InRanges]
  | [b1] => simp [rangesOk, InRanges]
  | [b1, b2] =>
    rw [InRanges, forall_two_iff, struck_cons_iff]
    rcases Nat.lt_or_eq_of_le hn with h | rfl <;> cases hs : isStrike b1
    · simp [rangesOk, h, h.ne, hs]
      omega
    · simp [rangesOk, h, hs]
    · simp [rangesOk, hs, and_assoc]
    · simp [rangesOk, hs]
  | [b1, b2, b3] =>
    rw [InRanges, forall_two_iff, struck_cons_iff, earnsThird_cons_iff, forall_three_iff]
    rcases Nat.lt_or_eq_of_le hn with h | rfl
    · simp [rangesOk, h, h.ne]
    · cases hs : isStrike b1
      · simp [rangesOk, hs]
        tauto
      · simp [rangesOk, hs, earnsThird]
        omega
  | b1 :: b2 :: b3 :: b4 :: rest =>
    rcases Nat.lt_or_eq_of_le hn with h | rfl
    · simp [rangesOk, InRanges, h]
    · simp [rangesOk, InRanges]

end

/-! ### The checks of a correction (R135) -/

/-- The balls of a frame with one of them replaced. -/
theorem mapIdx_at {balls : List BallRecord} {n : Nat} (hn : 1 ≤ n) {b : BallRecord} (hb : balls[n - 1]? = some b)
    (f : BallRecord → BallRecord) : balls.mapIdx (fun m x => if m + 1 = n then f x else x) = balls.set (n - 1) (f b) := by
  refine List.ext_getElem? fun m => ?_
  rw [List.getElem?_mapIdx, List.getElem?_set]
  by_cases hm : n - 1 = m
  · subst hm
    obtain ⟨hlt, _⟩ := List.getElem?_eq_some_iff.mp hb
    rw [hb, if_pos rfl, if_pos hlt, Option.map_some, if_pos (by omega)]
  · rw [if_neg hm]
    cases balls[m]? with
    | none => rfl
    | some x => rw [Option.map_some, if_neg (by omega)]

section
variable {s : State} {l : Line} {e : Correction}

theorem correctionRefused_frozen (h : s.groupFrozen l.group = true) : s.correctionRefused l e = some .state := if_pos h

theorem correctionRefused_stale (h : ¬ s.groupFrozen l.group = true) (hg : (s.groups.get l.group).game ≠ some e.game) :
    s.correctionRefused l e = some .stale := (if_neg h).trans (if_pos hg)

variable (h : ¬ s.groupFrozen l.group = true) (hg : (s.groups.get l.group).game = some e.game)
include h hg

theorem correctionRefused_frameless (hf : l.frameAt e.frame = none) : s.correctionRefused l e = some .state := by
  simp [State.correctionRefused, h, hg, hf]

variable {f : FrameRecord} (hf : l.frameAt e.frame = some f)
include hf

theorem correctionRefused_ball_absent (hb : f.balls[e.ball - 1]? = none) : s.correctionRefused l e = some .state := by
  simp [State.correctionRefused, h, hg, hf, hb]

variable {b : BallRecord} (he : 1 ≤ e.ball) (hb : f.balls[e.ball - 1]? = some b)
include he hb

/-- The checks on a ball that the line holds, in the order of R135. -/
theorem correctionRefused_ball : s.correctionRefused l e =
    let after := f.balls.set (e.ball - 1) (b.corrected e.count e.foul)
    if ¬ (b.state = .final ∧ frameComplete f = true) then some .state
    else if frameShape f.number after ≠ frameShape f.number f.balls then some .shape
    else if ¬ rangesOk f.number after = true then some .shape
    else if ¬ (∀ up, b.pinsUp = some up → (b.corrected e.count e.foul).count ≤ pinCount up) then some .range
    else none := by
  simp only [State.correctionRefused, h, hg, hf, hb, mapIdx_at he hb fun x => x.corrected e.count e.foul, ne_eq,
    not_true_eq_false, Bool.false_eq_true, if_false]
  refine if_congr ?sound rfl (if_congr Iff.rfl rfl (if_congr ?ranges rfl (if_congr ?fits rfl rfl)))
  case sound => simp [isFinal, imp_iff_not_or]
  case ranges => simp
  case fits => cases b.pinsUp <;> simp

end

/-- The frame of a number is the first one that has it. -/
theorem frameAt_first {l : Line} {before later : List FrameRecord} {f : FrameRecord} {n : Nat}
    (hl : l.frames = before ++ f :: later) (hb : ∀ h ∈ before, h.number ≠ n) (hf : f.number = n) : l.frameAt n = some f := by
  rw [Line.frameAt, hl, List.find?_append, List.find?_eq_none.mpr fun h hh => by simpa using hb h hh, Option.none_or,
    List.find?_cons_of_pos (by simpa using hf)]

theorem frameAt_none {l : Line} {n : Nat} (h : ∀ f ∈ l.frames, f.number ≠ n) : l.frameAt n = none :=
  List.find?_eq_none.mpr fun f hf => by simpa using h f hf

/-- A complete frame 10 that is not missed holds two balls at least. -/
theorem two_of_complete_tenth {f : FrameRecord} (hm : f.missed = false) (hn : f.number = 10) (hc : frameComplete f = true) :
    2 ≤ f.balls.length := by
  rw [frameComplete_bowled hm, hn, ballsComplete_tenth] at hc
  obtain ⟨b1, b2, rest, hballs, -⟩ := hc
  have hle := List.length_filter_le (fun b : BallRecord => decide (b.state = .final)) f.balls
  rw [hballs] at hle
  exact le_trans (by simp) hle

/-- What R136 asks of the frame's shape, by the number of the frame. -/
theorem frameShape_kept_iff {f : FrameRecord} {after : List BallRecord} (hm : f.missed = false) (hn : f.number ≤ 10)
    (hc : frameComplete f = true) (hlen : after.length = f.balls.length) :
    frameShape f.number after = frameShape f.number f.balls ↔
      (f.number < 10 → (Struck f.balls ↔ Struck after)) ∧ (f.number = 10 → (EarnsThird f.balls ↔ EarnsThird after)) := by
  rw [Bool.eq_iff_iff]
  rcases Nat.lt_or_eq_of_le hn with h | h
  · rw [frameShape_early h, frameShape_early h]
    exact ⟨fun hs => ⟨fun _ => hs.symm, fun e => absurd e h.ne⟩, fun hs => (hs.1 h).symm⟩
  · have htwo := two_of_complete_tenth hm h hc
    rw [h, frameShape_tenth htwo, frameShape_tenth (hlen ▸ htwo)]
    exact ⟨fun hs => ⟨fun e => absurd e (Nat.lt_irrefl 10), fun _ => hs.symm⟩, fun hs => (hs.2 rfl).symm⟩

/-- The checks of R135 and R136 on a ball, each alone: the first that fails decides. -/
theorem correctionRefused_cases {s : State} {l : Line} {e : Correction} {f : FrameRecord} {b : BallRecord}
    (h : ¬ s.groupFrozen l.group = true) (hg : (s.groups.get l.group).game = some e.game) (hf : l.frameAt e.frame = some f)
    (hn : f.number = e.frame) (hm : f.missed = false) (he : 1 ≤ e.ball) (hb : f.balls[e.ball - 1]? = some b) :
    let refusal := s.correctionRefused l e
    let number := if e.foul then 0 else e.count
    let after := f.balls.set (e.ball - 1) { b with count := number, foul := e.foul, source := .corrected }
    let kept := (e.frame < 10 → (Struck f.balls ↔ Struck after)) ∧ (e.frame = 10 → (EarnsThird f.balls ↔ EarnsThird after))
    let sound := b.state = .final ∧ frameComplete f = true
    let fits := ∀ up, b.pinsUp = some up → number ≤ pinCount up
    (¬ sound → refusal = some .state)
    ∧ (e.frame ≤ 10 → sound → ¬ kept → refusal = some .shape)
    ∧ (e.frame ≤ 10 → sound → kept → ¬ InRanges after e.frame → refusal = some .shape)
    ∧ (e.frame ≤ 10 → sound → kept → InRanges after e.frame → ¬ fits → refusal = some .range)
    ∧ (e.frame ≤ 10 → sound → kept → InRanges after e.frame → fits → refusal = none) := by
  intro refusal number after kept sound fits
  have hrefusal : refusal = if ¬ sound then some .state
      else if frameShape f.number after ≠ frameShape f.number f.balls then some .shape
      else if ¬ rangesOk f.number after = true then some .shape
      else if ¬ fits then some .range else none := correctionRefused_ball h hg hf he hb
  have hkept (hle : e.frame ≤ 10) (hs : sound) : frameShape f.number after = frameShape f.number f.balls ↔ kept := by
    rw [frameShape_kept_iff hm (hn ▸ hle) hs.2 (by simp [after]), hn]
  have hranges (hle : e.frame ≤ 10) : rangesOk f.number after = true ↔ InRanges after e.frame := by rw [hn, rangesOk_iff hle]
  rw [hrefusal]
  refine ⟨fun hs => if_pos hs, fun hle hs hk => ?_, fun hle hs hk hr => ?_, fun hle hs hk hr hfit => ?_,
    fun hle hs hk hr hfit => ?_⟩
  · rw [if_neg (not_not_intro hs), if_pos (mt (hkept hle hs).mp hk)]
  · rw [if_neg (not_not_intro hs), if_neg (not_not_intro ((hkept hle hs).mpr hk)), if_pos (mt (hranges hle).mp hr)]
  · rw [if_neg (not_not_intro hs), if_neg (not_not_intro ((hkept hle hs).mpr hk)),
      if_neg (not_not_intro ((hranges hle).mpr hr)), if_pos hfit]
  · rw [if_neg (not_not_intro hs), if_neg (not_not_intro ((hkept hle hs).mpr hk)),
      if_neg (not_not_intro ((hranges hle).mpr hr)), if_neg (not_not_intro hfit)]

end Sys2Proof.Machine
end

section
/-! The line directory (chapter 7): correct-ball, applied at once or in the queue. -/
namespace Sys2Proof.Machine

/-! ### What the request comes to (R135 to R138) -/

/-- Every value of a correction within its range (R135). -/
def CorrectionInRange (game frame ball count : Nat) : Prop :=
  1 ≤ game ∧ game ≤ 255 ∧ 1 ≤ frame ∧ frame ≤ 10 ∧ 1 ≤ ball ∧ ball ≤ 3 ∧ count ≤ 10

/-- Two entries are of the same ball. -/
theorem sameBall_iff (o e : Correction) : sameBall o e = true ↔
    o.line = e.line ∧ o.game = e.game ∧ o.frame = e.frame ∧ o.ball = e.ball := by
  simp [sameBall, and_assoc]

section
variable {k : Link} {line game frame ball count : Nat} {foul : Bool} {base : Nat} {s : State}

theorem handleCorrectBall_out_of_range
    (h : s.namedLine line = none ∨ ¬ CorrectionInRange game frame ball count) :
    handleCorrectBall k line game frame ball count foul base s = refuse .range s := by
  unfold handleCorrectBall
  cases hn : s.namedLine line with
  | none => rfl
  | some named =>
    refine if_pos ?_
    have hr := h.resolve_left (by simp [hn])
    rw [CorrectionInRange] at hr
    simp only [Bool.not_eq_true', Bool.and_eq_false_iff, decide_eq_false_iff_not]
    tauto

variable {i : LineId} {l : Line} (hn : s.namedLine line = some (i, l)) (hr : CorrectionInRange game frame ball count)
include hn hr

theorem handleCorrectBall_refused {c : Code}
    (hc : s.correctionRefused l ⟨0, i, game, frame, ball, count, foul, base⟩ = some c) :
    handleCorrectBall k line game frame ball count foul base s = refuse c s := by
  obtain ⟨hg, hg', hf, hf', hb, hb', hcount⟩ := hr
  simp [handleCorrectBall, hn, hg, hg', hf, hf', hb, hb', hcount, hc]

variable (hc : s.correctionRefused l ⟨0, i, game, frame, ball, count, foul, base⟩ = none)
include hc

theorem handleCorrectBall_applies (ha : s.appliesAtOnce k l = true) (hv : base = l.version) :
    handleCorrectBall k line game frame ball count foul base s =
      (s.applyCorrection k ⟨0, i, game, frame, ball, count, foul, base⟩,
        .ok (be 1 0 ++ be 2 ((s.applyCorrection k ⟨0, i, game, frame, ball, count, foul, base⟩).versionOf i))) := by
  obtain ⟨hg, hg', hf, hf', hb, hb', hcount⟩ := hr
  subst hv
  simp [handleCorrectBall, hn, hg, hg', hf, hf', hb, hb', hcount, hc, ha]

theorem handleCorrectBall_stale (ha : s.appliesAtOnce k l = true) (hv : base ≠ l.version) :
    handleCorrectBall k line game frame ball count foul base s = refuse .stale s := by
  obtain ⟨hg, hg', hf, hf', hb, hb', hcount⟩ := hr
  simp [handleCorrectBall, hn, hg, hg', hf, hf', hb, hb', hcount, hc, ha, hv]

theorem handleCorrectBall_queues (ha : s.appliesAtOnce k l = false) :
    handleCorrectBall k line game frame ball count foul base s
      = s.queueCorrection ⟨0, i, game, frame, ball, count, foul, base⟩ := by
  obtain ⟨hg, hg', hf, hf', hb, hb', hcount⟩ := hr
  simp [handleCorrectBall, hn, hg, hg', hf, hf', hb, hb', hcount, hc, ha]

end

theorem appliesAtOnce_iff (s : State) (k : Link) (l : Line) : s.appliesAtOnce k l = true ↔
    k = .desk ∨ ((s.sessions.get (s.groups.get l.group).home).state ≠ .closed
      ∧ (s.sessions.get (s.groups.get l.group).home).league = false) := by
  simp [State.appliesAtOnce]

/-! ### The queue (R138) -/

section
variable {s : State} {e : Correction}

theorem queueCorrection_new (h : ∀ o ∈ s.corrections, ¬ sameBall o e = true) : s.queueCorrection e = s.queueNew e := by
  have hnone : s.corrections.find? (fun o => sameBall o e) = none := List.find?_eq_none.mpr h
  simp only [State.queueCorrection, hnone]

theorem queueNew_full (h : 8 ≤ s.corrections.length) : s.queueNew e = refuse .full s := if_neg (Nat.not_lt.mpr h)

/-- A new entry joins the queue's end with the next free id. -/
theorem queueNew_joins (h : s.corrections.length < 8) :
    let id := freeEntry s.corrections 8 s.nextEntry
    ∃ u, s.queueNew e = (u, .ok (be 1 1 ++ be 1 id)) ∧ SameInside u { s with
      corrections := s.corrections ++ [{ e with id := id }], nextEntry := if id < 255 then id + 1 else 1 } := by
  refine ⟨_, if_pos h, ?_⟩
  rw [sameInside_iff_inside, inside_markCorrection, inside_tell]

/-- The entry of a ball is overwritten in place, and keeps its id. -/
theorem queueCorrection_overwrites {before later : List Correction} {old : Correction}
    (hq : s.corrections = before ++ old :: later) (ho : sameBall old e = true)
    (h : ∀ o ∈ before ++ later, ¬ sameBall o e = true) :
    ∃ u, s.queueCorrection e = (u, .ok (be 1 1 ++ be 1 old.id)) ∧ SameInside u { s with
      corrections := before ++ old.overwrite e :: later } := by
  have hfind : s.corrections.find? (fun o => sameBall o e) = some old := by
    rw [hq, List.find?_append, List.find?_eq_none.mpr fun o hm => h o (List.mem_append_left _ hm), Option.none_or]
    exact List.find?_cons_of_pos (p := fun o => sameBall o e) ho
  have kept {es : List Correction} (hes : ∀ o ∈ es, ¬ sameBall o e = true) :
      es.map (fun o => if sameBall o e then o.overwrite e else o) = es :=
    (List.map_congr_left fun o hm => if_neg (hes o hm)).trans (List.map_id' es)
  have hmap : s.corrections.map (fun o => if sameBall o e then o.overwrite e else o) = before ++ old.overwrite e :: later := by
    rw [hq, List.map_append, List.map_cons, if_pos ho, kept fun o hm => h o (List.mem_append_left _ hm),
      kept fun o hm => h o (List.mem_append_right _ hm)]
  refine ⟨_, by simp only [State.queueCorrection, hfind]; rfl, ?_⟩
  rw [sameInside_iff_inside, inside_markCorrection, inside_tell, hmap]

end

/-- Settles O35: the correction applied at once, the queue, the checks one by one, and what a failed check leaves. -/
theorem correctionsApplyOrQueue : Obligations.CorrectionsApplyOrQueue := by
  unfold Obligations.CorrectionsApplyOrQueue
  have hserved {k : Link} {tag : Tag} {line game frame ball count : Nat} {foul : Bool} {base : Nat} {s u : State} {a : Answer}
      (hi : LinkIdle s k) (hk : k = .desk ∨ k = .console)
      (h : handleCorrectBall k line game frame ball count foul base
        (s.queuedUp k tag (.correctBall line game frame ball count foul base)) = (u, a)) :
      exec (.correctBall k tag line game frame ball count foul base) s
        = .next (u.answered k tag (.correctBall line game frame ball count foul base) a) :=
    (State.served (r := .correctBall line game frame ball count foul base) rfl hi (admits_from_either hk rfl rfl) (by nofun)
      (by nofun) h).1
  refine ⟨?applied, ?queued, ?checks, ?refused⟩
  case applied =>
    intro k tag line game frame ball count foul base i l s hi hline hl hg hg' hf hf' hb hb' hcount hd hnone hmay r keep
    let v := s.queuedUp k tag r
    let e : Correction := ⟨0, i, game, frame, ball, count, foul, base⟩
    have hnamed : v.namedLine line = some (i, l) := namedLine_eq_some hline hl
    have hk : k = .desk ∨ k = .console := hmay.imp_right (·.1)
    have hat : v.appliesAtOnce k l = true := (appliesAtOnce_iff v k l).mpr (hmay.imp_right (·.2))
    have hr : CorrectionInRange game frame ball count := ⟨hg, hg', hf, hf', hb, hb', hcount⟩
    refine ⟨fun hv => ⟨v.applyCorrection k e, ?_, ?_, ?_, ?_, fun j => ⟨?_, fun hc hbanner => ?_⟩, ?_, ?_⟩, fun hv =>
      hserved hi hk (handleCorrectBall_stale hnamed hr hnone hat hv)⟩
    · have hanswer := handleCorrectBall_applies hnamed hr hnone hat hv
      rw [applyCorrection_version (s := v) (e := e) hd hl] at hanswer
      exact hserved hi hk hanswer
    · exact (applyCorrection_line (s := v) (e := e) hd hl k).1.trans (congrArg some (announced_exempting _ k i))
    · exact (applyCorrection_line (s := v) (e := e) hd hl k).2
    · exact changedAlone_groups (s := v) hd hl _
    · rw [show (v.applyCorrection k e).feeds.get j = _ from changedAlone_feed (s := v) hd hl rfl _ j]
      exact mark_but_marks ..
    · rw [show (v.applyCorrection k e).feeds.get j = _ from changedAlone_feed (s := v) hd hl rfl _ j]
      obtain ⟨hlower, hupper⟩ := mark_marks (f := v.feeds.get j) (configured := v.configured) hc hbanner
        (decide (v.shownLower j = some l.group)) (decide (v.shownUpper j = some l.group))
      rw [hlower, hupper, Bool.or_eq_true, Bool.or_eq_true, decide_eq_true_iff, decide_eq_true_iff]
      exact ⟨Iff.rfl, Iff.rfl⟩
    · exact (congrArg State.corrections (applyCorrection_rest (s := v) (e := e) hd k) :)
    · exact (applyCorrection_rest (s := v) (e := e) hd k).ports s.ports
  case queued =>
    intro tag line game frame ball count foul base i l s hi hline hl hg hg' hf hf' hb hb' hcount hnone hmust r same id
    let v := s.queuedUp .console tag r
    let e : Correction := ⟨0, i, game, frame, ball, count, foul, base⟩
    have hat : v.appliesAtOnce .console l = false := by
      rw [← Bool.not_eq_true, appliesAtOnce_iff]
      rintro (h | ⟨h, h'⟩)
      · cases h
      · rcases hmust with hm | hm
        · exact h hm
        · exact nomatch h'.symm.trans hm
    have hsame (o : Correction) : sameBall o e = true ↔ same o := sameBall_iff o e
    have hqueues : handleCorrectBall .console line game frame ball count foul base v = v.queueCorrection e :=
      handleCorrectBall_queues (namedLine_eq_some hline hl) ⟨hg, hg', hf, hf', hb, hb', hcount⟩ hnone hat
    refine ⟨fun hnew hroom => ?_, fun hnew hfull => ?_, fun before old later hq ho hothers => ?_⟩
    · obtain ⟨u, hu, hrest⟩ := queueNew_joins (s := v) (e := e) hroom
      have hjoins := (queueCorrection_new (s := v) fun o hm => mt (hsame o).mp (hnew o hm)).trans hu
      exact ⟨u, hserved hi (.inr rfl) (hqueues.trans hjoins), hrest.ports s.ports⟩
    · have hfulls := (queueCorrection_new (s := v) fun o hm => mt (hsame o).mp (hnew o hm)).trans (queueNew_full (e := e) hfull)
      exact hserved hi (.inr rfl) (hqueues.trans hfulls)
    · obtain ⟨u, hu, hrest⟩ := queueCorrection_overwrites (s := v) hq ((hsame old).mpr ho)
        fun o hm => mt (hsame o).mp (hothers o hm)
      exact ⟨u, hserved hi (.inr rfl) (hqueues.trans hu), hrest.ports s.ports⟩
  case checks =>
    intro s l e he g refusal frozen number strike third ranged
    have hfrozen : s.groupFrozen l.group = true ↔ frozen := groupFrozen_iff s l.group
    refine ⟨fun h => correctionRefused_frozen (hfrozen.mpr h), fun h hg => correctionRefused_stale (mt hfrozen.mp h) hg,
      fun h hg hf => correctionRefused_frameless (mt hfrozen.mp h) hg (frameAt_none hf),
      fun h hg before f later hl hbefore hf hm => ⟨fun hb => ?_, fun b hb => ?_⟩⟩
    · exact correctionRefused_ball_absent (mt hfrozen.mp h) hg (frameAt_first hl hbefore hf) hb
    · exact correctionRefused_cases (mt hfrozen.mp h) hg (frameAt_first hl hbefore hf) hf hm he hb
  case refused =>
    intro k tag line game frame ball count foul base s hi hk r refused ranged
    let v := s.queuedUp k tag r
    refine ⟨fun h => hserved hi hk (handleCorrectBall_out_of_range (h.imp_left fun h => ?_)), fun i l c hline hl hr hc => ?_⟩
    · exact namedLine_eq_none (s := v) h
    · exact hserved hi hk (handleCorrectBall_refused (s := v) (namedLine_eq_some hline hl) hr hc)

end Sys2Proof.Machine
end

section
/-! The line directory (chapter 7): the checks of edit-line, and what an edit makes of the line and its group. -/
namespace Sys2Proof.Machine

/-! ### The checks (R133, R92, R93) -/

theorem RunState.inPlay_iff (r : RunState) :
    r.inPlay = true ↔ r = .delay ∨ r = .settling ∨ r = .settled ∨ r = .awaitingEntry := by
  cases r <;> simp [RunState.inPlay]

/-- A ball is in play whose binding names a line that passes a test. -/
def State.Bound (s : State) (test : LineId → Prop) : Prop := ∃ m b j, ((s.pdu.get m).run = .delay ∨ (s.pdu.get m).run = .settling
  ∨ (s.pdu.get m).run = .settled ∨ (s.pdu.get m).run = .awaitingEntry) ∧ (s.pdu.get m).binding = some b ∧ b.line = some j ∧ test j

theorem ballInPlayFor_iff {s : State} {test : LineId → Bool} {P : LineId → Prop} (h : ∀ j, test j = true ↔ P j) :
    s.ballInPlayFor test = true ↔ s.Bound P := by
  have lane (m : Lane) : (s.ballInPlay m && (match (s.pdu.get m).binding with
      | some b => (match b.line with | some i => test i | none => false)
      | none => false)) = true ↔ ∃ b j, ((s.pdu.get m).run = .delay ∨ (s.pdu.get m).run = .settling
        ∨ (s.pdu.get m).run = .settled ∨ (s.pdu.get m).run = .awaitingEntry) ∧ (s.pdu.get m).binding = some b
        ∧ b.line = some j ∧ P j := by
    rw [Bool.and_eq_true, State.ballInPlay, RunState.inPlay_iff]
    cases hb : (s.pdu.get m).binding with
    | none => simp
    | some b =>
      cases hj : b.line with
      | none => simp [hj]
      | some j => simp [hj, h]
  refine (Bool.or_eq_true ..).to_iff.trans ((or_congr (lane .left) (lane .right)).trans ⟨fun h => ?_, ?_⟩)
  · rcases h with h | h
    · exact ⟨.left, h⟩
    · exact ⟨.right, h⟩
  · rintro ⟨m, h⟩
    cases m with
    | left => exact .inl h
    | right => exact .inr h

section
variable {s : State} {k : Link} {i : LineId} {l : Line} {base : Nat} {c : LineChanges}

/-- The checks of a request that carries changes in range, from the link that holds EDIT, at the line's version. -/
theorem editRefused_eq (hany : changesAny c = true) (hrange : changesInRange c (s.groups.get l.group).order.length = true)
    (hfrozen : ¬ s.groupFrozen l.group = true) (hk : l.copies.get k = .edit) (hv : base = l.version) :
    s.editRefused k i l base c =
      if c.position.isSome && s.ballInPlayFor (fun j => s.lineTest j fun o => o.group = l.group) then some .state
      else if c.withdraw && !s.withdrawOk i l then some .state else none := by
  have hfrozen' : (s.groups.get l.group).isFrozen = false := Bool.eq_false_iff.mpr hfrozen
  simp [State.editRefused, hany, hrange, hfrozen', hk, hv]

theorem withdrawOk_iff : s.withdrawOk i l = true ↔ l.status = .withdrawn
    ∨ ¬ (s.Bound (fun j => j = i) ∨ (l.ballsOf (s.groups.get l.group).frame ≠ []
      ∧ l.completed (s.groups.get l.group).frame = false)) := by
  rw [← ballInPlayFor_iff (test := fun j => decide (j = i)) fun j => by simp]
  simp [State.withdrawOk, Line.midFrame, or_iff_not_imp_left]

/-! ### What the request comes to (R134) -/

variable {line : Nat} (hn : s.namedLine line = some (i, l))
include hn

theorem handleEditLine_refused {code : Code} (h : s.editRefused k i l base c = some code) :
    handleEditLine k line base c s = refuse code s := by
  simp [handleEditLine, hn, h]

variable (h : s.editRefused k i l base c = none)
include h

/-- Changes that alter nothing restart the claim timer alone. -/
theorem handleEditLine_nothing (he : l.edited c = l)
    (hp : ∀ p, c.position = some p → positionIn (s.groups.get l.group).order i = some p) : handleEditLine k line base c s =
      (s.setLine i (some { l with claimTimer := some (seconds s.settings.claimExpiry) }), .ok (be 2 l.version)) := by
  cases hc : c.position with
  | none => simp [handleEditLine, hn, h, he, hc]
  | some p => simp [handleEditLine, hn, h, he, hc, hp p hc]

theorem handleEditLine_edits
    (he : l.edited c ≠ l ∨ ∃ p, c.position = some p ∧ positionIn (s.groups.get l.group).order i ≠ some p) :
    handleEditLine k line base c s = (s.editLine k i l c, .ok (be 2 ((s.editLine k i l c).versionOf i))) := by
  rcases he with he | ⟨p, hc, hp⟩
  · simp [handleEditLine, hn, h, he]
  · simp [handleEditLine, hn, h, hc, hp]

end

/-! ### The line and the order changed (R134, R93) -/

/-- The order of a group after the changes of a line. -/
def reordered (c : LineChanges) (order : List LineId) (i : LineId) : List LineId :=
  match c.position with
  | some p => moveTo order i p
  | none => order

/-- A state in which an edit has changed the line and the order, before what follows. -/
def State.reworked (s : State) (i : LineId) (l : Line) (c : LineChanges) : State :=
  let t := s.changeLine i fun l => { l.edited c with claimTimer := some (seconds s.settings.claimExpiry) }
  match c.position with
  | some p => t.modGroup l.group fun r => { r with order := moveTo r.order i p }
  | none => t

theorem editLine_eq (s : State) (k : Link) (i : LineId) (l : Line) (c : LineChanges) : s.editLine k i l c =
    (if c.withdraw && l.status = .active && ((s.reworked i l c).groups.get l.group).inProgress
      then (s.reworked i l c).advance s l.group else (s.reworked i l c).announce s none).flushLines (some (k, i)) := rfl

section
variable {s : State} {i : LineId} {l : Line} {c : LineChanges} (hl : s.line i = some l)

theorem reworked_rest (s : State) (i : LineId) (l : Line) (c : LineChanges) :
    { s.reworked i l c with lines := s.lines, groups := s.groups, dirty := s.dirty } = s := by
  have h := changeLine_rest s i fun l => { l.edited c with claimTimer := some (seconds s.settings.claimExpiry) }
  unfold State.reworked
  dsimp only
  split <;> exact h

theorem reworked_lines (s : State) (i : LineId) (l : Line) (c : LineChanges) : (s.reworked i l c).lines =
      (s.changeLine i fun l => { l.edited c with claimTimer := some (seconds s.settings.claimExpiry) }).lines
    ∧ (s.reworked i l c).dirty =
      (s.changeLine i fun l => { l.edited c with claimTimer := some (seconds s.settings.claimExpiry) }).dirty := by
  unfold State.reworked
  dsimp only
  split <;> exact ⟨rfl, rfl⟩

theorem reworked_group (s : State) (i : LineId) (l : Line) (c : LineChanges) : ((s.reworked i l c).groups.get l.group).bare =
    { s.groups.get l.group with order := reordered c (s.groups.get l.group).order i }.bare := by
  have h := changeLine_bare s i (fun l => { l.edited c with claimTimer := some (seconds s.settings.claimExpiry) }) l.group
  unfold State.reworked reordered
  cases c.position with
  | none => exact h
  | some p =>
    dsimp only
    rw [State.modGroup_groups, PerSlot.get_set]
    exact congrArg (fun r : Group => { r with order := moveTo r.order i p }) h

include hl

theorem reworked_line : (s.reworked i l c).line i = some (computeLine s.handicap
      { l.edited c with claimTimer := some (seconds s.settings.claimExpiry) })
    ∧ ∀ j, j ≠ i → (s.reworked i l c).line j = s.line j := by
  have hlines (j : LineId) : (s.reworked i l c).line j =
      (s.changeLine i fun l => { l.edited c with claimTimer := some (seconds s.settings.claimExpiry) }).line j :=
    congrArg (fun v => Vector.get v j) (reworked_lines s i l c).1
  refine ⟨?_, fun j hj => ?_⟩
  · rw [hlines, changeLine_line, if_pos rfl, hl]
    rfl
  · rw [hlines, changeLine_line, if_neg hj]

theorem reworked_dirty (hd : s.dirty = 0#16) (j : LineId) : (s.reworked i l c).dirty.getLsbD j.val = decide (j = i) := by
  rw [(reworked_lines s i l c).2]
  exact changeLine_dirty_clean hd hl _ j

end

/-! ### The up line, which no version and no copy decides (R95) -/

theorem lineTest_congr {s t : State} {j : LineId} (hl : (t.line j).map Line.scored = (s.line j).map Line.scored)
    {p : Line → Bool} (hp : ∀ l, p l.scored = p l) : t.lineTest j p = s.lineTest j p := by
  have scored (v : State) : v.lineTest j p = ((v.line j).map Line.scored).elim false p := by
    unfold State.lineTest
    cases v.line j with
    | none => rfl
    | some l => exact (hp l).symm
  rw [scored, scored, hl]

theorem upLine_congr {s t : State} (hl : ∀ j, (t.line j).map Line.scored = (s.line j).map Line.scored) {q r : Group}
    (ho : q.order = r.order) (hf : q.frame = r.frame) : t.upLine q = s.upLine r := by
  have hmid (j : LineId) : (t.lineTest j fun l => l.midFrame r.frame) = s.lineTest j fun l => l.midFrame r.frame :=
    lineTest_congr (hl j) fun _ => rfl
  have hdue (j : LineId) : (t.lineTest j fun l => l.dueFor r.frame) = s.lineTest j fun l => l.dueFor r.frame :=
    lineTest_congr (hl j) fun _ => rfl
  simp only [State.upLine, ho, hf, hmid, hdue]

/-! ### An edit with its announcement (R134, R127, R95) -/

theorem announcedEdit_inside (s : State) (i : LineId) (l : Line) (c : LineChanges) :
    SameInside ((s.reworked i l c).announce s none) (s.reworked i l c).withPositions :=
  sameInside_announce (s := s.reworked i l c) (congrArg State.lanes (reworked_rest s i l c) :).symm none

section
variable {s u : State} {k : Link} {i : LineId} {l : Line} {c : LineChanges} (hl : s.line i = some l) (hd : s.dirty = 0#16)
  (hu : u = ((s.reworked i l c).announce s none).flushLines (some (k, i)))
include hl hd hu

/-- What the end of the event makes of the lines alone. -/
theorem announcedEdit_lines :
    u.line i = ((s.reworked i l c).line i).map (·.announced (some (k, i)) i) ∧ ∀ j, j ≠ i → u.line j = (s.reworked i l c).line j := by
  have hv := announcedEdit_inside s i l c
  have hline (j : LineId) : ((s.reworked i l c).announce s none).line j = (s.reworked i l c).line j :=
    (congrArg (fun v : State => v.line j) hv :)
  have hdirty : ((s.reworked i l c).announce s none).dirty = (s.reworked i l c).dirty := (congrArg State.dirty hv :)
  obtain ⟨hown, hothers⟩ := flushLines_line_single (s := (s.reworked i l c).announce s none) (x := some (k, i)) (i := i)
    fun j => by rw [hdirty, reworked_dirty hl hd]
  subst hu
  exact ⟨hown.trans (by rw [hline]), fun j hj => (hothers j hj).trans (hline j)⟩

/-- The line is computed again and announced, its claim timer started afresh; no other line changes. -/
theorem announcedEdit_line : u.line i = some { computeLine s.handicap (l.edited c) with
      version := (l.version + 1) % 65536, copies := ⟨l.keptAt k .desk, l.keptAt k .service, l.keptAt k .console⟩
      claimTimer := some (seconds s.settings.claimExpiry) }
    ∧ ∀ j, j ≠ i → u.line j = s.line j := by
  obtain ⟨hown, hothers⟩ := announcedEdit_lines hl hd hu
  obtain ⟨hline, hrest⟩ := reworked_line (c := c) hl
  refine ⟨?_, fun j hj => (hothers j hj).trans (hrest j hj)⟩
  rw [hown, hline, Option.map_some, announced_exempting]
  rfl

omit hl hd in
theorem announcedEdit_groups (g : Slot) :
    u.groups.get g = (s.reworked i l c).placed ((s.reworked i l c).groups.get g) := by
  rw [hu, flushLines_groups, announce_groups]

omit hl in
theorem announcedEdit_rest : SameInside u { s with lines := u.lines, groups := u.groups } := by
  have hv := announcedEdit_inside s i l c
  have hgroups : (s.reworked i l c).withPositions.groups = u.groups := by
    rw [hu, flushLines_groups]
    exact (congrArg State.groups hv :).symm
  have hend : SameInside u { (s.reworked i l c).announce s none with lines := u.lines, dirty := 0#16 } :=
    hu ▸ sameInside_flushLines ..
  have hannounced : SameInside { (s.reworked i l c).announce s none with lines := u.lines, dirty := 0#16 }
      { s.reworked i l c with lines := u.lines, groups := (s.reworked i l c).withPositions.groups, dirty := 0#16 } :=
    congrArg (fun v : State => { v with lines := u.lines, dirty := 0#16 }) hv
  rw [hgroups] at hannounced
  have hrest : { s.reworked i l c with lines := u.lines, groups := u.groups, dirty := 0#16 }
      = { s with lines := u.lines, groups := u.groups } := by
    rw [← hd]
    exact congrArg (fun v : State => { v with lines := u.lines, groups := u.groups }) (reworked_rest s i l c)
  exact hrest ▸ hannounced.trans hend

/-- The group, with its order, its totals and its current position. -/
theorem announcedEdit_group :
    let r := s.groups.get l.group
    let q := u.groups.get l.group
    q.order = reordered c r.order i
    ∧ q.position = (if r.state = .playing then (u.upLine q).bind (positionIn q.order) else r.position)
    ∧ { q with order := r.order, position := r.position, runningTotal := r.runningTotal, groupTotal := r.groupTotal } = r := by
  intro r q
  let w := s.reworked i l c
  let p := w.groups.get l.group
  have hp : p.bare = { r with order := reordered c r.order i }.bare := reworked_group s i l c
  have hq : q = w.placed p := announcedEdit_groups hu l.group
  obtain ⟨-, -, horder, hframe⟩ := placed_keeps w p
  have hstate : p.state = r.state := (congrArg Group.state hp :)
  obtain ⟨hown, hothers⟩ := announcedEdit_lines hl hd hu
  have hup : u.upLine q = w.upLine p := by
    refine upLine_congr (fun j => ?_) (hq ▸ horder) (hq ▸ hframe)
    by_cases hj : j = i
    · subst hj
      rw [hown, Option.map_map]
      rfl
    · rw [hothers j hj]
  have hpq : q.order = p.order := hq ▸ horder
  refine ⟨hpq.trans (congrArg Group.order hp :), ?_, ?_⟩
  · rw [hup, hpq, hq, State.placed, hstate]
    split
    · rfl
    · exact (congrArg Group.position hp :)
  · have hbut : { q with position := r.position } = { p with position := r.position } := by rw [hq, placed_but_position]
    exact (congrArg (fun x : Group =>
        { x with order := r.order, runningTotal := r.runningTotal, groupTotal := r.groupTotal }) hbut :).trans
      (congrArg (fun x : Group => { x with
        order := r.order, position := r.position, runningTotal := r.runningTotal, groupTotal := r.groupTotal }) hp :)

end

end Sys2Proof.Machine
end

section
/-! The line directory (chapter 7): a withdrawal that advances the frame or ends the game, and edit-line by request. -/
namespace Sys2Proof.Machine

/-! ### A line that changed and keeps its status and version until the event's end (R97, R102, R125) -/

/-- A line in use has a status and a version, and a change of it waits to be announced. -/
structure State.Unannounced (s : State) (i : LineId) (status : LineStatus) (version : Nat) : Prop where
  line  : ∃ l, s.line i = some l ∧ l.status = status ∧ l.version = version
  dirty : s.dirty.getLsbD i.val = true

/-- A change of a line keeps its status and version. -/
def KeepsStanding (f : Line → Line) : Prop := ∀ l, (f l).status = l.status ∧ (f l).version = l.version

namespace State.Unannounced

variable {s t : State} {i : LineId} {status : LineStatus} {version : Nat}

theorem congr (h : s.Unannounced i status version) (hl : t.lines = s.lines) (hd : t.dirty = s.dirty) :
    t.Unannounced i status version :=
  ⟨by rw [State.line, hl]; exact h.line, hd ▸ h.dirty⟩

theorem changeLine (h : s.Unannounced i status version) (j : LineId) {f : Line → Line} (hf : KeepsStanding f) :
    (s.changeLine j f).Unannounced i status version := by
  obtain ⟨l, hl, hstatus, hversion⟩ := h.line
  refine ⟨?_, by rw [changeLine_dirty, h.dirty, Bool.true_or]⟩
  rw [changeLine_line]
  split
  · rename_i e
    subst e
    rw [hl]
    exact ⟨_, rfl, (hf l).1.trans hstatus, (hf l).2.trans hversion⟩
  · exact ⟨l, hl, hstatus, hversion⟩

theorem changeLines {α : Type} (h : s.Unannounced i status version) (key : α → LineId) {f : α → Line → Line}
    (hf : ∀ a, KeepsStanding (f a)) (xs : List α) : (s.changeLines key f xs).Unannounced i status version := by
  induction xs generalizing s with
  | nil => exact h
  | cons x xs ih => exact ih (h.changeLine (key x) (hf x))

theorem behind (h : s.Unannounced i status version) (e : State.behind t = State.behind s) : t.Unannounced i status version :=
  h.congr (congrArg State.lines e :) (congrArg State.dirty e :)

theorem announce (h : s.Unannounced i status version) (before : State) (c : Option (Slot × Code)) :
    (s.announce before c).Unannounced i status version :=
  h.congr (announce_lines s before c) (congrArg State.dirty (table_announce s before c) :)

theorem broadcast (h : s.Unannounced i status version) (n : Notice) : (s.broadcast n).Unannounced i status version :=
  h.congr (State.broadcast_lines ..) (State.broadcast_dirty ..)

/-- A release and a request of lanes reach no line. -/
theorem handOff (h : s.Unannounced i status version) (g : Slot) (l : Lane) : (s.handOff g l).Unannounced i status version :=
  h.congr (congrArg State.lines (handOff_rest s g l) :) (congrArg State.dirty (handOff_rest s g l) :)

theorem startGame (h : s.Unannounced i status version) (g : Slot) : (s.startGame g).Unannounced i status version := by
  have hask := askLane_rest (s.gameLaid g) g (s.groups.get g).home
  refine (h.changeLines id (f := fun _ l => { l with frames := [] }) (fun _ _ => ⟨rfl, rfl⟩) (s.groups.get g).order).congr
    (startGame_lines s g) ?_
  exact (congrArg State.dirty hask :).trans (congrArg State.dirty (gameLaid_inside s g) :)

theorem gameOver (h : s.Unannounced i status version) (g : Slot) : (s.gameOver g).Unannounced i status version := by
  have hrest := releaseLanes_rest (s.endLines g) g
  have hend : (s.endLines g).Unannounced i status version := h.changeLines (fun e : LineId × GameEntry => e.1)
    (f := fun e l => { l with games := appendGame l.games e.2 }) (fun _ _ => ⟨rfl, rfl⟩) _
  exact hend.congr (congrArg State.lines hrest :) (congrArg State.dirty hrest :)

/-- A game end, with the next game or without, keeps what waits. -/
theorem gameEnd (h : s.Unannounced i status version) (before : State) (g : Slot) :
    (s.gameEnd before g).Unannounced i status version := by
  by_cases hs : s.NextStarts g
  · obtain ⟨ha, hm, hn⟩ := hs
    obtain ⟨t, hp, hb, -⟩ := next_permitted hm hn
    rw [gameEnd_starts before ha hp rfl]
    exact ((((h.gameOver g).behind hb).announce ..).broadcast _ |>.startGame g).announce ..
  · obtain ⟨v, c, hv, hb⟩ := gameEnd_rests before hs
    rw [hv]
    exact (((h.gameOver g).behind hb).announce ..).broadcast _

theorem advance (h : s.Unannounced i status version) (before : State) (g : Slot) :
    (s.advance before g).Unannounced i status version := by
  by_cases hdue : s.LineDue g
  · rw [advance_due before hdue]
    exact h.announce ..
  · by_cases hframe : (s.groups.get g).frame < 10 ∧ s.LineActive g
    · rw [advance_frame before hdue hframe.1 hframe.2]
      have hframed : (s.framed g).Unannounced i status version := h.congr rfl rfl
      split
      · exact hframed.announce ..
      · exact (hframed.handOff ..).announce ..
    · rw [advance_over before hdue hframe]
      exact h.gameEnd before g

/-- The end of the event advances its version once. -/
theorem flushLines (h : s.Unannounced i status version) (x : Exempt) :
    ∃ l, (s.flushLines x).line i = some l ∧ l.status = status ∧ l.version = (version + 1) % 65536 := by
  obtain ⟨l, hl, hstatus, hversion⟩ := h.line
  refine ⟨l.announced x i, ?_, hstatus, ?_⟩
  · rw [flushLines_announces, if_pos h.dirty, hl]
    rfl
  · exact congrArg wrapInc hversion

end State.Unannounced

/-! ### The frame that advances and the game that ends (R97, R102) -/

section
variable {s : State} {g : Slot} (before : State) (hdue : ¬ s.LineDue g)
include hdue

/-- With an ACTIVE line left before frame 10 the frame advances. -/
theorem advance_to_next_frame (hf : (s.groups.get g).frame < 10) (ha : s.LineActive g) :
    ((s.advance before g).groups.get g).frame = (s.groups.get g).frame + 1
      ∧ ((s.advance before g).groups.get g).inProgress = (s.groups.get g).inProgress := by
  have kept (v : State) (r : Group) : (v.placed r).frame = r.frame ∧ (v.placed r).inProgress = r.inProgress := by
    unfold State.placed
    split <;> exact ⟨rfl, rfl⟩
  have hframed : (s.framed g).groups.get g = { s.groups.get g with frame := (s.groups.get g).frame + 1 } := PerSlot.get_set ..
  rw [advance_frame before hdue hf ha, announce_groups, (kept ..).1, (kept ..).2]
  split
  · rw [hframed]
    exact ⟨rfl, rfl⟩
  · rw [handOff_group, becomes_fields, hframed]
    exact ⟨rfl, rfl⟩

/-- Without, or in frame 10, the game ends; it is not followed by another when none can start. -/
theorem advance_ends (hn : ¬ ((s.groups.get g).frame < 10 ∧ s.LineActive g)) (hs : ¬ s.NextStarts g) :
    ((s.advance before g).groups.get g).inProgress = false
      ∧ ((s.advance before g).groups.get g).state = ((s.groups.get g).becomes .idle).state := by
  obtain ⟨v, c, hv, hb⟩ := gameEnd_rests before hs
  obtain ⟨-, -, -, hgroup⟩ := rested_play before ((advance_over before hdue hn).trans hv) hb
  exact ⟨(congrArg Group.inProgress hgroup :), (congrArg Group.state hgroup :)⟩

end

/-! ### A withdrawal (R92) -/

/-- The changes that withdraw a line. -/
def withdrawal : LineChanges := { name := none, average := none, handicap := none, position := none, withdraw := true }

/-- Another line of a group than the one withdrawn is ACTIVE, and has a property. -/
def State.OtherActive (s : State) (g : Slot) (i : LineId) (p : Line → Prop) : Prop :=
  ∃ j ∈ (s.groups.get g).order, j ≠ i ∧ ∃ o, s.line j = some o ∧ o.status = .active ∧ p o

section
variable {s : State} {i : LineId} {l : Line} (hl : s.line i = some l)

/-- The group and the sessions of a state in which a line was withdrawn. -/
theorem withdrawn_group (s : State) (i : LineId) (l : Line) :
    ((s.reworked i l withdrawal).groups.get l.group).bare = (s.groups.get l.group).bare
    ∧ (s.reworked i l withdrawal).sessions = s.sessions :=
  ⟨reworked_group s i l withdrawal, (congrArg State.sessions (reworked_rest s i l withdrawal) :)⟩

include hl

/-- What holds of an ACTIVE line of the group then, holds of another ACTIVE line of the group before. -/
theorem withdrawn_active_iff (p : Line → Prop) :
    (∃ j ∈ ((s.reworked i l withdrawal).groups.get l.group).order, ∃ x, (s.reworked i l withdrawal).line j = some x
      ∧ x.status = .active ∧ p x)
    ↔ s.OtherActive l.group i p := by
  have horder : ((s.reworked i l withdrawal).groups.get l.group).order = (s.groups.get l.group).order :=
    (congrArg Group.order (withdrawn_group s i l).1 :)
  obtain ⟨hown, hothers⟩ := reworked_line (c := withdrawal) hl
  rw [horder, State.OtherActive]
  refine exists_congr fun j => and_congr_right fun _ => ?_
  by_cases hj : j = i
  · subst hj
    refine iff_of_false (fun ⟨x, hx, hactive, _⟩ => ?_) fun h => h.1 rfl
    obtain rfl := Option.some.inj (hown.symm.trans hx)
    cases hactive
  · rw [hothers j hj]
    exact ⟨fun h => ⟨hj, h⟩, fun h => h.2⟩

theorem withdrawn_lineDue_iff : (s.reworked i l withdrawal).LineDue l.group ↔
    s.OtherActive l.group i fun o => o.completed (s.groups.get l.group).frame = false := by
  have hframe : ((s.reworked i l withdrawal).groups.get l.group).frame = (s.groups.get l.group).frame :=
    (congrArg Group.frame (withdrawn_group s i l).1 :)
  rw [← withdrawn_active_iff hl, State.LineDue, hframe]
  rfl

theorem withdrawn_lineActive_iff : (s.reworked i l withdrawal).LineActive l.group ↔ s.OtherActive l.group i fun _ => True := by
  rw [← withdrawn_active_iff hl]
  simp only [and_true]
  rfl

theorem withdrawn_unannounced (hd : s.dirty = 0#16) : (s.reworked i l withdrawal).Unannounced i .withdrawn l.version :=
  ⟨⟨_, (reworked_line hl).1, rfl, rfl⟩, by rw [reworked_dirty hl hd]; simp⟩

variable (hd : s.dirty = 0#16) (hactive : l.status = .active) (hrun : (s.groups.get l.group).inProgress = true)
include hd hactive hrun

/-- A withdrawal that leaves no line due: the frame advances, or the game ends (R97, R102). -/
theorem withdrawal_advances (hdue : ¬ s.OtherActive l.group i fun o => o.completed (s.groups.get l.group).frame = false)
    (hfrozen : ¬ ((s.groups.get l.group).state = .moving ∨ (s.groups.get l.group).state = .moved)) (k : Link) :
    let r := s.groups.get l.group
    let u := s.editLine k i l withdrawal
    let q := u.groups.get l.group
    let left := s.OtherActive l.group i fun _ => True
    (∃ x, u.line i = some x ∧ x.status = .withdrawn ∧ x.version = (l.version + 1) % 65536)
    ∧ (r.frame < 10 → left → q.frame = r.frame + 1 ∧ q.inProgress = true)
    ∧ (¬ left → q.inProgress = false)
    ∧ (10 ≤ r.frame → (s.sessions.get r.home).autoNext = false → q.inProgress = false ∧ q.state = .idle) := by
  intro r u q left
  let w := s.reworked i l withdrawal
  obtain ⟨hgroup, hsessions⟩ := withdrawn_group s i l
  have hprogress : (w.groups.get l.group).inProgress = true := (congrArg Group.inProgress hgroup :).trans hrun
  have hframe : (w.groups.get l.group).frame = r.frame := (congrArg Group.frame hgroup :)
  have hhome : (w.groups.get l.group).home = r.home := (congrArg Group.home hgroup :)
  have hstate : (w.groups.get l.group).state = r.state := (congrArg Group.state hgroup :)
  have hu : u = (w.advance s l.group).flushLines (some (k, i)) :=
    (editLine_eq ..).trans (congrArg _ (if_pos (by rw [hprogress, hactive]; rfl)))
  have hq : q = (w.advance s l.group).groups.get l.group := by
    show u.groups.get l.group = _
    rw [hu, flushLines_groups]
  have hnone : ¬ w.LineDue l.group := mt (withdrawn_lineDue_iff hl).mp hdue
  have hleft : w.LineActive l.group ↔ left := withdrawn_lineActive_iff hl
  rw [hu, hq]
  refine ⟨((withdrawn_unannounced hl hd).advance s l.group).flushLines _, fun hf ho => ?_, fun ho => ?_, fun hf hauto => ?_⟩
  · obtain ⟨hnext, hruns⟩ := advance_to_next_frame s hnone (hframe ▸ hf) (hleft.mpr ho)
    exact ⟨hnext.trans (congrArg (· + 1) hframe), hruns.trans hprogress⟩
  · exact (advance_ends s hnone (fun h => ho (hleft.mp h.2)) fun h => ho (hleft.mp h.2.1.2.1)).1
  · obtain ⟨hends, hidle⟩ := advance_ends s hnone (fun h => absurd h.1 (by omega)) fun h => by
      have := h.1
      rw [hhome, hsessions, hauto] at this
      cases this
    exact ⟨hends, hidle.trans (becomes_state _ _ (hstate ▸ hfrozen))⟩

end

/-! ### edit-line by request (R133, R134) -/

/-- Some item is carried, and each that is lies in its range (R133). -/
theorem attributes_in_range {c : LineChanges} (hp : c.position = none)
    (hc : (∃ n, c.name = some n) ∨ (∃ a, c.average = some a) ∨ (∃ h, c.handicap = some h))
    (hn : ∀ n, c.name = some n → 1 ≤ n.length ∧ n.length ≤ 12) (ha : ∀ a, c.average = some (some a) → a ≤ 300)
    (hh : ∀ h, c.handicap = some h → handicapOf h.1 h.2 ≠ none) (lines : Nat) :
    changesAny c = true ∧ changesInRange c lines = true := by
  constructor
  · rcases hc with ⟨n, h⟩ | ⟨a, h⟩ | ⟨m, h⟩ <;> simp [changesAny, h]
  · simp only [changesInRange, Bool.and_eq_true]
    refine ⟨⟨⟨?name, ?average⟩, ?handicap⟩, by rw [hp]⟩
    case name =>
      cases h : c.name with
      | none => rfl
      | some n => simpa [nameOk] using hn n h
    case average =>
      rcases h : c.average with _ | _ | a
      · rfl
      · rfl
      · simpa [averageOk] using ha a h
    case handicap =>
      cases h : c.handicap with
      | none => rfl
      | some m => exact Option.isSome_iff_ne_none.mpr (hh m h)

section
variable {k : Link} {tag : Tag} {line base : Nat} {c : LineChanges} {i : LineId} {l : Line} {s : State}
  (hi : LinkIdle s k) (hk : k = .desk ∨ k = .console) (hline : lineOf line = some i) (hl : s.line i = some l)
include hi hk

theorem editLine_served {u : State} {a : Answer}
    (h : handleEditLine k line base c (s.queuedUp k tag (.editLine line base c)) = (u, a)) :
    exec (.editLine k tag line base c) s = .next (u.answered k tag (.editLine line base c) a) :=
  (State.served (r := .editLine line base c) rfl hi (admits_from_either hk rfl rfl) (by nofun) (by nofun) h).1

include hline hl

theorem editLine_refuses {code : Code} (h : s.editRefused k i l base c = some code) :
    exec (.editLine k tag line base c) s
      = .next ((s.queuedUp k tag (.editLine line base c)).answered k tag (.editLine line base c) (.refused code)) :=
  editLine_served hi hk (handleEditLine_refused (s := s.queuedUp k tag (.editLine line base c)) (namedLine_eq_some hline hl) h)

variable (h : s.editRefused k i l base c = none)
include h

theorem editLine_restarts (he : l.edited c = l)
    (hp : ∀ p, c.position = some p → positionIn (s.groups.get l.group).order i = some p) :
    ∃ u : State, exec (.editLine k tag line base c) s = .next (u.answered k tag (.editLine line base c) (.ok (be 2 l.version)))
      ∧ SameInside u { s with
        lines := s.lines.set i.val (some { l with claimTimer := some (100 * s.settings.claimExpiry) }) } :=
  ⟨_, editLine_served hi hk
    (handleEditLine_nothing (s := s.queuedUp k tag (.editLine line base c)) (namedLine_eq_some hline hl) h he hp), rfl⟩

variable (hd : s.dirty = 0#16)
  (he : l.edited c ≠ l ∨ ∃ p, c.position = some p ∧ positionIn (s.groups.get l.group).order i ≠ some p)
include hd he

/-- An edit that alters something, when no frame advances by it. -/
theorem editLine_announces
    (ha : let v := s.queuedUp k tag (.editLine line base c)
      (c.withdraw && l.status = .active && ((v.reworked i l c).groups.get l.group).inProgress) = true →
        (v.reworked i l c).LineDue l.group) :
    ∃ u : State, exec (.editLine k tag line base c) s
        = .next (u.answered k tag (.editLine line base c) (.ok (be 2 ((l.version + 1) % 65536))))
      ∧ u.line i = some { computeLine s.handicap (l.edited c) with
          version := (l.version + 1) % 65536, copies := ⟨l.keptAt k .desk, l.keptAt k .service, l.keptAt k .console⟩
          claimTimer := some (100 * s.settings.claimExpiry) }
      ∧ (∀ j, j ≠ i → u.line j = s.line j)
      ∧ SameInside u { s with lines := u.lines, groups := u.groups }
      ∧ (let r := s.groups.get l.group
        let q := u.groups.get l.group
        q.order = reordered c r.order i
        ∧ q.position = (if r.state = .playing then (u.upLine q).bind (positionIn q.order) else r.position)
        ∧ { q with order := r.order, position := r.position, runningTotal := r.runningTotal, groupTotal := r.groupTotal } = r) := by
  let v := s.queuedUp k tag (.editLine line base c)
  have hanswer := handleEditLine_edits (s := v) (namedLine_eq_some hline hl) h he
  have hu : v.editLine k i l c = ((v.reworked i l c).announce v none).flushLines (some (k, i)) := by
    rw [editLine_eq]
    congr 1
    split
    · rename_i hw
      exact advance_due _ (ha hw)
    · rfl
  obtain ⟨hown, hothers⟩ := announcedEdit_line (s := v) hl hd hu
  rw [versionOf_eq hown] at hanswer
  exact ⟨_, editLine_served hi hk hanswer, hown, hothers, (announcedEdit_rest (s := v) hd hu).ports s.ports,
    announcedEdit_group (s := v) hl hd hu⟩

end

/-- The changes that move a line to a position. -/
def moving (p : Nat) : LineChanges :=
  { name := none, average := none, handicap := none, position := some p, withdraw := false }

theorem editRefused_moving {s : State} {k : Link} {i : LineId} {l : Line} {base p : Nat} (h1 : 1 ≤ p)
    (hp : p ≤ (s.groups.get l.group).order.length) (hfrozen : ¬ s.groupFrozen l.group = true) (hk : l.copies.get k = .edit)
    (hv : base = l.version) : s.editRefused k i l base (moving p) =
      if s.ballInPlayFor (fun j => s.lineTest j fun o => o.group = l.group) then some .state else none := by
  have hrange : changesInRange (moving p) (s.groups.get l.group).order.length = true := by
    simp [changesInRange, moving, h1, hp]
  rw [editRefused_eq rfl hrange hfrozen hk hv]
  rfl

theorem editRefused_withdrawal {s : State} {k : Link} {i : LineId} {l : Line} {base : Nat}
    (hfrozen : ¬ s.groupFrozen l.group = true) (hk : l.copies.get k = .edit) (hv : base = l.version) :
    s.editRefused k i l base withdrawal = if s.withdrawOk i l then none else some .state := by
  rw [editRefused_eq rfl rfl hfrozen hk hv]
  cases h : s.withdrawOk i l <;> simp [withdrawal]

/-- A withdrawal alters an ACTIVE line. -/
theorem withdrawal_edits {l : Line} (h : l.status = .active) : l.edited withdrawal ≠ l := fun e =>
  nomatch (congrArg Line.status e).trans h

/-- Settles O34: attributes, the order, and a withdrawal, each with what it is refused for and what it alters. -/
theorem editLineEdits : Obligations.EditLineEdits := by
  unfold Obligations.EditLineEdits
  constructor
  case left =>
    intro k tag line base c i l s hi hk hline hl hp hw hc hn ha hh hmoving hmoved hedit hv hd mode edited timer keep
    obtain ⟨hany, hrange⟩ := attributes_in_range hp hc hn ha hh (s.groups.get l.group).order.length
    have hfrozen : ¬ s.groupFrozen l.group = true := by
      rw [groupFrozen_iff]
      exact not_or.mpr ⟨hmoving, hmoved⟩
    have hnone : s.editRefused k i l base c = none := by
      rw [editRefused_eq hany hrange hfrozen hedit hv, hp, hw]
      rfl
    have hedited : l.edited c = edited := by
      unfold Line.edited
      rw [hw]
      rfl
    refine ⟨fun he => ?_, fun he => ?_⟩
    · obtain ⟨u, hexec, hown, hothers, hrest, -⟩ := editLine_announces (tag := tag) hi hk hline hl hnone hd
        (.inl (hedited ▸ he)) (by simp [hw])
      exact ⟨u, hexec, hedited ▸ hown, hothers, hrest⟩
    · exact editLine_restarts hi hk hline hl hnone (hedited.trans he) (by simp [hp])
  case right =>
    intro k tag line base i l s hi hk hline hl hmoving hmoved hedit hv hd r rest timer keep after bound refused nothing edited
    have hfrozen : ¬ s.groupFrozen l.group = true := by
      rw [groupFrozen_iff]
      exact not_or.mpr ⟨hmoving, hmoved⟩
    constructor
    case left =>
      intro p h1 hp c inPlay
      have hplay : s.ballInPlayFor (fun j => s.lineTest j fun o => o.group = l.group) = true ↔ inPlay :=
        ballInPlayFor_iff fun j => by simp [lineTest_iff]
      have hcheck := editRefused_moving (i := i) h1 hp hfrozen hedit hv
      refine ⟨fun h => ?_, fun h hsame => ?_, fun h hne => ?_⟩
      · exact editLine_refuses hi hk hline hl (hcheck.trans (if_pos (hplay.mpr h)))
      · exact editLine_restarts hi hk hline hl (hcheck.trans (if_neg (mt hplay.mp h))) rfl fun q e => Option.some.inj e ▸ hsame
      · obtain ⟨u, hexec, hown, hothers, hrest, horder, hposition, hgroup⟩ := editLine_announces (tag := tag) hi hk hline hl
          (hcheck.trans (if_neg (mt hplay.mp h))) hd (.inr ⟨p, rfl, hne⟩) (by simp [moving])
        refine ⟨u, hexec, hown, hothers, hrest, horder.trans ?_, hposition, hgroup⟩
        exact List.append_assoc ..
    case right =>
      intro c blocked other
      have hok : s.withdrawOk i l = true ↔ l.status = .withdrawn ∨ ¬ blocked := withdrawOk_iff
      have hcheck : s.editRefused k i l base c = if s.withdrawOk i l then none else some .state :=
        editRefused_withdrawal hfrozen hedit hv
      have hother : other true ↔ s.OtherActive l.group i fun o => o.completed r.frame = false := by
        simp [other, r, State.OtherActive]
      have hleft : other false ↔ s.OtherActive l.group i fun _ => True := by
        simp [other, r, State.OtherActive]
      refine ⟨fun h => ?_, fun h hb => ?_, fun h hb hrun => ?_, fun h hb hrun hdue => ?_⟩
      · refine editLine_restarts hi hk hline hl (hcheck.trans (if_pos (hok.mpr (.inl h)))) ?_ (by nofun)
        exact congrArg (fun x => { l with status := x }) h.symm
      · refine editLine_refuses hi hk hline hl (hcheck.trans (if_neg (mt hok.mp ?_)))
        exact not_or.mpr ⟨by simp [h], not_not_intro hb⟩
      · obtain ⟨u, hexec, hown, hothers, hrest, horder, hposition, hgroup⟩ := editLine_announces (tag := tag) (c := withdrawal)
          hi hk hline hl (hcheck.trans (if_pos (hok.mpr (.inr hb)))) hd (.inl (withdrawal_edits h)) fun hw => by
            refine (withdrawn_lineDue_iff (s := s.queuedUp k tag (.editLine line base c)) hl).mpr (hother.mp (hrun.resolve_left ?_))
            have hgroup := (withdrawn_group (s.queuedUp k tag (.editLine line base c)) i l).1
            have hprogress : r.inProgress = true :=
              (congrArg Group.inProgress hgroup :).symm.trans (Bool.and_eq_true_iff.mp hw).2
            simp [hprogress]
        refine ⟨u, hexec, hown, hothers, hrest, ?_, hposition⟩
        exact (congrArg (fun x : Group => { x with order := (u.groups.get l.group).order }) hgroup :).trans
          (congrArg (fun order => { r with order := order }) horder)
      · let v := s.queuedUp k tag (.editLine line base withdrawal)
        obtain ⟨⟨x, hx, hstatus, hversion⟩, hnext, hover, hidle⟩ := withdrawal_advances (s := v) hl hd h hrun
          (mt hother.mpr hdue) (not_or.mpr ⟨hmoving, hmoved⟩) k
        have hanswer := handleEditLine_edits (s := v) (base := base) (c := withdrawal) (namedLine_eq_some hline hl)
          (hcheck.trans (if_pos (hok.mpr (.inr hb)))) (.inl (withdrawal_edits h))
        rw [versionOf_eq hx, hversion] at hanswer
        exact ⟨_, editLine_served hi hk hanswer, ⟨x, hx, hstatus, hversion⟩, fun hf ho => hnext hf (hleft.mp ho),
          fun ho => hover (mt hleft.mpr ho), hidle⟩

end Sys2Proof.Machine
end

section
/-! Sessions and billing (chapter 8): cents and games on a meter, and the permission of a game. -/
namespace Sys2Proof.Machine

/-! ### Cents and games on a meter (R150, R151) -/

/-- A change of one lane's session, and of nothing else inside the part. -/
theorem sameInside_session {s t : State} {l : Lane} {f : Session → Session} {y : Session}
    (h : State.inside t = (State.inside s).modSession l f) (hy : f (s.sessions.get l) = y) :
    SameInside t { s with sessions := s.sessions.set l y } := by
  subst hy
  exact (sameInside_iff_inside ..).mpr h

theorem add_eq (m : Meter) (n : Nat) : m.add n =
    { m with cents := min 9999999 (m.cents + n), saturated := m.saturated || decide (9999999 < m.cents + n) } := by
  unfold Meter.add maxCents
  split
  · simp [*, Nat.min_eq_left (Nat.le_of_lt ‹_›)]
  · simp [*, Nat.min_eq_right (Nat.le_of_not_lt ‹_›)]

theorem reaches_iff (m : Meter) (n : Nat) : m.reaches n = true ↔ 9999999 < m.cents + n := decide_eq_true_iff

theorem inside_addCents (s : State) (l : Lane) (n : Nat) :
    State.inside (s.addCents l n) = (State.inside s).modSession l fun x => { x with meter := x.meter.add n } := by
  unfold State.addCents
  dsimp only
  split <;> simp

/-- A session with `n` bowler-games counted. -/
def Session.counted (x : Session) (n : Nat) : Session := { x with meter := { x.meter with games := min 65535 (x.meter.games + n) } }

theorem inside_countGames (s : State) (l : Lane) (n : Nat) :
    State.inside (s.countGames l n) = (State.inside s).modSession l fun x => x.counted n := by
  simp [State.countGames, satAdd, Session.counted]

/-- An addition of `n` cents locks the session: it passes the limit under HOLD_AND_LOCK, in OPEN or OVERTIME (R151, R155). -/
abbrev Session.LocksAt (x : Session) (n : Nat) : Prop :=
  9999999 < x.meter.cents + n ∧ x.overflow = .holdAndLock ∧ (x.state = .opened ∨ x.state = .overtime)

/-- A session after an addition of cents that can lock it. -/
def Session.charged (x : Session) (n : Nat) : Session :=
  { x with
    meter := x.meter.add n, state := if x.LocksAt n then .locked else x.state
    pausedFrom := if x.LocksAt n then none else x.pausedFrom }

/-- The same in figures, for a session in OPEN or OVERTIME. -/
theorem charged_eq {x : Session} (h : x.state = .opened ∨ x.state = .overtime) (n : Nat) : x.charged n = { x with
    state := if 9999999 < x.meter.cents + n ∧ x.overflow = .holdAndLock then .locked else x.state
    pausedFrom := if 9999999 < x.meter.cents + n ∧ x.overflow = .holdAndLock then none else x.pausedFrom
    meter := { x.meter with
      cents := min 9999999 (x.meter.cents + n), saturated := x.meter.saturated || decide (9999999 < x.meter.cents + n) } } := by
  simp only [Session.charged, add_eq, Session.LocksAt, h, and_true]

theorem modSession_congr {s : State} {l : Lane} {f g : Session → Session} (h : f (s.sessions.get l) = g (s.sessions.get l)) :
    s.modSession l f = s.modSession l g := by
  simp only [State.modSession, h]

theorem inside_charge (s : State) (l : Lane) (n : Nat) :
    State.inside (s.charge l n) = (State.inside s).modSession l fun x => x.charged n := by
  have hc : ((s.sessions.get l).meter.reaches n && (s.sessions.get l).overflow = .holdAndLock
      && ((s.sessions.get l).state = .opened || (s.sessions.get l).state = .overtime)) = true ↔ (s.sessions.get l).LocksAt n := by
    simp [reaches_iff, and_assoc]
  unfold State.charge
  dsimp only
  split
  · rename_i h
    rw [inside_enterSession, inside_addCents, modSession_comp]
    refine modSession_congr ?_
    rw [inside_sessions, Session.charged, if_pos (hc.mp h), if_pos (hc.mp h)]
  · rename_i h
    rw [inside_addCents]
    refine modSession_congr ?_
    rw [inside_sessions, Session.charged, if_neg (mt hc.mpr h), if_neg (mt hc.mpr h)]

/-! ### The permission of a game (R150) -/

section
variable {s : State} {l : Lane} {n : Nat} (ho : (s.sessions.get l).state = .opened)
include ho

theorem permitGame_spends (hm : (s.sessions.get l).mode = .prepaidGames) (hn : n ≤ (s.sessions.get l).prepaidGames) :
    s.permitGame l n = ((s.modSession l fun x => { x with prepaidGames := x.prepaidGames - n }).countGames l n, none) := by
  simp [State.permitGame, ho, hm, Nat.not_lt.mpr hn]

theorem permitGame_charges (hm : (s.sessions.get l).mode = .perGame) :
    s.permitGame l n = ((s.countGames l n).charge l (n * s.gamePrice), none) := by
  simp [State.permitGame, ho, hm]

theorem permitGame_counts (hm : (s.sessions.get l).mode = .timed) : s.permitGame l n = (s.countGames l n, none) := by
  simp [State.permitGame, ho, hm]

end

/-- Settles O26, by the billing mode of an OPEN session. -/
theorem gamePermission : Obligations.GamePermission := by
  unfold Obligations.GamePermission
  intro s l n b x m past lock changed _ _ hb
  refine ⟨permitGame_unopened, fun ho hm hn => ?_, fun ho hm hn => ?_, fun ho hm => ?_, fun ho hm => ?_⟩
  · rw [permitGame_short ho hm hn]
    exact ⟨rfl, sameInside_session (inside_enterSession ..) rfl⟩
  · rw [permitGame_spends ho hm hn]
    refine ⟨rfl, sameInside_session (f := fun x => Session.counted { x with prepaidGames := x.prepaidGames - n } n) ?_ rfl⟩
    rw [inside_countGames, inside_modSession, modSession_comp]
  · rw [permitGame_counts ho hm]
    exact ⟨rfl, sameInside_session (inside_countGames ..) rfl⟩
  · rw [permitGame_charges ho hm]
    have hprice : s.gamePrice = b.price := by rw [State.gamePrice, hb]
    refine ⟨rfl, sameInside_session (f := fun x => (x.counted n).charged (n * b.price)) ?_ ?_⟩
    · rw [inside_charge, inside_countGames, modSession_comp, hprice]
    · rw [charged_eq (x := x.counted n) (.inl ho), show (x.counted n).state = .opened from ho]
      rfl

end Sys2Proof.Machine
end

section
/-! Sessions and billing (chapter 8): the pause, and the minute tick. -/
namespace Sys2Proof.Machine

/-! ### The pause (R148) -/

/-- A session when its pause condition is evaluated. -/
def Session.paused (x : Session) (holds : Bool) : Session :=
  match x.state with
  | .opened | .overtime => if holds then { x with state := .paused, pausedFrom := some x.state } else x
  | .paused => if holds then x else { x with state := x.pausedFrom.getD .opened, pausedFrom := none }
  | .closed | .opening | .locked | .closing => x

theorem inside_pauseEval (s : State) (l : Lane) :
    State.inside (s.pauseEval l) = (State.inside s).modSession l fun x => x.paused (s.pauseHolds l) := by
  have stays (hx : (s.sessions.get l).paused (s.pauseHolds l) = s.sessions.get l) :
      State.inside s = (State.inside s).modSession l fun x => x.paused (s.pauseHolds l) := by
    rw [State.modSession, inside_sessions, hx, PerLane.set_get]
    rfl
  have enters {a : SessionState} {f : Option SessionState}
      (hx : (s.sessions.get l).paused (s.pauseHolds l) = { s.sessions.get l with state := a, pausedFrom := f }) :
      State.inside (s.enterSession l a f) = (State.inside s).modSession l fun x => x.paused (s.pauseHolds l) :=
    (inside_enterSession ..).trans (modSession_congr hx.symm)
  unfold State.pauseEval
  dsimp only
  split <;> rename_i h
  · split
    · exact enters (by simp [Session.paused, *])
    · exact stays (by simp [Session.paused, *])
  · split
    · exact enters (by simp [Session.paused, *])
    · exact stays (by simp [Session.paused, *])
  · split
    · exact stays (by simp [Session.paused, *])
    · exact enters (by simp [Session.paused, *])
  all_goals exact stays (by simp [Session.paused, *])

/-- The pause condition is of the machine and the return alone. -/
theorem pauseHolds_of_behind {s t : State} (h : State.behind t = State.behind s) (l : Lane) : t.pauseHolds l = s.pauseHolds l :=
  (congrArg (fun v : State => v.pauseHolds l) h :)

theorem homeGameOn_of_behind {s t : State} (h : State.behind t = State.behind s) (l : Lane) : t.homeGameOn l = s.homeGameOn l :=
  (congrArg (fun v : State => v.homeGameOn l) h :)

/-! ### The band in force (R153) -/

/-- In a table in order of start minute, the band in force stands last among those that have begun, or else last of all. -/
theorem bandAt_eq {rates : List Band} {m : Nat} {b : Band} (hs : rates.Pairwise fun b c => b.start < c.start)
    (hb : BandInForce rates m b) : bandAt rates m = some b := by
  have last {bs : List Band} (hs : bs.Pairwise fun b c => b.start < c.start) (hb : b ∈ bs) (hm : ∀ c ∈ bs, c.start ≤ b.start) :
      bs.getLast? = some b := by
    obtain rfl | ⟨front, z, rfl⟩ := List.eq_nil_or_concat' bs
    · cases hb
    obtain hb | hb := List.mem_append.mp hb
    · exact absurd ((List.pairwise_append.mp hs).2.2 b hb z (List.mem_singleton_self z)) (Nat.not_lt.mpr (hm z (by simp)))
    · rw [List.mem_singleton.mp hb, List.getLast?_concat]
  obtain ⟨hmem, ⟨hle, hmax⟩ | ⟨hlate, hmax⟩⟩ := hb
  · rw [bandAt, last (hs.filter _) (by simp [hmem, hle]) (by simpa using hmax)]
  · have hnone : rates.filter (fun b => b.start ≤ m) = [] := by simpa using hlate
    rw [bandAt, hnone, List.getLast?_nil]
    exact last hs hmem hmax

/-! ### The metering of a minute (R153, R154, R155) -/

namespace Session
variable (x : Session)

/-- A tick meters TIMED sessions in OPEN or OVERTIME. -/
abbrev Metered : Prop := x.mode = .timed ∧ (x.state = .opened ∨ x.state = .overtime)

/-- A session with one more minute on its meter. -/
def minuted : Session := { x with meter := { x.meter with minutes := min 65535 (x.meter.minutes + 1) } }

/-- A session without prepaid minutes left, in OVERTIME with a game and LOCKED without one. -/
def spent (game : Bool) : Session :=
  { x with state := if game then .overtime else .locked, pausedFrom := none, minuteAllowance := false, prepaidMinutes := 0 }

/-- A session that a minute is metered against. -/
def spends (game holds : Bool) : Session :=
  if 1 < x.prepaidMinutes then { x with prepaidMinutes := x.prepaidMinutes - 1 } else (x.spent game).paused (game && holds)

/-- A session that a minute is charged at an hourly rate, in sixtieths of a cent. -/
def hourCharged (hourly : Nat) : Session :=
  { x with meter := { x.meter with fraction := (x.meter.fraction + hourly) % 60 } }.charged ((x.meter.fraction + hourly) / 60)

/-- A session after a tick. -/
def ticked (hourly : Nat) (game holds : Bool) : Session :=
  if x.Metered then if x.minuteAllowance then x.minuted.spends game holds else x.minuted.hourCharged hourly else x

end Session

section
variable (s : State) (l : Lane) (minute : Nat)

theorem inside_minutesSpent (h : (s.sessions.get l).prepaidMinutes = 0) : State.inside (s.minutesSpent l) =
    (State.inside s).modSession l fun x => (x.spent (s.homeGameOn l)).paused (s.homeGameOn l && s.pauseHolds l) := by
  have hs : { s.sessions.get l with prepaidMinutes := 0 } = s.sessions.get l := by rw [← h]
  unfold State.minutesSpent
  dsimp only
  rw [show (s.modSession l _).homeGameOn l = s.homeGameOn l from rfl]
  cases hg : s.homeGameOn l
  · rw [if_neg Bool.false_ne_true, inside_enterSession, inside_modSession, modSession_comp]
    refine modSession_congr ?_
    rw [inside_sessions, ← hs]
    rfl
  · rw [if_pos rfl, inside_pauseEval, inside_enterSession, inside_modSession, modSession_comp, modSession_comp,
      pauseHolds_of_behind (s := s) ((behind_enterSession ..).trans (behind_modSession ..))]
    refine modSession_congr ?_
    rw [inside_sessions, ← hs]
    rfl

theorem inside_spendMinute : State.inside (s.spendMinute l) =
    (State.inside s).modSession l fun x => x.spends (s.homeGameOn l) (s.pauseHolds l) := by
  let t := (s.modSession l fun x => { x with prepaidMinutes := x.prepaidMinutes - 1 }).markMeter l
  have ht : State.inside t = (State.inside s).modSession l fun x => { x with prepaidMinutes := x.prepaidMinutes - 1 } :=
    inside_markMeter ..
  have hb : State.behind t = State.behind s := by simp [t, State.markMeter]
  have hx : t.sessions.get l = { s.sessions.get l with prepaidMinutes := (s.sessions.get l).prepaidMinutes - 1 } := by
    simpa using congrArg (fun v : State => v.sessions.get l) ht
  change State.inside (if (t.sessions.get l).prepaidMinutes = 0 then t.minutesSpent l else t) = _
  split
  · rename_i h
    rw [inside_minutesSpent t l h, ht, modSession_comp, homeGameOn_of_behind hb, pauseHolds_of_behind hb]
    refine modSession_congr ?_
    rw [inside_sessions, Session.spends, if_neg (by rw [hx] at h; dsimp only at h; omega)]
    rfl
  · rename_i h
    rw [ht]
    refine modSession_congr ?_
    rw [inside_sessions, Session.spends, if_pos (by rw [hx] at h; dsimp only at h; omega)]

theorem inside_chargeMinute : State.inside (s.chargeMinute l minute) =
    (State.inside s).modSession l fun x => x.hourCharged (s.hourlyAt minute) := by
  unfold State.chargeMinute
  dsimp only
  rw [inside_charge, inside_modSession, modSession_comp]
  exact modSession_congr rfl

theorem inside_meterTick : State.inside (s.meterTick l minute) =
    (State.inside s).modSession l fun x => x.ticked (s.hourlyAt minute) (s.homeGameOn l) (s.pauseHolds l) := by
  let t := (s.modSession l fun x => { x with meter := { x.meter with minutes := satAdd x.meter.minutes 1 } }).markMeter l
  have ht : State.inside t = (State.inside s).modSession l Session.minuted := inside_markMeter ..
  have hb : State.behind t = State.behind s := by simp [t, State.markMeter]
  have hm : ((s.sessions.get l).mode = .timed
      && ((s.sessions.get l).state = .opened || (s.sessions.get l).state = .overtime)) = true ↔ (s.sessions.get l).Metered := by
    simp
  change State.inside (if _ then if (s.sessions.get l).minuteAllowance then t.spendMinute l else t.chargeMinute l minute else s) = _
  by_cases h : (s.sessions.get l).Metered
  · rw [if_pos (hm.mpr h)]
    split
    · rename_i ha
      rw [inside_spendMinute, ht, modSession_comp, homeGameOn_of_behind hb, pauseHolds_of_behind hb]
      refine modSession_congr ?_
      rw [inside_sessions, Session.ticked, if_pos h, if_pos ha]
    · rename_i ha
      rw [inside_chargeMinute, ht, modSession_comp, show t.hourlyAt minute = s.hourlyAt minute from
        (congrArg (fun v : State => v.hourlyAt minute) hb :)]
      refine modSession_congr ?_
      rw [inside_sessions, Session.ticked, if_pos h, if_neg ha]
  · rw [if_neg (mt hm.mp h), State.modSession]
    simp only [inside_sessions]
    rw [Session.ticked, if_neg h, PerLane.set_get]
    rfl

end

/-! ### The tick (R152) -/

theorem tick_effect {s : State} {m : Nat} (h : s.timeOfDay = some m) :
    SameInside s.tick { s with timeOfDay := some ((m + 1) % 1440), minuteTimer := some 6000, sessions := s.tick.sessions }
      ∧ ∀ l, s.tick.sessions.get l = (s.sessions.get l).ticked (s.hourlyAt m) (s.homeGameOn l) (s.pauseHolds l) := by
  let t : State := { s with timeOfDay := some ((m + 1) % 1440), minuteTimer := some minuteLength }
  have e : State.inside s.tick = ((State.inside t).modSession .left fun x =>
      x.ticked (s.hourlyAt m) (s.homeGameOn .left) (s.pauseHolds .left)).modSession .right fun x =>
        x.ticked (s.hourlyAt m) (s.homeGameOn .right) (s.pauseHolds .right) := by
    have hl := inside_meterTick t .left m
    have hb : State.behind (t.meterTick .left m) = State.behind t := (congrArg State.behind hl :)
    rw [State.tick, h]
    dsimp only
    rw [inside_markFeeds, inside_meterTick, hl, homeGameOn_of_behind hb, pauseHolds_of_behind hb,
      show (t.meterTick .left m).hourlyAt m = t.hourlyAt m from (congrArg (fun v : State => v.hourlyAt m) hb :)]
    rfl
  have hs : s.tick.sessions = _ := (congrArg State.sessions e :)
  refine ⟨(sameInside_iff_behind s.tick t).mpr (congrArg State.behind e :), fun l => ?_⟩
  rw [hs]
  cases l <;> rfl

/-- Settles O23, by the metering of each lane's session. -/
theorem minuteTickMeters : Obligations.MinuteTickMeters := by
  unfold Obligations.MinuteTickMeters
  intro s minute b htimer htime hminute hsorted hband hbounds
  obtain ⟨hrest, hsessions⟩ := tick_effect htime
  have hrate : s.hourlyAt minute = b.hourly := by rw [State.hourlyAt, bandAt_eq hsorted hband]
  have hnext : (minute + 1) % 1440 = if minute = 1439 then 0 else minute + 1 := by split <;> omega
  have hexpires : s.minuteExpires = s.tick := if_pos (Option.isSome_iff_ne_none.mpr htimer)
  rw [hrate] at hsessions
  refine ⟨s.tick, ?_, hnext ▸ hrest, fun l => ?_⟩
  · change execMinuteTimerExpiry s = _
    rw [execMinuteTimerExpiry, hexpires]
  · intro x m metered sum past
    rw [hsessions]
    refine ⟨fun h => if_neg h, fun h ha hp => ?_, fun h ha hp hh => ?_, fun h ha => ?_⟩
    · rw [Session.ticked, if_pos h, if_pos ha]
      exact if_pos hp
    · have hone : ¬ 1 < x.minuted.prepaidMinutes := by simp [Session.minuted, hp]
      rw [Session.ticked, if_pos h, if_pos ha, Session.spends, if_neg hone, hh, Bool.and_false]
      cases hg : s.homeGameOn l
      · rfl
      · rfl
    · rw [Session.ticked, if_pos h, if_neg (Bool.eq_false_iff.mp ha)]
      exact charged_eq (x := { x.minuted with meter := { x.minuted.meter with fraction := sum % 60 } }) h.2 (sum / 60)

end Sys2Proof.Machine
end

section
/-! Sessions and billing (chapter 8): set-time, set-rates and set-session-flags. -/
namespace Sys2Proof.Machine

/-! ### Requests whose event ends with the loads of the feeds -/

/-- A request of an idle desk that sends no notice, and makes nothing due but loads of the feeds. -/
theorem State.serves_loading {i : Instr} {s u w : State} {tag : Tag} {r : Request} {a : Answer}
    (hi : i.request = some (.desk, tag, r)) (hl : LinkIdle s .desk) (ha : admits .desk r.kind = true) (hm : ∀ m, r ≠ .setMask m)
    (hr : r ≠ .linkReset) (h : handle .desk r (s.queuedUp .desk tag r) = (u, a)) (hf : ∀ v, finishRequest r v = v.feedLoads)
    (hports : u.ports = (s.queuedUp .desk tag r).ports) (hw : State.inside u = State.inside w) :
    ∃ t, exec i s = .next t ∧ Replied t .desk tag r a ∧ OthersIdle s t .desk ∧ SameInside t w := by
  obtain ⟨hexec, hreplied⟩ := State.served hi hl ha hm hr h
  refine ⟨_, hexec, hreplied, State.others_of_same tag r a (by rw [hf]; exact hports), ?_⟩
  rw [sameInside_iff_inside]
  simp [State.answered, hf, hw]

/-! ### set-rates (R161) -/

theorem insertBand_perm (b : Band) (bands : List Band) : (insertBand b bands).Perm (b :: bands) := by
  induction bands with
  | nil => exact .refl _
  | cons c rest ih =>
    unfold insertBand
    split
    · exact .refl _
    · exact (ih.cons c).trans (.swap b c rest)

theorem insertBand_sorted {b : Band} {bands : List Band} (h : bands.Pairwise fun b c => b.start < c.start)
    (hb : ∀ c ∈ bands, c.start ≠ b.start) : (insertBand b bands).Pairwise fun b c => b.start < c.start := by
  induction bands with
  | nil => exact List.pairwise_singleton ..
  | cons c rest ih =>
    obtain ⟨hc, hrest⟩ := List.pairwise_cons.mp h
    have hne : c.start ≠ b.start := hb c (by simp)
    unfold insertBand
    split
    · have hlt : b.start < c.start := by omega
      refine List.pairwise_cons.mpr ⟨fun d hd => ?_, h⟩
      obtain rfl | hd := List.mem_cons.mp hd
      · exact hlt
      · exact hlt.trans (hc d hd)
    · refine List.pairwise_cons.mpr ⟨fun d hd => ?_, ih hrest fun d hd => hb d (List.mem_cons_of_mem c hd)⟩
      obtain rfl | hd := List.mem_cons.mp ((insertBand_perm b rest).mem_iff.mp hd)
      · omega
      · exact hc d hd

/-- A table put in order of start minute. -/
theorem sortBands_perm (bands : List Band) : (bands.foldr insertBand []).Perm bands := by
  induction bands with
  | nil => exact .refl _
  | cons b rest ih => exact (insertBand_perm ..).trans (ih.cons b)

theorem sortBands_sorted {bands : List Band} (h : (bands.map (·.start)).Nodup) :
    (bands.foldr insertBand []).Pairwise fun b c => b.start < c.start := by
  induction bands with
  | nil => exact .nil
  | cons b rest ih =>
    obtain ⟨hb, hrest⟩ := List.nodup_cons.mp h
    exact insertBand_sorted (ih hrest) fun c hc e =>
      hb (List.mem_map.mpr ⟨c, (sortBands_perm rest).mem_iff.mp hc, e⟩)

theorem distinctStarts_iff (bands : List Band) : distinctStarts bands = true ↔ (bands.map (·.start)).Nodup := by
  induction bands with
  | nil => simp [distinctStarts]
  | cons b rest ih => simp [distinctStarts, ih, List.nodup_cons]

/-- What set-rates asks of a table. -/
abbrev BandsOk (bands : List Band) : Prop :=
  1 ≤ bands.length ∧ bands.length ≤ 8 ∧ (∀ b ∈ bands, b.start ≤ 1439 ∧ b.price ≤ 65535 ∧ b.hourly ≤ 65535)
    ∧ (bands.map (·.start)).Nodup

/-- The state with a table of rates, in order of start minute, and the marks of the meters that are displayed. -/
def State.rated (s : State) (bands : List Band) : State :=
  ({ s with rates := bands.foldr insertBand [] }.markFeed .left false s.sessions.left.meterDisplay).markFeed .right false
    s.sessions.right.meterDisplay

theorem handle_setRates (bands : List Band) (s : State) : handle .desk (.setRates bands) s =
    if BandsOk bands then (s.rated bands, .ok []) else (s, .refused .range) := by
  have hranges : (1 ≤ bands.length && bands.length ≤ 8
      && bands.all fun b => b.start ≤ 1439 && b.price ≤ 65535 && b.hourly ≤ 65535) = true ↔
      1 ≤ bands.length ∧ bands.length ≤ 8 ∧ ∀ b ∈ bands, b.start ≤ 1439 ∧ b.price ≤ 65535 ∧ b.hourly ≤ 65535 := by
    simp [and_assoc]
  change handleSetRates bands s = _
  by_cases hb : BandsOk bands
  · obtain ⟨h1, h8, hr, hn⟩ := id hb
    rw [if_pos hb, handleSetRates, hranges.mpr ⟨h1, h8, hr⟩, (distinctStarts_iff bands).mpr hn]
    rfl
  · rw [if_neg hb, handleSetRates]
    split
    · rfl
    split
    · rfl
    · rename_i hr hn
      rw [Bool.not_eq_true, Bool.not_eq_false'] at hr hn
      obtain ⟨h1, h8, hr⟩ := hranges.mp hr
      exact absurd ⟨h1, h8, hr, (distinctStarts_iff bands).mp hn⟩ hb

/-! ### set-session-flags (R149) -/

section
variable {s : State} {lane overflow : Nat} {l : Lane} {o : OverflowMode} (hl : laneOf lane = some l) (ho : overflowOf overflow = some o)
  (league autoNext foulDetect meterDisplay : Bool)
include hl ho

theorem handleSetSessionFlags_closed (h : (s.sessions.get l).state = .closed) :
    handleSetSessionFlags lane league autoNext foulDetect meterDisplay overflow s = refuse .state s := by
  simp [handleSetSessionFlags, hl, ho, h]

theorem handleSetSessionFlags_open (h : (s.sessions.get l).state ≠ .closed) :
    let out := handleSetSessionFlags lane league autoNext foulDetect meterDisplay overflow s
    out.2 = .ok [] ∧ SameInside out.1 { s with sessions := s.sessions.set l { s.sessions.get l with
      league := league, autoNext := autoNext, foulDetect := foulDetect, meterDisplay := meterDisplay, overflow := o } } := by
  simp only [handleSetSessionFlags, hl, ho, if_neg h, accept, true_and]
  exact sameInside_session (f := fun x => { x with
    league := league, autoNext := autoNext, foulDetect := foulDetect, meterDisplay := meterDisplay, overflow := o }) (by simp) rfl

end

/-- Settles O18, request by request. -/
theorem timeRatesAndFlags : Obligations.TimeRatesAndFlags := by
  unfold Obligations.TimeRatesAndFlags
  refine ⟨fun tag s hi => ⟨fun minute hm => ?_, fun minute hm => ?_, fun bands h1 h8 hr hn => ?_, fun bands hb => ?_⟩,
    fun tag lane league autoNext foulDetect meterDisplay overflow l o s hi hl ho => ⟨fun h => ?_, fun h => ?_⟩⟩
  · exact State.serves_loading rfl hi rfl nofun nofun (if_pos hm) (fun _ => rfl) rfl (inside_markFeeds ..)
  · exact State.serves_loading rfl hi rfl nofun nofun (if_neg (Nat.not_le.mpr hm)) (fun _ => rfl) rfl rfl
  · have hserved := handle_setRates bands (s.queuedUp .desk tag (.setRates bands))
    rw [if_pos ⟨h1, h8, hr, hn⟩] at hserved
    obtain ⟨t, hexec, hreplied, hothers, hinside⟩ := State.serves_loading (i := .setRates .desk tag bands)
      (w := { s with rates := bands.foldr insertBand [] }) rfl hi rfl nofun nofun hserved (fun _ => rfl) rfl
        ((inside_markFeed ..).trans (inside_markFeed ..))
    have hrates : t.rates = bands.foldr insertBand [] := (congrArg State.rates hinside :)
    refine ⟨t, hexec, hreplied, hothers, ?_⟩
    rw [hrates]
    exact ⟨sortBands_perm bands, sortBands_sorted hn, hinside⟩
  · have hserved := handle_setRates bands (s.queuedUp .desk tag (.setRates bands))
    rw [if_neg hb] at hserved
    exact State.serves_loading rfl hi rfl nofun nofun hserved (fun _ => rfl) rfl rfl
  · obtain ⟨hok, hinside⟩ := handleSetSessionFlags_open (s := s.queuedUp .desk tag _) hl ho league autoNext foulDetect meterDisplay h
    exact State.serves_same rfl hi rfl nofun nofun (fun _ => .inl rfl) hok (hinside.ports s.ports)
  · exact State.serves_same' rfl hi rfl nofun nofun (fun _ => .inl rfl)
      ⟨_, handleSetSessionFlags_closed hl ho league autoNext foulDetect meterDisplay h, rfl⟩

end Sys2Proof.Machine
end

section
/-! Sessions and billing (chapter 8): sessions that a change of machine or of the return opens, pauses and resumes. -/
namespace Sys2Proof.Machine

/-! ### The pause condition (R148) -/

theorem pauseHolds_iff (s : State) (l : Lane) : s.pauseHolds l = true ↔
    (s.psc.get l).state = .fault ∨ (s.psc.get l).state = .service ∨ s.ret.state = .fault := by
  simp [State.pauseHolds, or_assoc]

section
variable {x : Session}

/-- An OPEN or OVERTIME session pauses while the condition holds. -/
theorem paused_running (h : x.state = .opened ∨ x.state = .overtime) (holds : Bool) :
    x.paused holds = if holds then { x with state := .paused, pausedFrom := some x.state } else x := by
  rcases h with h | h <;> simp [Session.paused, h]

/-- A PAUSED session returns to the state it left when the condition does not hold. -/
theorem paused_from {f : SessionState} (h : x.state = .paused) (hf : x.pausedFrom = some f) (holds : Bool) :
    x.paused holds = if holds then x else { x with state := f, pausedFrom := none } := by
  simp [Session.paused, h, hf]

theorem paused_waiting (h : x.state = .paused) : x.paused true = x := by simp [Session.paused, h]

theorem paused_steady (h : x.state ≠ .opened ∧ x.state ≠ .overtime ∧ x.state ≠ .paused) (holds : Bool) : x.paused holds = x := by
  obtain ⟨ho, ht, hp⟩ := h
  unfold Session.paused
  split
  · exact absurd ‹_› ho
  · exact absurd ‹_› ht
  · exact absurd ‹_› hp
  all_goals rfl

/-- A second evaluation of the condition leaves a session that ran before the first. -/
theorem paused_twice (h : x.state = .opened ∨ x.state = .overtime) (holds : Bool) :
    (x.paused holds).paused holds = x.paused holds := by
  rw [paused_running h]
  cases holds
  · exact paused_running h false
  · exact paused_waiting rfl

end

/-! ### Sessions at a change of machine (R147, R148) -/

/-- An OPENING session when its machine has changed: in READY it opens, or pauses at once. -/
def Session.opens (x : Session) (ready holds : Bool) : Session :=
  if ready ∧ x.state = .opening then ({ x with state := .opened, pausedFrom := none }).paused holds else x

section
variable (s : State) (l : Lane)

theorem pauseEval_sessions : (s.pauseEval l).sessions = s.sessions.set l ((s.sessions.get l).paused (s.pauseHolds l)) :=
  (congrArg State.sessions (inside_pauseEval s l) :)

theorem opens_sessions : (s.opens l).sessions =
    s.sessions.set l ((s.sessions.get l).opens ((s.psc.get l).state = .ready) (s.pauseHolds l)) := by
  have hc : ((s.psc.get l).state = .ready && (s.sessions.get l).state = .opening) = true ↔
      decide ((s.psc.get l).state = .ready) = true ∧ (s.sessions.get l).state = .opening := by simp
  unfold State.opens Session.opens
  by_cases h : decide ((s.psc.get l).state = .ready) = true ∧ (s.sessions.get l).state = .opening
  · rw [if_pos (hc.mpr h), if_pos h, pauseEval_sessions, enterSession_sessions, PerLane.set_set, PerLane.get_set,
      pauseHolds_of_behind (s := s) (behind_enterSession ..)]
  · rw [if_neg (mt hc.mp h), if_neg h, PerLane.set_get]

theorem leaveService_keeps : (s.leaveService l).sessions = s.sessions ∧ (s.leaveService l).ret = s.ret := by
  unfold State.leaveService
  dsimp only
  split <;> exact ⟨rfl, rfl⟩

/-- What a change of machine makes of a session. -/
theorem machineChanged_sessions (before : MachineState) (classes : Option (List PointClass)) :
    (s.machineChanged l before classes).sessions = s.sessions.set l
      (((s.sessions.get l).opens ((s.psc.get l).state = .ready) (s.pauseHolds l)).paused (s.pauseHolds l)) := by
  have follows {v : State} (hs : v.sessions = s.sessions) (hp : v.psc = s.psc) (hr : v.ret = s.ret) :
      (((v.opens l).pauseEval l).bannerEval l).sessions = s.sessions.set l
        (((s.sessions.get l).opens ((s.psc.get l).state = .ready) (s.pauseHolds l)).paused (s.pauseHolds l)) := by
    have hh : v.pauseHolds l = s.pauseHolds l := by simp only [State.pauseHolds, hp, hr]
    change ((v.opens l).pauseEval l).sessions = _
    rw [pauseEval_sessions, opens_sessions, PerLane.set_set, PerLane.get_set, pauseHolds_of_behind (behind_opens v l), hh, hs, hp]
  unfold State.machineChanged
  dsimp only
  split
  · refine follows ((leaveService_keeps ..).1.trans ?_) ((leaveService_psc ..).trans ?_) ((leaveService_keeps ..).2.trans ?_) <;> simp
  · refine follows ?_ ?_ ?_ <;> simp

/-- What the entry of a machine to another state makes of its session. -/
theorem setMachine_sessions {state : MachineState} (h : (s.psc.get l).state ≠ state) (cause : Option FaultCause)
    (classes : Option (List PointClass)) :
    let holds := decide (state = .fault) || decide (state = .service) || decide (s.ret.state = .fault)
    (s.setMachine l state cause classes).sessions
      = s.sessions.set l (((s.sessions.get l).opens (state = .ready) holds).paused holds) := by
  intro holds
  rw [State.setMachine, if_neg h, machineChanged_sessions]
  simp [State.pauseHolds, Pinsetter.enter, holds]

/-- What the start of a machine makes of its session: an OPEN or OVERTIME one pauses while the return is in FAULT. -/
theorem startMachine_sessions : (s.startMachine l).sessions =
    if (s.psc.get l).state = .standby then s.sessions.set l ((s.sessions.get l).paused (s.ret.state = .fault)) else s.sessions := by
  unfold State.startMachine
  split
  · rename_i h
    rw [setMachine_sessions _ _ (by simp [h])]
    rfl
  · rfl

end

theorem sameInside_of_behind {u w : State} (h : State.behind u = State.behind w) (hs : u.sessions = w.sessions) : SameInside u w := by
  have e := (sameInside_iff_behind u w).mpr h
  rwa [hs] at e

/-- A machine that leaves STANDBY for STARTING with its start timer (R49). -/
def Pinsetter.starts (p : Pinsetter) (startTime : Nat) : Pinsetter :=
  { p with state := .starting, cause := none, startTimer := some (100 * startTime), stepTimer := none }

/-! ### open-session (R146) -/

section
variable {s : State} {lane mode overflow allowance : Nat} {l : Lane} {m : BillingMode} {o : OverflowMode}
  (league autoNext foulDetect meterDisplay : Bool)

/-- The state with the session of a lane opened. -/
def State.sessionOpens (s : State) (l : Lane) (m : BillingMode) (league autoNext foulDetect meterDisplay : Bool) (o : OverflowMode)
    (allowance : Nat) : State :=
  (s.modSession l fun x => x.open m league autoNext foulDetect meterDisplay o allowance s.timeOfDay).enterSession l .opening none

theorem handleOpenSession_accepts (hl : laneOf lane = some l) (hm : billingOf mode = some m) (ho : overflowOf overflow = some o)
    (htimed : m = .timed → allowance ≤ 1440) (hgames : m = .prepaidGames → allowance ≤ 999) (hc : s.configured = true)
    (hx : (s.sessions.get l).state = .closed) (hten : s.coversTen l = true) (htime : m = .timed → s.timeOfDay ≠ none)
    (hrates : m ≠ .prepaidGames → s.rates ≠ []) :
    handleOpenSession lane mode league autoNext foulDetect meterDisplay overflow allowance s =
      accept ((s.sessionOpens l m league autoNext foulDetect meterDisplay o allowance).startMachine l) := by
  have hallow : allowanceOk m 0 allowance = true := by cases m <;> simp_all [allowanceOk]
  have htimeOk : s.timeOk m = true := by cases m <;> simp_all [State.timeOk, Option.isSome_iff_ne_none]
  have hratesOk : s.ratesOk m = true := by cases m <;> simp_all [State.ratesOk]
  simp only [handleOpenSession, hl, hm, ho, hallow, hc, hx, hten, htimeOk, hratesOk]
  rfl

end

/-- What an accepted open-session leaves, for the session record `y` that it writes. -/
theorem sameInside_sessionOpens {s : State} {l : Lane} {m : BillingMode} {league autoNext foulDetect meterDisplay : Bool}
    {o : OverflowMode} {allowance : Nat} {y : Session}
    (hy : { (s.sessions.get l).open m league autoNext foulDetect meterDisplay o allowance s.timeOfDay with
      state := .opening, pausedFrom := none } = y) :
    SameInside ((s.sessionOpens l m league autoNext foulDetect meterDisplay o allowance).startMachine l) { s with
      sessions := s.sessions.set l y
      psc := if (s.psc.get l).state = .standby then s.psc.set l ((s.psc.get l).starts s.settings.startTime) else s.psc } := by
  subst hy
  have hv : State.inside (s.sessionOpens l m league autoNext foulDetect meterDisplay o allowance) =
      (State.inside s).modSession l fun x =>
        { x.open m league autoNext foulDetect meterDisplay o allowance s.timeOfDay with state := .opening, pausedFrom := none } := by
    simp [State.sessionOpens]
  generalize s.sessionOpens l m league autoNext foulDetect meterDisplay o allowance = v at hv ⊢
  have hs : v.sessions = s.sessions.set l _ := (congrArg State.sessions hv :)
  have hx : (v.sessions.get l).state = .opening := by rw [hs, PerLane.get_set]
  have hp : v.psc = s.psc := (congrArg State.psc hv :)
  have hset : v.settings = s.settings := (congrArg State.settings hv :)
  rw [sameInside_iff_inside, inside_startMachine v l (by simp [hx]), hv, hp, hset]
  split <;> rfl

/-- Settles O19, by the request's own effect and by the entry of the machine to READY. -/
theorem openSessionOpens : Obligations.OpenSessionOpens := by
  unfold Obligations.OpenSessionOpens
  refine ⟨fun tag lane mode league autoNext foulDetect meterDisplay overflow allowance l m o s hi hl hm ho htimed hgames hc hx hten htime
    hrates => ?_, fun s l h => ?_⟩
  · intro x opened p
    have hopened : { x.open m league autoNext foulDetect meterDisplay o allowance s.timeOfDay with
        state := .opening, pausedFrom := none } = opened := by cases m <;> rfl
    let q := s.queuedUp .desk tag (.openSession lane mode league autoNext foulDetect meterDisplay overflow allowance)
    have hq := handleOpenSession_accepts (s := q) league autoNext foulDetect meterDisplay hl hm ho htimed hgames hc hx hten htime hrates
    refine State.serves_with' rfl hi rfl nofun nofun ⟨_, hq, ?_⟩
    rw [sameInside_iff_inside, (sameInside_iff_inside ..).mp (sameInside_sessionOpens (s := q) hopened)]
    rfl
  · intro x t stops
    have hs : t.sessions = s.sessions.set l ((x.opens true stops).paused stops) := setMachine_sessions s l h none none
    refine ⟨?_, ?_, fun hx => ?_, fun hx => ?_⟩
    · change ((s.setMachine l .ready).psc.get l).state = .ready
      rw [setMachine_psc, PerLane.get_set]
      rfl
    · rw [hs, get_set_otherLane]
    · rw [hs, PerLane.get_set, Session.opens, if_pos ⟨rfl, hx⟩, paused_twice (.inl rfl), paused_running (.inl rfl)]
      cases stops <;> rfl
    · have hsteady : x.Steady := by rcases hx with h | h | h <;> simp [Session.Steady, h]
      have hopening : x.state ≠ .opening := by rcases hx with h | h | h <;> simp [h]
      rw [hs, PerLane.get_set, Session.opens, if_neg fun h => hopening h.2, paused_steady hsteady]

end Sys2Proof.Machine
end

section
/-! Sessions and billing (chapter 8): unlock, and sessions that pause and resume. -/
namespace Sys2Proof.Machine

/-- Two states that are equal inside differ in link ports and monitor feeds. -/
theorem eq_of_inside {s t : State} (h : State.inside t = State.inside s) : ∃ P F, t = { s with ports := P, feeds := F } :=
  ⟨t.ports, t.feeds, congrArg (fun v : State => { v with ports := t.ports, feeds := t.feeds }) h⟩

/-! ### unlock (R156) -/

/-- The start of a machine and the pause condition after it, for a session that runs. -/
theorem sameInside_startsAndPauses {s : State} {l : Lane} (hx : (s.sessions.get l).state = .opened) :
    SameInside ((s.startMachine l).pauseEval l) { s with
      sessions := s.sessions.set l ((s.sessions.get l).paused (s.pauseHolds l))
      psc := if (s.psc.get l).state = .standby then s.psc.set l ((s.psc.get l).starts s.settings.startTime) else s.psc } := by
  have hb : State.behind (s.startMachine l) = State.behind { s with
      psc := if (s.psc.get l).state = .standby then s.psc.set l ((s.psc.get l).starts s.settings.startTime) else s.psc } := by
    rw [behind_startMachine]
    split <;> rfl
  refine sameInside_of_behind ((behind_pauseEval ..).trans hb) ?_
  rw [pauseEval_sessions, pauseHolds_of_behind hb, startMachine_sessions]
  by_cases hp : (s.psc.get l).state = .standby
  · have hholds : s.pauseHolds l = decide (s.ret.state = .fault) := by simp [State.pauseHolds, hp]
    have hstarts : ((if (s.psc.get l).state = .standby then s.psc.set l ((s.psc.get l).starts s.settings.startTime)
        else s.psc).get l).state = .starting := by simp [hp, Pinsetter.starts]
    rw [if_pos hp, PerLane.set_set, PerLane.get_set, hholds]
    simp only [State.pauseHolds, hstarts]
    exact congrArg _ (paused_twice (.inl hx) _)
  · rw [if_neg hp, if_neg hp]

section
variable {s : State} {lane mode allowance : Nat} {l : Lane} {m : BillingMode}

theorem handleUnlock_accepts (hl : laneOf lane = some l) (hm : billingOf mode = some m) (hx : (s.sessions.get l).state = .locked)
    (htimed : m = .timed → allowance ≤ 1440 ∧ s.timeOfDay ≠ none)
    (hgames : m = .prepaidGames → 1 ≤ allowance ∧ allowance ≤ 999 ∧ (s.sessions.get l).mode = .prepaidGames
      ∧ (s.sessions.get l).prepaidGames + allowance ≤ 999 ∧ (s.sessions.get l).gamesGranted + allowance ≤ 65535)
    (hrates : m ≠ .prepaidGames → s.rates ≠ []) :
    handleUnlock lane mode allowance s = accept
      (((((s.modSession l fun x => x.extend m allowance).enterSession l .opened none).startMachine l).pauseEval l)) := by
  have hallow : allowanceOk m 1 allowance = true := by cases m <;> simp_all [allowanceOk]
  have htimeOk : s.timeOk m = true := by cases m <;> simp_all [State.timeOk, Option.isSome_iff_ne_none]
  have hratesOk : s.ratesOk m = true := by cases m <;> simp_all [State.ratesOk]
  have hfit : (s.sessions.get l).gamesFit m allowance = true := by cases m <;> simp_all [Session.gamesFit]
  have hmode : (decide (m = .prepaidGames) && decide ((s.sessions.get l).mode ≠ .prepaidGames)) = false := by
    cases m <;> simp_all
  simp only [handleUnlock, hl, hm, hallow, hx, htimeOk, hratesOk, hfit, hmode]
  rfl

end

/-- What an accepted unlock leaves. -/
theorem sameInside_unlocked (s : State) (l : Lane) (m : BillingMode) (allowance : Nat) :
    SameInside ((((s.modSession l fun x => x.extend m allowance).enterSession l .opened none).startMachine l).pauseEval l) { s with
      sessions := s.sessions.set l
        (Session.paused { (s.sessions.get l).extend m allowance with state := .opened, pausedFrom := none } (s.pauseHolds l))
      psc := if (s.psc.get l).state = .standby then s.psc.set l ((s.psc.get l).starts s.settings.startTime) else s.psc } := by
  have hv : State.inside ((s.modSession l fun x => x.extend m allowance).enterSession l .opened none) =
      (State.inside s).modSession l fun x => { x.extend m allowance with state := .opened, pausedFrom := none } := by simp
  obtain ⟨P, F, hv⟩ := eq_of_inside
    (s := s.modSession l fun x => { x.extend m allowance with state := .opened, pausedFrom := none }) hv
  rw [hv, sameInside_iff_inside, (sameInside_iff_inside ..).mp (sameInside_startsAndPauses (by simp))]
  simp only [State.modSession, PerLane.get_set, PerLane.set_set]
  rfl

/-! ### Sessions that the return pauses (R148) -/

theorem pauseEval_waits {s : State} {l : Lane} (hx : (s.sessions.get l).state = .paused) (h : s.pauseHolds l = true) :
    s.pauseEval l = s := by simp [State.pauseEval, hx, h]

theorem pauseEval_runs {s : State} {l : Lane} (hx : (s.sessions.get l).state = .opened ∨ (s.sessions.get l).state = .overtime)
    (h : s.pauseHolds l = false) : s.pauseEval l = s := by
  rcases hx with hx | hx <;> simp [State.pauseEval, hx, h]

theorem pauseEvals_session (s : State) (l : Lane) : s.pauseEvals.sessions.get l = (s.sessions.get l).paused (s.pauseHolds l) := by
  rw [State.pauseEvals, pauseEval_sessions, pauseEval_sessions, pauseHolds_of_behind (behind_pauseEval s .left)]
  cases l <;> rfl

/-- What a change of the return's state makes of the sessions. -/
theorem setReturn_session (s : State) (l : Lane) (state : ReturnState) (cause : Option ReturnCause) :
    (s.setReturn state cause).sessions.get l = (s.sessions.get l).paused
      (decide ((s.psc.get l).state = .fault) || decide ((s.psc.get l).state = .service) || decide (state = .fault)) := by
  have told (v : State) (n : Notice) : (v.tellReturn n).pauseEvals.sessions.get l = (v.sessions.get l).paused (v.pauseHolds l) := by
    rw [pauseEvals_session, pauseHolds_of_behind (behind_tellReturn v n)]
    exact (congrArg (fun w : State => (w.sessions.get l).paused (v.pauseHolds l)) (inside_tellReturn v n) :)
  exact told ..

/-- Settles O20, by the request's own effect and by the pause of a session. -/
theorem unlockReopens : Obligations.UnlockReopens := by
  unfold Obligations.UnlockReopens
  refine ⟨fun tag lane mode allowance l m s hi hl hm hx htimed hgames hrates => ?_, fun s l => ?_, fun s l m cause hm hp hx => ?_,
    fun s cause l hx => ?_, fun s l f hf hv hx hfrom => ?_⟩
  · intro x p
    let q := s.queuedUp .desk tag (.unlock lane mode allowance)
    have hq := handleUnlock_accepts (s := q) hl hm hx htimed hgames hrates
    refine State.serves_with' rfl hi rfl nofun nofun ⟨_, hq, ?_⟩
    have hy : Session.paused { x.extend m allowance with state := .opened, pausedFrom := none } (s.pauseHolds l) = { x with
        state := if s.pauseHolds l then .paused else .opened
        pausedFrom := if s.pauseHolds l then some .opened else none
        mode := m
        prepaidGames := if m = .prepaidGames then x.prepaidGames + allowance else x.prepaidGames
        gamesGranted := if m = .prepaidGames then x.gamesGranted + allowance else x.gamesGranted
        minuteAllowance := if m = .timed then decide (0 < allowance) else if m = .perGame then false else x.minuteAllowance
        prepaidMinutes := if m = .timed then allowance else x.prepaidMinutes } := by
      rw [paused_running (.inl rfl)]
      cases s.pauseHolds l <;> cases m <;> rfl
    rw [← hy, sameInside_iff_inside, (sameInside_iff_inside ..).mp (sameInside_unlocked q l m allowance)]
    rfl
  · intro x t holds becomes
    have ht : State.inside t = (State.inside s).modSession l fun x => x.paused (s.pauseHolds l) := inside_pauseEval s l
    have hh : s.pauseHolds l = true ↔ holds := pauseHolds_iff s l
    refine ⟨fun h hx => ?_, fun h hx f hf => ?_, fun h => ?_⟩
    · refine sameInside_session ht ?_
      rw [hh.mpr h]
      exact paused_running hx true
    · refine sameInside_session ht ?_
      rw [Bool.eq_false_iff.mpr (mt hh.mp h)]
      exact paused_from hx hf false
    · rcases h with ⟨h, hx⟩ | ⟨h, hx⟩ | h
      · exact pauseEval_waits hx (hh.mpr h)
      · exact pauseEval_runs hx (Bool.eq_false_iff.mpr (mt hh.mp h))
      · exact pauseEval_steady (by rcases h with h | h | h | h <;> simp [Session.Steady, show (s.sessions.get l).state = _ from h])
  · have hopening : (s.sessions.get l).state ≠ .opening := by rcases hx with h | h <;> simp [h]
    have hholds : (decide (m = .fault) || decide (m = .service) || decide (s.ret.state = .fault)) = true := by
      rcases hm with rfl | rfl <;> rfl
    rw [setMachine_sessions s l hp, Session.opens, if_neg fun h => hopening h.2, hholds, paused_running hx]
    rfl
  · rw [setReturn_session, decide_eq_true (rfl : ReturnState.fault = .fault), Bool.or_true, paused_running hx]
    rfl
  · rw [setReturn_session, decide_eq_false hf, decide_eq_false hv, paused_from hx hfrom]
    rfl

end Sys2Proof.Machine
end

section
/-! Sessions and billing (chapter 8): the close after the game, and sessions that follow the end of their game. -/
namespace Sys2Proof.Machine

/-! ### The close of a session (R159) -/

/-- A session that is closed, its meter settled. -/
def Session.settled (x : Session) : Session :=
  { x with state := .closed, pausedFrom := none, meter := settledMeter x.meter }

theorem settledMeter_below {m : Meter} (h : ¬ 30 ≤ m.fraction) : settledMeter m = { m with fraction := 0 } := by
  simp [settledMeter, h]

theorem settledMeter_above {m : Meter} (h : 30 ≤ m.fraction) : settledMeter m = { m.add 1 with fraction := 0 } := by
  simp [settledMeter, h, add_eq]

theorem inside_closeSession (s : State) (l : Lane) :
    State.inside (s.closeSession l) = (State.inside s).modSession l Session.settled := by
  unfold State.closeSession
  dsimp only
  rw [inside_enterSession, inside_tell, inside_markMeter, inside_modSession]
  by_cases h : 30 ≤ (s.sessions.get l).meter.fraction
  · rw [if_pos h, inside_addCents, modSession_comp, modSession_comp]
    refine modSession_congr ?_
    rw [inside_sessions, Session.settled, settledMeter_above h]
  · rw [if_neg h, modSession_comp]
    refine modSession_congr ?_
    rw [inside_sessions, Session.settled, settledMeter_below h]

theorem closeSession_sessions (s : State) (l : Lane) :
    (s.closeSession l).sessions = s.sessions.set l (s.sessions.get l).settled :=
  (inside_sessions _).symm.trans (congrArg State.sessions (inside_closeSession s l))

/-! ### close-session after the game (R157) -/

theorem homeGameOn_eq_false_iff (s : State) (l : Lane) :
    s.homeGameOn l = false ↔ ∀ g, s.homeGroup l = some g → (s.groups.get g).inProgress = false := by
  unfold State.homeGameOn
  cases s.homeGroup l <;> simp

theorem crossBlocks_eq_false {s : State} {l : Lane} (h : ∀ g, s.homeGroup (otherLane l) = some g →
    ¬ ((s.groups.get g).playMode = .cross ∧ (s.groups.get g).inProgress = true)) : s.crossBlocks l = false := by
  unfold State.crossBlocks
  cases hg : s.homeGroup (otherLane l) with
  | none => rfl
  | some g => simpa using h g hg

section
variable {s : State} {lane : Nat} {l : Lane} (hl : laneOf lane = some l) (hx : (s.sessions.get l).state ≠ .closed)
include hl hx

theorem handleCloseSession_after : handleCloseSession lane 0 s = closeAfterGame l s := by
  simp [handleCloseSession, hl, mannerOf, hx]

theorem handleCloseSession_now : handleCloseSession lane 1 s = closeNow l s := by
  simp [handleCloseSession, hl, mannerOf, hx]

end

section
variable {s : State} {l : Lane} (hc : s.crossBlocks l = false)
include hc

theorem closeAfterGame_closes (hg : s.homeGameOn l = false) : closeAfterGame l s = (s.closeSession l, .ok (be 1 0)) := by
  have hs := closeSession_sessions s l
  have hcode : (s.sessions.get l).settled.state.code = 0 := rfl
  simp [closeAfterGame, hc, hg, hs, hcode]

theorem closeAfterGame_waits (hg : s.homeGameOn l = true) (hx : (s.sessions.get l).state ≠ .closing) :
    closeAfterGame l s = (s.enterSession l .closing none, .ok (be 1 6)) := by
  simp [closeAfterGame, hc, hg, hx, SessionState.code]

end

/-! ### Sessions at the end of an event (R154, R157) -/

section
variable {s : State} {l : Lane}

theorem sessionFollows_locks (hg : s.homeGameOn l = false)
    (hx : (s.sessions.get l).state = .overtime
      ∨ ((s.sessions.get l).state = .paused ∧ (s.sessions.get l).pausedFrom = some .overtime)) :
    s.sessionFollows l = s.enterSession l .locked none := by
  rcases hx with hx | ⟨hx, hf⟩ <;> simp [State.sessionFollows, *]

theorem sessionFollows_closes (hg : s.homeGameOn l = false) (hx : (s.sessions.get l).state = .closing) :
    s.sessionFollows l = s.closeSession l := by
  simp [State.sessionFollows, hg, hx]

theorem sessionFollows_plays (hg : s.homeGameOn l = true) : s.sessionFollows l = s := if_pos hg

theorem sessionFollows_still (ho : (s.sessions.get l).state ≠ .overtime) (hc : (s.sessions.get l).state ≠ .closing)
    (hp : (s.sessions.get l).state = .paused → (s.sessions.get l).pausedFrom ≠ some .overtime) : s.sessionFollows l = s := by
  unfold State.sessionFollows
  dsimp only
  split
  · rfl
  · split
    · exact absurd ‹_› ho
    · exact if_neg (hp ‹_›)
    · exact absurd ‹_› hc
    all_goals rfl

end

end Sys2Proof.Machine

namespace Sys2Proof
open Machine

/-- Settles O21, by whether the home group has a game in progress. -/
theorem closeAfterGame : Obligations.CloseAfterGame := by
  unfold Obligations.CloseAfterGame
  refine ⟨fun tag lane l s hi hl hx _ hcross => ⟨fun hg => ?_, fun g hg hplays hclosing => ?_⟩, fun s l _ => ?_⟩
  · let q := s.queuedUp .desk tag (.closeSession lane 0)
    have hq := (handleCloseSession_after (s := q) hl hx).trans
      (closeAfterGame_closes (crossBlocks_eq_false hcross) ((homeGameOn_eq_false_iff q l).mpr hg))
    refine State.serves_with' rfl hi rfl nofun nofun ⟨_, hq, ?_⟩
    rw [sameInside_iff_inside, inside_closeSession]
    rfl
  · let q := s.queuedUp .desk tag (.closeSession lane 0)
    have hon : q.homeGameOn l = true := by
      change s.homeGameOn l = true
      rw [State.homeGameOn, hg]
      exact hplays
    have hq := (handleCloseSession_after (s := q) hl hx).trans (closeAfterGame_waits (crossBlocks_eq_false hcross) hon hclosing)
    refine State.serves_with' rfl hi rfl nofun nofun ⟨_, hq, ?_⟩
    rw [sameInside_iff_inside, inside_enterSession]
    rfl
  · intro x t ended becomes
    have hended : s.homeGameOn l = false ↔ ended := homeGameOn_eq_false_iff s l
    refine ⟨fun h hx => ?_, fun h hx => ?_, fun h => ?_⟩
    · change SameInside (s.sessionFollows l) _
      rw [sessionFollows_locks (hended.mpr h) hx]
      exact sameInside_session (inside_enterSession ..) rfl
    · change SameInside (s.sessionFollows l) _
      rw [sessionFollows_closes (hended.mpr h) hx]
      exact sameInside_session (inside_closeSession ..) rfl
    · rcases h with h | ⟨ho, hc, hp⟩
      · exact sessionFollows_plays (Bool.not_eq_false _ ▸ mt hended.mp h)
      · exact sessionFollows_still ho hc hp

end Sys2Proof
end

section
/-! Sessions and billing (chapter 8): what a close now makes of the groups and the lanes (R101, R99). -/
namespace Sys2Proof.Machine

/-! ### Home groups and slots -/

theorem eq_otherSlot {g j : Slot} (h : j ≠ g) : j = otherSlot g := by
  match g, j, h with
  | .g1, .g2, _ => rfl
  | .g2, .g1, _ => rfl

/-- A slot holds a group with its home on a lane. -/
def State.Homed (s : State) (l : Lane) (g : Slot) : Prop := (s.groups.get g).present = true ∧ (s.groups.get g).home = l

section
variable {s : State} {l : Lane} {g : Slot}

theorem homed_of_homeGroup (h : s.homeGroup l = some g) : s.Homed l g := by
  unfold State.homeGroup at h
  split at h
  · rename_i hc
    cases h
    simpa [State.Homed, PerSlot.get] using hc
  · split at h
    · rename_i hc
      cases h
      simpa [State.Homed, PerSlot.get] using hc
    · cases h

theorem homeGroup_of_only (h : s.Homed l g) (ho : ∀ j, j ≠ g → ¬ s.Homed l j) : s.homeGroup l = some g := by
  have cond (j : Slot) : ((s.groups.get j).present && (s.groups.get j).home = l) = true ↔ s.Homed l j := by simp [State.Homed]
  unfold State.homeGroup
  cases g
  · exact if_pos ((cond .g1).mpr h)
  · exact (if_neg (mt (cond .g1).mp (ho .g1 nofun))).trans (if_pos ((cond .g2).mpr h))

end

/-! ### The lanes that a group releases (R99) -/

section
variable (s : State) (g h : Slot)

/-- A group waits for a lane that another one occupies. -/
def State.WaitsFor (s : State) (g h : Slot) : Prop := ∃ m, (s.lanes.get m).occupant = some g ∧ (s.lanes.get m).waiter = some h

theorem releaseLanes_waits (hw : s.WaitsFor g h) : (s.releaseLanes g).groups.get h = (s.groups.get h).becomes .playing :=
  let ⟨_, ho, hm⟩ := hw
  releaseLanes_waiter s g h ho hm

theorem releaseLanes_still (hw : ¬ s.WaitsFor g h) : (s.releaseLanes g).groups.get h = s.groups.get h := by
  have still (m : Lane) : ¬ ((s.lanes.get m).occupant = some g ∧ (s.lanes.get m).waiter = some h) := fun e => hw ⟨m, e⟩
  rw [State.releaseLanes, releaseLane_groups, releaseLane_lanes, PerLane.get_set_of_ne _ (by decide), if_neg (still .right),
    releaseLane_groups, if_neg (still .left)]

theorem released_waiter (a : LaneRecord) : (a.released g).waiter ≠ some g := by
  unfold LaneRecord.released
  split
  · nofun
  · split
    · nofun
    · assumption

end

/-! ### The game of the home group abandoned (R101) -/

/-- A group with a game to abandon, or frozen. -/
def Group.ends (r : Group) : Bool := r.inProgress || r.isFrozen

/-- A group whose game is abandoned. -/
def Group.abandoned (r : Group) : Group := { r with state := .idle, inProgress := false, frozenFrom := none }

section
variable (s : State) (l : Lane) (g : Slot)

/-- The home group of a lane, with a game that a close now ends. -/
def State.Ended : Prop := s.homeGroup l = some g ∧ (s.groups.get g).ends = true

/-- The state with the game of the lane's home group abandoned. -/
def State.homeAbandoned : State :=
  match s.homeGroup l with
  | some g => s.abandonGame g
  | none => s

/-- A lane once the home group of `l` has released it. -/
def State.laneAfter (j : Lane) : LaneRecord :=
  match s.homeGroup l with
  | some g => if (s.groups.get g).ends then (s.lanes.get j).released g else s.lanes.get j
  | none => s.lanes.get j

variable {s l g}

theorem State.Ended.home (h : s.Ended l g) : (s.groups.get g).home = l := (homed_of_homeGroup h.1).2

theorem homeAbandoned_ended (h : s.Ended l g) : s.homeAbandoned l =
    { (s.releaseLanes g).modGroup g Group.abandoned with outbound := s.outbound.set g none } := by
  obtain ⟨hg, he⟩ := h
  have hout : (s.releaseLanes g).outbound = s.outbound := (congrArg State.outbound (releaseLanes_rest s g) :)
  rw [State.homeAbandoned, hg]
  refine (if_pos he).trans ?_
  rw [← hout]
  rfl

theorem homeAbandoned_still (h : ∀ g, ¬ s.Ended l g) : s.homeAbandoned l = s := by
  unfold State.homeAbandoned
  split
  · rename_i g hg
    exact if_neg fun he => h g ⟨hg, he⟩
  · rfl

theorem laneAfter_ended (h : s.Ended l g) (j : Lane) : s.laneAfter l j = (s.lanes.get j).released g := by
  rw [State.laneAfter, h.1]
  exact if_pos h.2

theorem laneAfter_still (h : ∀ g, ¬ s.Ended l g) (j : Lane) : s.laneAfter l j = s.lanes.get j := by
  unfold State.laneAfter
  split
  · rename_i g hg
    exact if_neg fun he => h g ⟨hg, he⟩
  · rfl

theorem homeAbandoned_lanes (s : State) (l j : Lane) : (s.homeAbandoned l).lanes.get j = s.laneAfter l j := by
  by_cases h : ∃ g, s.Ended l g
  · obtain ⟨g, h⟩ := h
    rw [homeAbandoned_ended h, laneAfter_ended h, ← releaseLanes_lanes]
    rfl
  · rw [homeAbandoned_still (not_exists.mp h), laneAfter_still (not_exists.mp h)]

/-- The group whose game ends is IDLE, and its save is gone. -/
theorem homeAbandoned_own (h : s.Ended l g) : (s.homeAbandoned l).groups.get g = (s.groups.get g).abandoned
    ∧ (s.homeAbandoned l).outbound = s.outbound.set g none := by
  have own : ((s.releaseLanes g).groups.get g).abandoned = (s.groups.get g).abandoned := by
    by_cases hw : s.WaitsFor g g
    · rw [releaseLanes_waits s g g hw, becomes_fields]
      rfl
    · rw [releaseLanes_still s g g hw]
  rw [homeAbandoned_ended h]
  exact ⟨(PerSlot.get_set ..).trans own, rfl⟩

/-- Another group takes a lane that it waits for. -/
theorem homeAbandoned_other (h : s.Ended l g) {j : Slot} (hj : j ≠ g) :
    (s.homeAbandoned l).groups.get j = (s.releaseLanes g).groups.get j := by
  rw [homeAbandoned_ended h]
  exact PerSlot.get_set_of_ne _ hj _

theorem homeAbandoned_rest (s : State) (l : Lane) :
    { s.homeAbandoned l with lanes := s.lanes, groups := s.groups, outbound := s.outbound } = s := by
  by_cases h : ∃ g, s.Ended l g
  · obtain ⟨g, h⟩ := h
    rw [homeAbandoned_ended h]
    exact congrArg (fun v : State => { v with outbound := s.outbound }) (releaseLanes_rest s g)
  · rw [homeAbandoned_still (not_exists.mp h)]

end

/-! ### The CROSS group of the other lane turned to OPEN play (R101) -/

/-- A group in OPEN play. -/
def Group.turned (r : Group) : Group := { r with playMode := .openPlay }

theorem becomes_turned (r : Group) (a : GroupState) : r.turned.becomes a = (r.becomes a).turned := by
  rw [becomes_fields, becomes_fields]
  rfl

section
variable (s : State) (l : Lane) (h : Slot)

/-- A group in CROSS play with a game in progress, its home on the other lane. -/
def State.Crosses : Prop :=
  (s.groups.get h).home = otherLane l ∧ (s.groups.get h).playMode = .cross ∧ (s.groups.get h).inProgress = true

/-- The home group of the other lane, in CROSS play with a game in progress. -/
def State.Turns : Prop :=
  s.homeGroup (otherLane l) = some h ∧ (s.groups.get h).playMode = .cross ∧ (s.groups.get h).inProgress = true

/-- The state with the CROSS group of the other lane turned to OPEN play. -/
def State.crossTurned : State :=
  match s.homeGroup (otherLane l) with
  | some g => s.turnOpen g
  | none => s

variable {s l h}

theorem State.Turns.crosses (ht : s.Turns l h) : s.Crosses l h := ⟨(homed_of_homeGroup ht.1).2, ht.2⟩

theorem crossTurned_still (ht : ∀ h, ¬ s.Turns l h) : s.crossTurned l = s := by
  unfold State.crossTurned
  split
  · rename_i g hg
    refine if_neg fun hc => ht g ⟨hg, ?_⟩
    simpa using hc
  · rfl

theorem crossTurned_eq (ht : s.Turns l h) : s.crossTurned l =
    if (s.lanes.get (otherLane l)).occupant = some h then s.modGroup h Group.turned
    else (s.modGroup h Group.turned).handOff h (otherLane l) := by
  obtain ⟨hg, hm, hp⟩ := ht
  have hc : ((s.groups.get h).playMode = .cross && (s.groups.get h).inProgress) = true := by simp [hm, hp]
  rw [State.crossTurned, hg]
  refine (if_pos hc).trans ?_
  rw [(homed_of_homeGroup hg).2]
  rfl

theorem crossTurned_rest (s : State) (l : Lane) : { s.crossTurned l with lanes := s.lanes, groups := s.groups } = s := by
  by_cases ht : ∃ h, s.Turns l h
  · obtain ⟨h, ht⟩ := ht
    rw [crossTurned_eq ht]
    split
    · rfl
    · exact congrArg (fun v : State => { v with groups := s.groups }) (handOff_rest (s.modGroup h Group.turned) h (otherLane l))
  · rw [crossTurned_still (not_exists.mp ht)]

end

end Sys2Proof.Machine
end

section
/-! Sessions and billing (chapter 8): the groups and the lanes after a close now (R101, R99). -/
namespace Sys2Proof.Machine

/-! ### The CROSS group and the other one -/

section
variable {s : State} {l : Lane} {h : Slot} (ht : s.Turns l h)
include ht

theorem crossTurned_holds (ho : (s.lanes.get (otherLane l)).occupant = some h) :
    (∀ j, (s.crossTurned l).lanes.get j = s.lanes.get j) ∧ (s.crossTurned l).groups.get h = (s.groups.get h).turned := by
  rw [crossTurned_eq ht, if_pos ho]
  exact ⟨fun _ => rfl, PerSlot.get_set ..⟩

theorem crossTurned_moves (ho : (s.lanes.get (otherLane l)).occupant ≠ some h) :
    (s.crossTurned l).lanes.get (otherLane l) = ((s.lanes.get (otherLane l)).released h).asked h
      ∧ (s.crossTurned l).lanes.get l = (s.lanes.get l).released h
      ∧ (s.crossTurned l).groups.get h = ((s.groups.get h).becomes
          (if ((s.lanes.get (otherLane l)).released h).occupant = none then .playing else .waiting)).turned := by
  rw [crossTurned_eq ht, if_neg ho]
  refine ⟨handOff_target .., handOff_lane _ _ _ (ne_otherLane l), ?_⟩
  rw [handOff_group, State.modGroup_groups, PerSlot.get_set, becomes_turned]
  rfl

variable {j : Slot} (hj : j ≠ h)
include hj

/-- The other group takes the lane where it waits for the one that moves. -/
theorem crossTurned_takes (ho : (s.lanes.get (otherLane l)).occupant ≠ some h) (hw : s.WaitsFor h j) :
    (s.crossTurned l).groups.get j = (s.groups.get j).becomes .playing := by
  rw [crossTurned_eq ht, if_neg ho, handOff_other _ _ _ hj, releaseLanes_waits (s.modGroup h Group.turned) h j hw, State.modGroup_groups,
    PerSlot.get_set_of_ne _ hj]

theorem crossTurned_other (hw : (s.lanes.get (otherLane l)).occupant ≠ some h → ¬ s.WaitsFor h j) :
    (s.crossTurned l).groups.get j = s.groups.get j := by
  have kept : (s.modGroup h Group.turned).groups.get j = s.groups.get j := PerSlot.get_set_of_ne _ hj _
  rw [crossTurned_eq ht]
  split
  · exact kept
  · rename_i ho
    rw [handOff_other _ _ _ hj, releaseLanes_still (s.modGroup h Group.turned) h j (hw ho), kept]

end

/-! ### Both steps -/

section
variable (s : State) (l : Lane)

/-- The state with the home group's game abandoned and the other lane's CROSS group turned to OPEN play. -/
def State.playClosed : State := (s.homeAbandoned l).crossTurned l

theorem gtCloseNow_eq : s.gtCloseNow l = (s.playClosed l).announce s none := rfl

theorem playClosed_rest : { s.playClosed l with lanes := s.lanes, groups := s.groups, outbound := s.outbound } = s :=
  (congrArg (fun v : State => { v with lanes := s.lanes, groups := s.groups, outbound := s.outbound })
    (crossTurned_rest (s.homeAbandoned l) l)).trans (homeAbandoned_rest s l)

theorem playClosed_outbound : (s.playClosed l).outbound = (s.homeAbandoned l).outbound :=
  (congrArg State.outbound (crossTurned_rest (s.homeAbandoned l) l) :)

variable {s l} {g h j : Slot}

theorem present_becomes {r : Group} (hr : r.present = true) : (r.becomes .playing).present = true := by
  unfold Group.becomes
  split
  · exact hr
  · rfl

theorem homeAbandoned_cases (hj : ¬ s.Ended l j) : (s.homeAbandoned l).groups.get j = s.groups.get j
    ∨ (s.homeAbandoned l).groups.get j = (s.groups.get j).becomes .playing := by
  by_cases he : ∃ g, s.Ended l g
  · obtain ⟨g, he⟩ := he
    have hne : j ≠ g := fun e => hj (e.symm ▸ he)
    rw [homeAbandoned_other he hne]
    by_cases hw : s.WaitsFor g j
    · exact .inr (releaseLanes_waits s g j hw)
    · exact .inl (releaseLanes_still s g j hw)
  · exact .inl (by rw [homeAbandoned_still (not_exists.mp he)])

theorem crosses_homeAbandoned : (s.homeAbandoned l).Crosses l h ↔ s.Crosses l h ∧ ¬ s.Ended l h := by
  by_cases he : s.Ended l h
  · refine iff_of_false (fun hc => ?_) fun hc => hc.2 he
    have hp := hc.2.2
    rw [(homeAbandoned_own he).1] at hp
    cases hp
  · rw [and_iff_left he, State.Crosses, State.Crosses]
    rcases homeAbandoned_cases he with e | e
    · rw [e]
    · rw [e, becomes_fields]

theorem not_ended_of_crosses (hc : s.Crosses l h) : ¬ s.Ended l h := fun he =>
  ne_otherLane l (he.home.symm.trans hc.1)

/-- The group that turns is the other lane's home group still when the home group's game is abandoned. -/
theorem turns_homeAbandoned (ht : s.Turns l h) : (s.homeAbandoned l).Turns l h := by
  by_cases he : ∃ g, s.Ended l g
  · obtain ⟨g, he⟩ := he
    have hne := not_ended_of_crosses ht.crosses
    have hc := crosses_homeAbandoned.mpr ⟨ht.crosses, hne⟩
    refine ⟨homeGroup_of_only ⟨?_, hc.1⟩ fun j hj hhomed => ?_, hc.2⟩
    · have hpresent := (homed_of_homeGroup ht.1).1
      rcases homeAbandoned_cases hne with e | e <;> rw [e]
      · exact hpresent
      · exact present_becomes hpresent
    · have hgh : g ≠ h := fun e => hne (e ▸ he)
      have hjg : j = g := (eq_otherSlot hj).trans (eq_otherSlot hgh).symm
      rw [State.Homed, hjg, (homeAbandoned_own he).1] at hhomed
      exact ne_otherLane l (he.home.symm.trans hhomed.2)
  · rwa [homeAbandoned_still (not_exists.mp he)]

/-! ### The group whose game ends, and one that stays -/

theorem playClosed_ended (he : s.Ended l g) : (s.playClosed l).groups.get g = (s.groups.get g).abandoned
    ∧ (s.playClosed l).outbound = s.outbound.set g none := by
  obtain ⟨hown, hout⟩ := homeAbandoned_own he
  refine ⟨Eq.trans ?_ hown, (playClosed_outbound s l).trans hout⟩
  by_cases ht : ∃ h, (s.homeAbandoned l).Turns l h
  · obtain ⟨h, ht⟩ := ht
    have hne : g ≠ h := fun e => (crosses_homeAbandoned.mp ht.crosses).2 (e ▸ he)
    refine crossTurned_other ht hne fun _ ⟨m, _, hw⟩ => ?_
    rw [homeAbandoned_lanes, laneAfter_ended he] at hw
    exact released_waiter g _ hw
  · rw [State.playClosed, crossTurned_still (not_exists.mp ht)]

theorem not_ended_of_none (hn : ∀ g, s.homeGroup l = some g → (s.groups.get g).ends = false) (g : Slot) : ¬ s.Ended l g :=
  fun ⟨hg, he⟩ => Bool.false_ne_true ((hn g hg).symm.trans he)

theorem playClosed_still (hg : s.homeGroup l = some g) (he : (s.groups.get g).ends = false)
    (hw : ∀ m, (s.lanes.get m).waiter ≠ some g) : (s.playClosed l).groups.get g = s.groups.get g := by
  have hnone : ∀ j, ¬ s.Ended l j := not_ended_of_none fun j hj => Option.some.inj (hg.symm.trans hj) ▸ he
  rw [State.playClosed, homeAbandoned_still hnone]
  by_cases ht : ∃ h, s.Turns l h
  · obtain ⟨h, ht⟩ := ht
    have hne : g ≠ h := fun e =>
      ne_otherLane l ((homed_of_homeGroup hg).2.symm.trans ((congrArg (fun j => (s.groups.get j).home) e).trans ht.crosses.1))
    exact crossTurned_other ht hne fun _ ⟨m, _, hm⟩ => hw m hm
  · rw [crossTurned_still (not_exists.mp ht)]

/-! ### The group that turns, and the lanes -/

theorem playClosed_holds (ht : s.Turns l h) (ho : (s.laneAfter l (otherLane l)).occupant = some h) :
    (∀ j, (s.playClosed l).lanes.get j = s.laneAfter l j)
      ∧ (s.playClosed l).groups.get h = ((s.homeAbandoned l).groups.get h).turned := by
  obtain ⟨hlanes, hgroup⟩ := crossTurned_holds (turns_homeAbandoned ht) (by rwa [homeAbandoned_lanes])
  exact ⟨fun j => (hlanes j).trans (homeAbandoned_lanes ..), hgroup⟩

theorem playClosed_moves (ht : s.Turns l h) (ho : (s.laneAfter l (otherLane l)).occupant ≠ some h) :
    (s.playClosed l).lanes.get (otherLane l) = ((s.laneAfter l (otherLane l)).released h).asked h
      ∧ (s.playClosed l).lanes.get l = (s.laneAfter l l).released h
      ∧ (s.playClosed l).groups.get h = ((s.groups.get h).becomes
          (if ((s.laneAfter l (otherLane l)).released h).occupant = none then .playing else .waiting)).turned := by
  obtain ⟨hother, hown, hgroup⟩ := crossTurned_moves (turns_homeAbandoned ht) (by rwa [homeAbandoned_lanes])
  rw [homeAbandoned_lanes] at hother hown hgroup
  refine ⟨hother, hown, hgroup.trans ?_⟩
  rcases homeAbandoned_cases (not_ended_of_crosses ht.crosses) with e | e
  · rw [e]
  · rw [e, becomes_becomes _ _ (by decide)]

theorem playClosed_lanes (hn : ∀ h, ¬ s.Crosses l h) (j : Lane) : (s.playClosed l).lanes.get j = s.laneAfter l j := by
  rw [State.playClosed, crossTurned_still fun h ht => hn h (crosses_homeAbandoned.mp ht.crosses).1, homeAbandoned_lanes]

end

/-! ### Groups that take a lane (R99) -/

/-- A group takes a lane that it waited for, between two states. -/
def State.Took (s t : State) (j : Slot) : Prop :=
  ∃ m, (s.lanes.get m).waiter = some j ∧ (s.lanes.get m).occupant ≠ some j ∧ (t.lanes.get m).occupant = some j

section
variable {s t : State} {l : Lane} {g j : Slot}

theorem not_took (h : ∀ m, t.lanes.get m = s.lanes.get m) : ¬ s.Took t j := fun ⟨m, _, ho, ht⟩ => ho (h m ▸ ht)

theorem released_taken {a : LaneRecord} (h : (a.released g).occupant = some j) (ho : a.occupant ≠ some j) :
    a.occupant = some g ∧ a.waiter = some j := by
  unfold LaneRecord.released at h
  split at h
  · exact ⟨‹_›, h⟩
  · split at h <;> exact absurd h ho

theorem released_holder {a : LaneRecord} (ho : a.occupant = some g) : (a.released g).occupant = a.waiter := by
  rw [LaneRecord.released, if_pos ho]

theorem took_iff_of_released (hj : j ≠ g) (h : ∀ m, t.lanes.get m = (s.lanes.get m).released g) : s.Took t j ↔ s.WaitsFor g j := by
  refine ⟨fun ⟨m, _, ho, ht⟩ => ⟨m, released_taken (h m ▸ ht) ho⟩, fun ⟨m, ho, hw⟩ => ⟨m, hw, ?_, ?_⟩⟩
  · rw [ho]
    exact fun e => hj (Option.some.inj e).symm
  · rw [h, released_holder ho, hw]

theorem took_iff_of_moved (hj : j ≠ g) (ho : (s.lanes.get (otherLane l)).occupant ≠ some g)
    (hl : t.lanes.get l = (s.lanes.get l).released g)
    (hother : t.lanes.get (otherLane l) = ((s.lanes.get (otherLane l)).released g).asked g) : s.Took t j ↔ s.WaitsFor g j := by
  refine ⟨fun ⟨m, _, hm, ht⟩ => ?_, fun ⟨m, hm, hw⟩ => ?_⟩
  · by_cases e : m = l
    · subst e
      exact ⟨m, released_taken (hl ▸ ht) hm⟩
    · rw [eq_otherLane e, hother, LaneRecord.asked] at ht
      rw [eq_otherLane e] at hm
      split at ht
      · exact absurd (Option.some.inj ht).symm hj
      · exact absurd (released_taken ht hm).1 ho
  · have e : m = l := by_contra fun e => ho (eq_otherLane e ▸ hm)
    subst e
    refine ⟨m, hw, ?_, ?_⟩
    · rw [hm]
      exact fun e => hj (Option.some.inj e).symm
    · rw [hl, released_holder hm, hw]

end

section
variable {s : State} {l : Lane} {j : Slot}

/-- A group whose game does not end, and that does not move to its home lane, bowls where it takes a lane, and stays else. -/
theorem playClosed_took (hj : ¬ s.Ended l j) (hx : ¬ (s.Crosses l j ∧ (s.laneAfter l (otherLane l)).occupant ≠ some j)) :
    ∃ r : Group, ((s.playClosed l).groups.get j = r ∨ (s.playClosed l).groups.get j = r.turned)
      ∧ (s.Took (s.playClosed l) j → r = (s.groups.get j).becomes .playing)
      ∧ (¬ s.Took (s.playClosed l) j → r = s.groups.get j) := by
  by_cases he : ∃ g, s.Ended l g
  · obtain ⟨g, he⟩ := he
    have hne : j ≠ g := fun e => hj (e ▸ he)
    have hturn : (∀ m, (s.playClosed l).lanes.get m = s.laneAfter l m)
        ∧ ((s.playClosed l).groups.get j = (s.homeAbandoned l).groups.get j
          ∨ (s.playClosed l).groups.get j = ((s.homeAbandoned l).groups.get j).turned) := by
      by_cases ht : ∃ h, (s.homeAbandoned l).Turns l h
      · obtain ⟨h, ht⟩ := ht
        obtain ⟨hc, hh⟩ := crosses_homeAbandoned.mp ht.crosses
        have hgh : h ≠ g := fun e => hh (e ▸ he)
        obtain rfl : h = j := (eq_otherSlot hgh).trans (eq_otherSlot hne).symm
        have ho : (s.laneAfter l (otherLane l)).occupant = some h := not_not.mp fun ho => hx ⟨hc, ho⟩
        obtain ⟨hlanes, hgroup⟩ := crossTurned_holds ht (by rwa [homeAbandoned_lanes])
        exact ⟨fun m => (hlanes m).trans (homeAbandoned_lanes ..), .inr hgroup⟩
      · rw [State.playClosed, crossTurned_still (not_exists.mp ht)]
        exact ⟨homeAbandoned_lanes s l, .inl rfl⟩
    obtain ⟨hlanes, hgroup⟩ := hturn
    have hiff := took_iff_of_released (t := s.playClosed l) hne fun m => (hlanes m).trans (laneAfter_ended he m)
    refine ⟨_, hgroup, fun htook => ?_, fun htook => ?_⟩ <;> rw [homeAbandoned_other he hne]
    · exact releaseLanes_waits s g j (hiff.mp htook)
    · exact releaseLanes_still s g j (mt hiff.mpr htook)
  · have hnone := not_exists.mp he
    simp only [laneAfter_still hnone] at hx
    rw [State.playClosed, homeAbandoned_still hnone]
    by_cases ht : ∃ h, s.Turns l h
    · obtain ⟨h, ht⟩ := ht
      by_cases ho : (s.lanes.get (otherLane l)).occupant = some h
      · obtain ⟨hlanes, hgroup⟩ := crossTurned_holds ht ho
        have hstays := not_took (j := j) hlanes
        refine ⟨s.groups.get j, ?_, fun htook => absurd htook hstays, fun _ => rfl⟩
        by_cases hjh : j = h
        · exact .inr (hjh ▸ hgroup)
        · exact .inl (crossTurned_other ht hjh fun hn => absurd ho hn)
      · have hjh : j ≠ h := fun e => hx (e ▸ ⟨ht.crosses, ho⟩)
        obtain ⟨hother, hown, -⟩ := crossTurned_moves ht ho
        have hiff := took_iff_of_moved (t := s.crossTurned l) hjh ho hown hother
        refine ⟨_, .inl rfl, fun htook => ?_, fun htook => ?_⟩
        · exact crossTurned_takes ht hjh ho (hiff.mp htook)
        · exact crossTurned_other ht hjh fun _ => mt hiff.mpr htook
    · rw [crossTurned_still (not_exists.mp ht)]
      exact ⟨_, .inl rfl, fun htook => absurd htook (not_took fun _ => rfl), fun _ => rfl⟩

end

end Sys2Proof.Machine
end

section
/-! Sessions and billing (chapter 8): the machines and the sessions after a close now (R49, R62, R159). -/
namespace Sys2Proof.Machine

/-! ### Sessions that a close settles (R159) -/

theorem settled_paused (x : Session) (holds : Bool) : (x.paused holds).settled = x.settled := by
  unfold Session.paused
  split
  · split <;> rfl
  · split <;> rfl
  · split <;> rfl
  all_goals rfl

theorem settled_opens (x : Session) (ready holds : Bool) : (x.opens ready holds).settled = x.settled := by
  unfold Session.opens
  split
  · exact settled_paused ..
  · rfl

/-- Of the sessions, one state differs from another in the state of one lane's session at most. -/
def State.SameSessions (s t : State) (l : Lane) : Prop :=
  (t.sessions.get l).settled = (s.sessions.get l).settled ∧ t.sessions.get (otherLane l) = s.sessions.get (otherLane l)

section
variable {s t : State} {l : Lane}

theorem sameSessions_of_eq (h : t.sessions = s.sessions) : s.SameSessions t l := by
  rw [State.SameSessions, h]
  exact ⟨rfl, rfl⟩

theorem sameSessions_set {x : Session} (h : t.sessions = s.sessions.set l x) (hx : x.settled = (s.sessions.get l).settled) :
    s.SameSessions t l := by
  rw [State.SameSessions, h, PerLane.get_set, PerLane.get_set_of_ne _ (otherLane_ne l)]
  exact ⟨hx, rfl⟩

theorem setMachine_sameSessions (h : (s.psc.get l).state ≠ state) (cause : Option FaultCause) (classes : Option (List PointClass)) :
    s.SameSessions (s.setMachine l state cause classes) l :=
  sameSessions_set (setMachine_sessions s l h cause classes) ((settled_paused ..).trans (settled_opens ..))

end

/-! ### The machine of the lane that closes (R62) -/

section
variable (s : State) (l : Lane)

/-- A machine at a close now. -/
def Pinsetter.closes (p : Pinsetter) (guardTime : Nat) : Pinsetter :=
  match p.state with
  | .ready | .inPlay => p.takes closingRack .cycling guardTime
  | .cycling | .heldPit | .checking => { p with closingOwed := p.recipe.isSome }
  | .starting => p.enter .standby none
  | .off | .standby | .fault | .service => p

theorem cycle_sameSessions (r : Recipe) (h : (s.psc.get l).state ≠ .cycling) : s.SameSessions (s.cycle l r) l := by
  have hs : (s.takeRecipe l r).sessions = s.sessions := by
    rw [State.takeRecipe, layOut_eq]
    rfl
  have hc : ((s.takeRecipe l r).psc.get l).state ≠ .cycling := by
    rw [State.takeRecipe, Spares.layOut_state]
    simpa using h
  have e := setMachine_sameSessions hc none none
  rwa [State.SameSessions, hs] at e

theorem pscCloseNow_machine : State.behind (s.pscCloseNow l) =
    (State.behind s).modPsc l fun p => p.closes s.settings.stepTimeouts.guardDown := by
  have stays {p : Pinsetter} (h : p = s.psc.get l) : State.behind s = { State.behind s with psc := s.psc.set l p } := by
    rw [h, PerLane.set_get]
    rfl
  have hp : (State.behind s).psc.get l = s.psc.get l := rfl
  unfold State.pscCloseNow State.modPsc
  dsimp only
  rw [hp]
  cases h : (s.psc.get l).state <;> simp only [Pinsetter.closes, h]
  case ready | inPlay => exact behind_cycle s l _ (by simp [h])
  case cycling | heldPit | checking => rfl
  case starting => exact behind_setMachine s l _ _ _ (by simp [h])
  all_goals exact stays rfl

theorem pscCloseNow_sameSessions : s.SameSessions (s.pscCloseNow l) l := by
  unfold State.pscCloseNow
  dsimp only
  split
  case h_1 h => exact cycle_sameSessions s l _ (by simp [h])
  case h_2 h => exact cycle_sameSessions s l _ (by simp [h])
  case h_6 h => exact setMachine_sameSessions (by simp [h]) none none
  all_goals exact sameSessions_of_eq rfl

end

/-! ### The machine of a lane that has a new occupant (R49) -/

/-- Two states that agree on what an announcement reads of a lane's machine. -/
structure State.SameLane (s t : State) (l : Lane) : Prop where
  psc      : t.psc.get l = s.psc.get l
  sessions : t.sessions.get l = s.sessions.get l
  lanes    : t.lanes = s.lanes
  plays    : ∀ g, (t.groups.get g).inProgress = (s.groups.get g).inProgress
  ret      : t.ret = s.ret
  settings : t.settings = s.settings

/-- The change of occupant since `before` starts a lane's machine. -/
def State.Starts (s before : State) (l : Lane) : Prop :=
  (s.psc.get l).state = .standby ∧ (s.sessions.get l).state ≠ .closed
    ∧ (before.lanes.get l).occupant ≠ (s.lanes.get l).occupant
    ∧ ∃ g, (s.lanes.get l).occupant = some g ∧ (s.groups.get g).inProgress = true

/-- What the announcement of the changes since `before` makes of a lane's machine and session. -/
def State.Started (s before t : State) (l : Lane) : Prop :=
  (¬ s.Starts before l → t.psc.get l = s.psc.get l ∧ t.sessions.get l = s.sessions.get l)
    ∧ (s.Starts before l → t.psc.get l = (s.psc.get l).starts s.settings.startTime
      ∧ t.sessions.get l = (s.sessions.get l).paused (s.ret.state = .fault))

section
variable {s t u before : State} {l m : Lane}

namespace State.SameLane

theorem of_inside (h : State.inside t = State.inside s) : s.SameLane t l where
  psc := (congrArg (fun v : State => v.psc.get l) h :)
  sessions := (congrArg (fun v : State => v.sessions.get l) h :)
  lanes := (congrArg State.lanes h :)
  plays g := (congrArg (fun v : State => (v.groups.get g).inProgress) h :)
  ret := (congrArg State.ret h :)
  settings := (congrArg State.settings h :)

theorem trans (h : s.SameLane t l) (h' : t.SameLane u l) : s.SameLane u l where
  psc := h'.psc.trans h.psc
  sessions := h'.sessions.trans h.sessions
  lanes := h'.lanes.trans h.lanes
  plays g := (h'.plays g).trans (h.plays g)
  ret := h'.ret.trans h.ret
  settings := h'.settings.trans h.settings

theorem starts_iff (h : s.SameLane t l) : t.Starts before l ↔ s.Starts before l := by
  simp only [State.Starts, h.psc, h.sessions, h.lanes, h.plays]

/-- A state before with the same lane starts the same machine. -/
theorem started (h : s.SameLane t l) (ht : t.Started before u l) : s.Started before u l := by
  have hs := h.starts_iff (before := before)
  obtain ⟨hstill, hstarts⟩ := ht
  rw [hs, h.psc, h.sessions] at hstill
  rw [hs, h.psc, h.sessions, h.ret, h.settings] at hstarts
  exact ⟨hstill, hstarts⟩

end State.SameLane

/-- A state after with the same lane holds the same machine. -/
theorem State.Started.trans (h : s.Started before t l) (ht : t.SameLane u l) : s.Started before u l := by
  unfold State.Started
  rw [ht.psc, ht.sessions]
  exact h

theorem startMachine_started (h : s.Starts before l) : s.Started before (s.startMachine l) l := by
  refine ⟨fun hn => absurd h hn, fun _ => ⟨?_, ?_⟩⟩
  · have e := behind_startMachine s l
    rw [if_pos h.1] at e
    exact (congrArg (fun v : State => v.psc.get l) e :).trans (PerLane.get_set ..)
  · rw [startMachine_sessions, if_pos h.1, PerLane.get_set]

theorem startMachine_sameLane (h : l ≠ m) : s.SameLane (s.startMachine m) l := by
  have hb := behind_startMachine s m
  have hs := startMachine_sessions s m
  split at hb
  · rw [if_pos ‹_›] at hs
    exact {
      psc := (congrArg (fun v : State => v.psc.get l) hb :).trans (PerLane.get_set_of_ne _ h _)
      sessions := hs ▸ PerLane.get_set_of_ne _ h _
      lanes := (congrArg State.lanes hb :)
      plays := fun g => (congrArg (fun v : State => (v.groups.get g).inProgress) hb :)
      ret := (congrArg State.ret hb :)
      settings := (congrArg State.settings hb :) }
  · refine .of_inside ?_
    rw [State.startMachine, if_neg ‹_›]

/-- A slot, where one is given, has a game in progress. -/
def State.gameOn (s : State) (o : Option Slot) : Bool :=
  match o with
  | some g => (s.groups.get g).inProgress
  | none => false

theorem gameOn_iff (s : State) (o : Option Slot) : s.gameOn o = true ↔ ∃ g, o = some g ∧ (s.groups.get g).inProgress = true := by
  cases o <;> simp [State.gameOn]

/-- An announcement for a lane starts its machine, or does nothing inside the part. -/
theorem announceLane_cases (s before : State) (m : Lane) : ∃ v, State.inside v = State.inside s
    ∧ (s.Starts before m ∧ s.announceLane before m = v.startMachine m
      ∨ ¬ s.Starts before m ∧ State.inside (s.announceLane before m) = State.inside s) := by
  obtain ⟨v, hin, e⟩ : ∃ v, State.inside v = State.inside s ∧ s.announceLane before m =
      if decide ((before.lanes.get m).occupant ≠ (s.lanes.get m).occupant) && v.gameOn (s.lanes.get m).occupant
        && decide ((v.sessions.get m).state ≠ .closed)
      then v.startMachine m else v := ⟨_, inside_markedIf .., rfl⟩
  rw [e]
  refine ⟨v, hin, ?_⟩
  have same := State.SameLane.of_inside (l := m) hin
  have hplays := gameOn_iff v (s.lanes.get m).occupant
  simp only [same.plays] at hplays
  by_cases hs : s.Starts before m
  · obtain ⟨-, hopen, hmoved, hgame⟩ := id hs
    refine .inl ⟨hs, if_pos ?_⟩
    rw [Bool.and_eq_true, Bool.and_eq_true, same.sessions]
    exact ⟨⟨decide_eq_true hmoved, hplays.mpr hgame⟩, decide_eq_true hopen⟩
  · refine .inr ⟨hs, ?_⟩
    split
    · rename_i hc
      rw [Bool.and_eq_true, Bool.and_eq_true, same.sessions] at hc
      obtain ⟨⟨hmoved, hgame⟩, hopen⟩ := hc
      have hp : (v.psc.get m).state ≠ .standby := fun hp =>
        hs ⟨same.psc ▸ hp, of_decide_eq_true hopen, of_decide_eq_true hmoved, hplays.mp hgame⟩
      rw [State.startMachine, if_neg hp, hin]
    · exact hin

theorem announceLane_started : s.Started before (s.announceLane before l) l := by
  obtain ⟨v, hv, ⟨hs, e⟩ | ⟨hs, e⟩⟩ := announceLane_cases s before l
  · have same := State.SameLane.of_inside (l := l) hv
    rw [e]
    exact same.started (startMachine_started (same.starts_iff.mpr hs))
  · have same := State.SameLane.of_inside (l := l) e
    exact ⟨fun _ => ⟨same.psc, same.sessions⟩, fun h => absurd h hs⟩

theorem announceLane_sameLane (h : l ≠ m) : s.SameLane (s.announceLane before m) l := by
  obtain ⟨v, hv, ⟨hs, e⟩ | ⟨hs, e⟩⟩ := announceLane_cases s before m
  · rw [e]
    exact (State.SameLane.of_inside hv).trans (startMachine_sameLane h)
  · exact .of_inside e

theorem withPositions_sameLane : s.SameLane s.withPositions l where
  psc := rfl
  sessions := rfl
  lanes := rfl
  plays g := by
    rw [withPositions_groups, State.placed]
    split <;> rfl
  ret := rfl
  settings := rfl

/-- An announcement starts the machine of a lane that has a new occupant with a game, and reaches no other machine. -/
theorem announce_started (s before : State) (l : Lane) : s.Started before (s.announce before none) l := by
  unfold State.announce
  dsimp only
  rw [placePositions_eq]
  have same : s.SameLane ((s.withPositions.announceGroup before .g1 none).announceGroup before .g2 none) l :=
    withPositions_sameLane.trans (.of_inside ((inside_announceGroup ..).trans (inside_announceGroup ..)))
  refine State.Started.trans ?_ (.of_inside (inside_bannersEval _))
  cases l
  · exact same.started (announceLane_started.trans (announceLane_sameLane (by decide)))
  · exact (same.trans (announceLane_sameLane (by decide))).started announceLane_started

end

end Sys2Proof.Machine
end

section
/-! Sessions and billing (chapter 8): the groups, the lanes and the rest after a close now (R101, R158). -/
namespace Sys2Proof.Machine

/-! ### What a close now leaves of a group -/

/-- A group without its play mode, its state and the state it froze from. -/
def Group.fixed (r : Group) : Group := { r with playMode := .openPlay, state := .empty, frozenFrom := none }

theorem fixed_becomes (r : Group) (a : GroupState) : (r.becomes a).fixed = r.fixed := by
  rw [becomes_fields]
  rfl

section
variable {s : State} {l : Lane} {g h j : Slot}

theorem homeAbandoned_fixed (hj : ¬ s.Ended l j) : ((s.homeAbandoned l).groups.get j).fixed = (s.groups.get j).fixed
    ∧ ((s.homeAbandoned l).groups.get j).playMode = (s.groups.get j).playMode := by
  rcases homeAbandoned_cases hj with e | e <;> rw [e]
  · exact ⟨rfl, rfl⟩
  · exact ⟨fixed_becomes .., (becomes_keeps ..).2.1⟩

/-- Another group than the one that turns stays, or takes the lane it waits for. -/
theorem crossTurned_cases (ht : ∀ h, s.Turns l h → j ≠ h) : (s.crossTurned l).groups.get j = s.groups.get j
    ∨ (s.crossTurned l).groups.get j = (s.groups.get j).becomes .playing := by
  by_cases hn : ∃ h, s.Turns l h
  · obtain ⟨h, hh⟩ := hn
    by_cases hw : (s.lanes.get (otherLane l)).occupant ≠ some h ∧ s.WaitsFor h j
    · exact .inr (crossTurned_takes hh (ht h hh) hw.1 hw.2)
    · exact .inl (crossTurned_other hh (ht h hh) fun ho hj => hw ⟨ho, hj⟩)
  · exact .inl (by rw [crossTurned_still (not_exists.mp hn)])

/-- The group that turns does so from some state of its own. -/
theorem crossTurned_turns (ht : s.Turns l h) : (s.crossTurned l).groups.get h = (s.groups.get h).turned
    ∨ ∃ a, (s.crossTurned l).groups.get h = ((s.groups.get h).becomes a).turned := by
  by_cases ho : (s.lanes.get (otherLane l)).occupant = some h
  · exact .inl (crossTurned_holds ht ho).2
  · exact .inr ⟨_, (crossTurned_moves ht ho).2.2⟩

theorem crossTurned_fixed (s : State) (l : Lane) (j : Slot) :
    ((s.crossTurned l).groups.get j).fixed = (s.groups.get j).fixed := by
  by_cases ht : s.Turns l j
  · rcases crossTurned_turns ht with e | ⟨a, e⟩ <;> rw [e]
    · rfl
    · exact fixed_becomes ..
  · rcases crossTurned_cases (l := l) fun _ hh (e : j = _) => ht (e ▸ hh) with e | e <;> rw [e]
    exact fixed_becomes ..

theorem playClosed_fixed (hj : ¬ s.Ended l j) : ((s.playClosed l).groups.get j).fixed = (s.groups.get j).fixed :=
  (crossTurned_fixed ..).trans (homeAbandoned_fixed hj).1

theorem playClosed_position (s : State) (l : Lane) (j : Slot) :
    ((s.playClosed l).groups.get j).position = (s.groups.get j).position := by
  by_cases hj : s.Ended l j
  · rw [(playClosed_ended hj).1]
    rfl
  · exact (congrArg Group.position (playClosed_fixed hj) :)

/-- A group that turns is in OPEN play; the others keep their play mode. -/
theorem playClosed_turns (ht : s.Turns l h) : ((s.playClosed l).groups.get h).playMode = .openPlay := by
  rcases crossTurned_turns (turns_homeAbandoned ht) with e | ⟨a, e⟩ <;> exact (congrArg Group.playMode e).trans rfl

theorem playClosed_playMode (hj : ¬ s.Crosses l j) : ((s.playClosed l).groups.get j).playMode = (s.groups.get j).playMode := by
  by_cases he : s.Ended l j
  · rw [(playClosed_ended he).1]
    rfl
  · refine Eq.trans ?_ (homeAbandoned_fixed he).2
    rcases crossTurned_cases (s := s.homeAbandoned l) (l := l) (j := j)
      (fun h hh e => hj (e ▸ (crosses_homeAbandoned.mp hh.crosses).1)) with e | e
    · exact congrArg Group.playMode e
    · exact (congrArg Group.playMode e).trans (becomes_keeps ..).2.1

/-- Without a game to end and a group to turn, play stays. -/
theorem playClosed_none (he : ∀ g, ¬ s.Ended l g) (ht : ∀ h, ¬ s.Turns l h) : s.playClosed l = s := by
  rw [State.playClosed, homeAbandoned_still he, crossTurned_still ht]

end

/-! ### The whole of a close now, after the run (R158) -/

section
variable (s : State) (l : Lane)

/-- The state after a close now that has no run to end. -/
def State.closedNow : State := ((s.gtCloseNow l).pscCloseNow l).closeSession l

theorem table_closeSession : (s.closeSession l).table = s.table := by
  have within (v : State) : (State.inside v).table = v.table := rfl
  rw [← within, inside_closeSession]
  rfl

theorem table_pscCloseNow : (s.pscCloseNow l).table = s.table := by
  have beyond (v : State) : v.table = { State.behind v with psc := State.reset.psc } := rfl
  rw [beyond, pscCloseNow_machine]
  rfl

theorem closedNow_table : (s.closedNow l).table = (s.playClosed l).withPositions.table := by
  rw [State.closedNow, table_closeSession, table_pscCloseNow, gtCloseNow_eq, table_announce]

/-- Of the table, what a close now can change. -/
theorem play_of_table {u v : State} (h : u.table = v.table) :
    u.groups = v.groups ∧ u.lanes = v.lanes ∧ u.outbound = v.outbound ∧ u.lines = v.lines
      ∧ u.settings = v.settings :=
  ⟨(congrArg State.groups h :), (congrArg State.lanes h :), (congrArg State.outbound h :), (congrArg State.lines h :),
    (congrArg State.settings h :)⟩

theorem closedNow_play : (s.closedNow l).groups = (s.playClosed l).withPositions.groups
    ∧ (s.closedNow l).lanes = (s.playClosed l).lanes ∧ (s.closedNow l).outbound = (s.playClosed l).outbound
    ∧ (s.closedNow l).lines = (s.playClosed l).lines :=
  have ⟨hgroups, hlanes, hout, hlines, _⟩ := play_of_table (closedNow_table s l)
  ⟨hgroups, hlanes, hout, hlines⟩

theorem closedNow_groups (j : Slot) : (s.closedNow l).groups.get j = (s.playClosed l).placed ((s.playClosed l).groups.get j) := by
  rw [(closedNow_play s l).1, withPositions_groups]

theorem closedNow_sameInside : SameInside (s.closedNow l) { s with
    sessions := (s.closedNow l).sessions, psc := (s.closedNow l).psc, groups := (s.closedNow l).groups
    lanes := (s.closedNow l).lanes, outbound := (s.closedNow l).outbound } := by
  obtain ⟨hgroups, hlanes, hout, -⟩ := closedNow_play s l
  have ht := closedNow_table s l
  generalize s.closedNow l = u at *
  refine (sameInside_iff_table u { s with groups := u.groups, lanes := u.lanes, outbound := u.outbound }).mpr (ht.trans ?_)
  rw [hgroups, hlanes, hout]
  exact (congrArg (fun w : State => State.table { w with
    groups := (s.playClosed l).withPositions.groups, lanes := (s.playClosed l).lanes, outbound := (s.playClosed l).outbound })
    (playClosed_rest s l) :)

/-! ### The machines and the sessions -/

theorem closedNow_session : (s.closedNow l).sessions.get l = (s.sessions.get l).settled := by
  have hplay : (s.playClosed l).sessions.get l = s.sessions.get l :=
    (congrArg (fun v : State => v.sessions.get l) (playClosed_rest s l) :)
  have hannounce : ((s.gtCloseNow l).sessions.get l).settled = (s.sessions.get l).settled := by
    obtain ⟨hstill, hstarts⟩ := announce_started (s.playClosed l) s l
    by_cases hs : (s.playClosed l).Starts s l
    · exact (congrArg Session.settled (hstarts hs).2).trans ((settled_paused ..).trans (congrArg Session.settled hplay))
    · exact congrArg Session.settled ((hstill hs).2.trans hplay)
  rw [State.closedNow, closeSession_sessions, PerLane.get_set]
  exact (pscCloseNow_sameSessions ..).1.trans hannounce

theorem closeSession_psc : (s.closeSession l).psc = s.psc := by
  rw [← inside_psc, inside_closeSession]
  rfl

theorem pscCloseNow_psc : (s.pscCloseNow l).psc =
    s.psc.set l ((s.psc.get l).closes s.settings.stepTimeouts.guardDown) := by
  have beyond (v : State) : v.psc = (State.behind v).psc := rfl
  rw [beyond, pscCloseNow_machine]
  rfl

theorem gtCloseNow_settings : (s.gtCloseNow l).settings = s.settings := by
  have ⟨_, _, _, _, hannounce⟩ := play_of_table (table_announce (s.playClosed l) s none)
  rw [gtCloseNow_eq, hannounce]
  exact (congrArg State.settings (playClosed_rest s l) :)

theorem closedNow_machine : (s.closedNow l).psc.get l = ((s.gtCloseNow l).psc.get l).closes s.settings.stepTimeouts.guardDown := by
  rw [State.closedNow, closeSession_psc, pscCloseNow_psc, PerLane.get_set, gtCloseNow_settings]

/-- A machine that a new occupant does not start takes the close. -/
theorem closedNow_machine_active (h : (s.psc.get l).state ≠ .standby) :
    (s.closedNow l).psc.get l = (s.psc.get l).closes s.settings.stepTimeouts.guardDown := by
  have hplay : (s.playClosed l).psc.get l = s.psc.get l := (congrArg (fun v : State => v.psc.get l) (playClosed_rest s l) :)
  rw [closedNow_machine]
  exact congrArg (Pinsetter.closes · _) (((announce_started (s.playClosed l) s l).1 fun hs => h (hplay ▸ hs.1)).1.trans hplay)

/-- A machine in STANDBY is so again, though a new occupant may start it. -/
theorem closedNow_machine_standby (h : (s.psc.get l).state = .standby) : ((s.closedNow l).psc.get l).state = .standby := by
  have hplay : (s.playClosed l).psc.get l = s.psc.get l := (congrArg (fun v : State => v.psc.get l) (playClosed_rest s l) :)
  obtain ⟨hstill, hstarts⟩ := announce_started (s.playClosed l) s l
  rw [closedNow_machine]
  by_cases hs : (s.playClosed l).Starts s l
  · have e : (s.gtCloseNow l).psc.get l = _ := (hstarts hs).1
    rw [e]
    rfl
  · have e : (s.gtCloseNow l).psc.get l = _ := (hstill hs).1.trans hplay
    simp [e, Pinsetter.closes, h]

/-- The other lane's machine starts for a new occupant with a game, and the close reaches it in no other way. -/
theorem closedNow_started : (s.playClosed l).Started s (s.closedNow l) (otherLane l) := by
  have hother := otherLane_ne l
  have hpsc : (s.closedNow l).psc.get (otherLane l) = (s.gtCloseNow l).psc.get (otherLane l) := by
    rw [State.closedNow, closeSession_psc, pscCloseNow_psc, PerLane.get_set_of_ne _ hother]
  have hsessions : (s.closedNow l).sessions.get (otherLane l) = (s.gtCloseNow l).sessions.get (otherLane l) := by
    rw [State.closedNow, closeSession_sessions, PerLane.get_set_of_ne _ hother]
    exact (pscCloseNow_sameSessions ..).2
  rw [State.Started, hpsc, hsessions]
  exact announce_started (s.playClosed l) s (otherLane l)

end

end Sys2Proof.Machine
end

section
/-! Sessions and billing (chapter 8): the close of a session now (R158). -/
namespace Sys2Proof.Machine

/-! ### The run that a close ends (R41) -/

section
variable {s : State} {l : Lane}

theorem closeRun_idle (h : (s.pdu.get l).run = .idle) : s.closeRun l = s := by
  simp [State.closeRun, State.dropRun, h]

theorem closeRun_drops (hi : (s.pdu.get l).run ≠ .idle) (hs : (s.pdu.get l).run ≠ .settled) :
    s.closeRun l = (s.dropRunNeed l).modPdu l Pdu.dropped := by
  unfold State.closeRun
  dsimp only
  split
  · exact absurd ‹_› hs
  · exact if_neg hi

theorem closeRun_settled {old : BallRecord} (h : (s.pdu.get l).run = .settled) (hr : (s.pdu.get l).record = some old) :
    s.closeRun l = ((s.publishFinal l { old with state := .final }).dropRun l).advanceFor { old with state := .final } := by
  simp [State.closeRun, h, hr]

/-- A PDU whose run is dropped with its record FINAL. -/
def Pdu.droppedFinal (p : Pdu) (r : BallRecord) : Pdu := { p.dropped with record := some r }

/-- The ball of a run that is dropped FINAL is placed on its line. -/
theorem sameInside_finalDropped {r : BallRecord} (h : (s.pdu.get l).run ≠ .idle) (hr : r.state = .final) :
    SameInside ((s.publishFinal l r).dropRun l)
      (((s.dropRunNeed l).modPdu l fun p => p.droppedFinal r).withLines (s.placeBall r)) := by
  obtain ⟨P, F, ht⟩ := eq_of_inside (s := (s.modPdu l fun p => { p with record := some r }).withLines (s.placeBall r))
    (inside_publishFinal s l r)
  have hd : Pdu.dropped { s.pdu.get l with record := some r } = (s.pdu.get l).droppedFinal r := by
    simp [Pdu.dropped, Pdu.droppedFinal, hr]
  have hrun : ({ (s.modPdu l fun p => { p with record := some r }).withLines (s.placeBall r) with
      ports := P, feeds := F }.pdu.get l).run ≠ .idle := by
    simpa [State.withLines] using h
  rw [ht, State.dropRun, if_neg hrun, sameInside_iff_inside]
  simp only [State.modPdu, State.dropRunNeed, State.modSensing, State.withLines, PerLane.get_set, PerLane.set_set, hd]
  rfl

end

/-! ### The machine of the lane, by its state (R62) -/

section
variable {s : State} {l : Lane}

theorem closedNow_ready (h : (s.psc.get l).state = .ready ∨ (s.psc.get l).state = .inPlay) : (s.closedNow l).psc.get l =
    (s.psc.get l).takes ⟨.full, .known allPins, .close⟩ .cycling s.settings.stepTimeouts.guardDown := by
  rw [closedNow_machine_active s l (by rcases h with h | h <;> simp [h])]
  rcases h with h | h <;> simp only [Pinsetter.closes, h] <;> rfl

theorem closedNow_cycling
    (h : (s.psc.get l).state = .cycling ∨ (s.psc.get l).state = .heldPit ∨ (s.psc.get l).state = .checking) :
    (s.closedNow l).psc.get l = { s.psc.get l with closingOwed := (s.psc.get l).recipe.isSome } := by
  rw [closedNow_machine_active s l (by rcases h with h | h | h <;> simp [h])]
  rcases h with h | h | h <;> simp only [Pinsetter.closes, h]

theorem closedNow_starting (h : (s.psc.get l).state = .starting ∨ (s.psc.get l).state = .standby) :
    ((s.closedNow l).psc.get l).state = .standby := by
  rcases h with h | h
  · rw [closedNow_machine_active s l (by simp [h])]
    simp only [Pinsetter.closes, h]
    rfl
  · exact closedNow_machine_standby s l h

theorem closedNow_resting
    (h : (s.psc.get l).state = .off ∨ (s.psc.get l).state = .fault ∨ (s.psc.get l).state = .service) :
    (s.closedNow l).psc.get l = s.psc.get l := by
  rw [closedNow_machine_active s l (by rcases h with h | h | h <;> simp [h])]
  rcases h with h | h | h <;> simp only [Pinsetter.closes, h]

end

/-! ### The sessions of the other lane (R148) -/

/-- The start of a machine leaves a session that does not run, and one whose pause the return already settles. -/
theorem paused_kept {x : Session} {f : ReturnState} (h : x.state = .locked ∨ x.state = .closing ∨ x.state = .opening
    ∨ (x.state = .paused ∧ f = .fault) ∨ ((x.state = .opened ∨ x.state = .overtime) ∧ f ≠ .fault)) :
    x.paused (f = .fault) = x := by
  rcases h with h | h | h | ⟨h, hf⟩ | ⟨h, hf⟩
  · exact paused_steady (by simp [h]) _
  · exact paused_steady (by simp [h]) _
  · exact paused_steady (by simp [h]) _
  · rw [decide_eq_true hf]
    exact paused_waiting h
  · rw [decide_eq_false hf]
    exact paused_running h false

/-- Between two states, a lane's machine in STANDBY has received an occupant with a game, for a session not CLOSED. -/
def State.Occupied (s t : State) (l : Lane) : Prop :=
  (s.psc.get l).state = .standby ∧ (s.sessions.get l).state ≠ .closed
    ∧ (s.lanes.get l).occupant ≠ (t.lanes.get l).occupant
    ∧ ∃ g, (t.lanes.get l).occupant = some g ∧ (t.groups.get g).inProgress = true

section
variable (s : State) (l : Lane)

theorem closedNow_inProgress (g : Slot) : ((s.closedNow l).groups.get g).inProgress = ((s.playClosed l).groups.get g).inProgress := by
  rw [closedNow_groups, State.placed]
  split <;> rfl

/-- What the close makes of the other lane's machine and session. -/
theorem closedNow_other :
    (¬ s.Occupied (s.closedNow l) (otherLane l) → (s.closedNow l).psc.get (otherLane l) = s.psc.get (otherLane l)
      ∧ (s.closedNow l).sessions.get (otherLane l) = s.sessions.get (otherLane l))
    ∧ (s.Occupied (s.closedNow l) (otherLane l) →
      (s.closedNow l).psc.get (otherLane l) = (s.psc.get (otherLane l)).starts s.settings.startTime
      ∧ (s.closedNow l).sessions.get (otherLane l) = (s.sessions.get (otherLane l)).paused (s.ret.state = .fault)) := by
  have ⟨_, hlanes, _⟩ := closedNow_play s l
  have hpsc : (s.playClosed l).psc = s.psc := (congrArg State.psc (playClosed_rest s l) :)
  have hsessions : (s.playClosed l).sessions = s.sessions := (congrArg State.sessions (playClosed_rest s l) :)
  have hsettings : (s.playClosed l).settings = s.settings := (congrArg State.settings (playClosed_rest s l) :)
  have hret : (s.playClosed l).ret = s.ret := (congrArg State.ret (playClosed_rest s l) :)
  have hiff : (s.playClosed l).Starts s (otherLane l) ↔ s.Occupied (s.closedNow l) (otherLane l) := by
    simp only [State.Starts, State.Occupied, hpsc, hsessions, hlanes, closedNow_inProgress]
  have h := closedNow_started s l
  rwa [State.Started, hiff, hpsc, hsessions, hsettings, hret] at h

/-! ### The groups (R95, R99, R101) -/

variable {s l} {g h j : Slot}

theorem placed_fields (r : Group) : (s.placed r).state = r.state ∧ (s.placed r).frozenFrom = r.frozenFrom
    ∧ (s.placed r).playMode = r.playMode := by
  unfold State.placed
  split <;> exact ⟨rfl, rfl, rfl⟩

/-- A group whose game does not end keeps all but its play mode, its state, the state it froze from and its position. -/
theorem closedNow_fixed (hj : ¬ s.Ended l j) : { (s.closedNow l).groups.get j with
    playMode := (s.groups.get j).playMode, state := (s.groups.get j).state, frozenFrom := (s.groups.get j).frozenFrom
    position := (s.groups.get j).position } = s.groups.get j := by
  rw [closedNow_groups]
  have hp := placed_but_position (s.playClosed l) ((s.playClosed l).groups.get j) (s.groups.get j).position
  have hf := playClosed_fixed hj
  generalize (s.playClosed l).placed _ = w at hp
  generalize (s.playClosed l).groups.get j = r at hp hf
  generalize s.groups.get j = o at hp hf
  calc { w with playMode := o.playMode, state := o.state, frozenFrom := o.frozenFrom, position := o.position }
    _ = { r with playMode := o.playMode, state := o.state, frozenFrom := o.frozenFrom, position := o.position } :=
      congrArg (fun w : Group => { w with playMode := o.playMode, state := o.state, frozenFrom := o.frozenFrom }) hp
    _ = o :=
      congrArg (fun r : Group => { r with
        playMode := o.playMode, state := o.state, frozenFrom := o.frozenFrom, position := o.position }) hf

theorem closedNow_playMode (hj : ¬ s.Crosses l j) : ((s.closedNow l).groups.get j).playMode = (s.groups.get j).playMode := by
  have ⟨_, _, hmode⟩ := placed_fields (s := s.playClosed l) ((s.playClosed l).groups.get j)
  rw [closedNow_groups, hmode, playClosed_playMode hj]

/-- The position of a PLAYING group follows its up line. -/
theorem closedNow_position (s : State) (l : Lane) (j : Slot) :
    let w := (s.closedNow l).groups.get j
    w.position = if w.state = .playing then ((s.closedNow l).upLine w).bind (positionIn w.order) else (s.groups.get j).position := by
  intro w
  let r := (s.playClosed l).groups.get j
  have hw : w = (s.playClosed l).placed r := closedNow_groups ..
  have ⟨hstate, _, horder, hframe⟩ := placed_keeps (s := s.playClosed l) r
  rw [← hw] at hstate horder hframe
  have ⟨_, _, _, hlines⟩ := closedNow_play s l
  have hup : (s.closedNow l).upLine w = (s.playClosed l).upLine r :=
    upLine_congr (fun i => by rw [State.line, State.line, hlines]) horder hframe
  rw [hup, hstate, horder, hw, State.placed]
  split
  · rfl
  · exact playClosed_position s l j

/-- The group whose game ends is IDLE and unfrozen, and keeps its position. -/
theorem closedNow_ended (hg : s.Ended l g) : (s.closedNow l).groups.get g = (s.groups.get g).abandoned
    ∧ (s.closedNow l).outbound = s.outbound.set g none := by
  obtain ⟨hown, hout⟩ := playClosed_ended hg
  have ⟨_, _, houtbound, _⟩ := closedNow_play s l
  rw [closedNow_groups, hown]
  exact ⟨placed_of_not_playing _ (by simp [Group.abandoned]), houtbound.trans hout⟩

theorem closedNow_still (hg : s.homeGroup l = some g) (he : (s.groups.get g).ends = false)
    (hs : (s.groups.get g).state ≠ .playing) (hw : ∀ m, (s.lanes.get m).waiter ≠ some g) :
    (s.closedNow l).groups.get g = s.groups.get g := by
  rw [closedNow_groups, playClosed_still hg he hw]
  exact placed_of_not_playing _ hs

theorem closedNow_outbound (hn : ∀ g, s.homeGroup l = some g → (s.groups.get g).ends = false) :
    (s.closedNow l).outbound = s.outbound := by
  have ⟨_, _, houtbound, _⟩ := closedNow_play s l
  rw [houtbound, playClosed_outbound, homeAbandoned_still (not_ended_of_none hn)]

theorem turned_eq {r : Group} (hr : r.playMode = .openPlay) : r.turned = r := by rw [Group.turned, ← hr]

/-- The group that turns changes to OPEN play. -/
theorem closedNow_turned (ht : s.Turns l h) : { (s.closedNow l).groups.get h with
    state := (s.groups.get h).state, frozenFrom := (s.groups.get h).frozenFrom, position := (s.groups.get h).position }
      = { s.groups.get h with playMode := .openPlay } := by
  have hmode : ((s.closedNow l).groups.get h).playMode = .openPlay := by
    have ⟨_, _, hkept⟩ := placed_fields (s := s.playClosed l) ((s.playClosed l).groups.get h)
    rw [closedNow_groups, hkept, playClosed_turns ht]
  have e := congrArg Group.turned (closedNow_fixed (not_ended_of_crosses ht.crosses))
  have hw : ((s.closedNow l).groups.get h).turned = (s.closedNow l).groups.get h := turned_eq hmode
  rw [← hw]
  exact e

theorem closedNow_holds (ht : s.Turns l h) (ho : (s.laneAfter l (otherLane l)).occupant = some h) (j : Lane) :
    (s.closedNow l).lanes.get j = s.laneAfter l j := by
  have ⟨_, hlanes, _⟩ := closedNow_play s l
  rw [hlanes, (playClosed_holds ht ho).1]

section
variable (ht : s.Turns l h) (ho : (s.laneAfter l (otherLane l)).occupant ≠ some h)
include ht ho

/-- The group that turns releases what it holds and asks for its home lane. -/
theorem closedNow_moves :
    (s.closedNow l).lanes.get (otherLane l) = ((s.laneAfter l (otherLane l)).released h).asked h
      ∧ (s.closedNow l).lanes.get l = (s.laneAfter l l).released h := by
  have ⟨_, hlanes, _⟩ := closedNow_play s l
  rw [hlanes]
  obtain ⟨hother, hown, -⟩ := playClosed_moves ht ho
  exact ⟨hother, hown⟩

theorem closedNow_moves_state :
    let a : GroupState := if ((s.laneAfter l (otherLane l)).released h).occupant = none then .playing else .waiting
    ((s.groups.get h).isFrozen = false → ((s.closedNow l).groups.get h).state = a)
      ∧ ((s.groups.get h).isFrozen = true → ((s.closedNow l).groups.get h).state = (s.groups.get h).state
        ∧ ((s.closedNow l).groups.get h).frozenFrom = some a) := by
  intro a
  have ⟨hstate, hfrom, _⟩ := placed_fields (s := s.playClosed l) ((s.playClosed l).groups.get h)
  rw [closedNow_groups, hstate, hfrom, (playClosed_moves ht ho).2.2]
  refine ⟨fun hf => becomes_state _ _ (mt (isFrozen_iff _).mpr (Bool.eq_false_iff.mp hf)), fun hf => ?_⟩
  rw [becomes_eq, if_pos ((isFrozen_iff _).mp hf)]
  exact ⟨rfl, rfl⟩

end

theorem closedNow_lanes (hn : ∀ h, ¬ s.Crosses l h) (j : Lane) : (s.closedNow l).lanes.get j = s.laneAfter l j := by
  have ⟨_, hlanes, _⟩ := closedNow_play s l
  rw [hlanes, playClosed_lanes hn]

/-- A group that takes a lane bowls, at once or on its resume. -/
theorem closedNow_took (hj : ¬ s.Ended l j) (hx : ¬ (s.Crosses l j ∧ (s.laneAfter l (otherLane l)).occupant ≠ some j)) :
    let o := s.groups.get j
    let w := (s.closedNow l).groups.get j
    (¬ s.Took (s.closedNow l) j → w.state = o.state ∧ w.frozenFrom = o.frozenFrom)
      ∧ (s.Took (s.closedNow l) j → o.isFrozen = false → w.state = .playing ∧ w.frozenFrom = o.frozenFrom)
      ∧ (s.Took (s.closedNow l) j → o.isFrozen = true → w.state = o.state ∧ w.frozenFrom = some .playing) := by
  intro o w
  have ⟨_, hlanes, _⟩ := closedNow_play s l
  have htook : s.Took (s.closedNow l) j ↔ s.Took (s.playClosed l) j := by rw [State.Took, State.Took, hlanes]
  obtain ⟨r, hr, hplays, hstays⟩ := playClosed_took hj hx
  have hw : w.state = r.state ∧ w.frozenFrom = r.frozenFrom := by
    have ⟨hstate, hfrom, _⟩ := placed_fields (s := s.playClosed l) ((s.playClosed l).groups.get j)
    have e : w = (s.playClosed l).placed _ := closedNow_groups ..
    rw [e, hstate, hfrom]
    rcases hr with e | e <;> rw [e] <;> exact ⟨rfl, rfl⟩
  rw [htook, hw.1, hw.2]
  refine ⟨fun hn => ?_, fun ht hf => ?_, fun ht hf => ?_⟩
  · rw [hstays hn]
    exact ⟨rfl, rfl⟩
  · rw [hplays ht, becomes_eq, if_neg (mt (isFrozen_iff _).mpr (Bool.eq_false_iff.mp hf))]
    exact ⟨rfl, rfl⟩
  · rw [hplays ht, becomes_eq, if_pos ((isFrozen_iff _).mp hf)]
    exact ⟨rfl, rfl⟩

/-! ### A close that reaches no group -/

section
variable (hplay : s.playClosed l = s)
include hplay

/-- Where play stays, a machine in STANDBY does too. -/
theorem closedNow_standby (h : (s.psc.get l).state = .standby) : (s.closedNow l).psc.get l = s.psc.get l := by
  obtain ⟨hstill, -⟩ := announce_started (s.playClosed l) s l
  rw [hplay] at hstill
  have e : (s.gtCloseNow l).psc.get l = s.psc.get l := by
    rw [gtCloseNow_eq, hplay]
    exact (hstill fun ⟨_, _, hmoved, _⟩ => hmoved rfl).1
  rw [closedNow_machine, e]
  simp only [Pinsetter.closes, h]

/-- Where play stays and no group bowls, a close now reaches the lane's machine and session alone. -/
theorem closedNow_untouched (hplays : ∀ g, (s.groups.get g).state ≠ .playing) : SameInside (s.closedNow l) { s with
    sessions := s.sessions.set l ((s.closedNow l).sessions.get l), psc := s.psc.set l ((s.closedNow l).psc.get l) } := by
  have ⟨hgroups, hlanes, hout, _⟩ := closedNow_play s l
  have hplaced : s.withPositions.groups = s.groups := PerSlot.ext_get fun g => by
    rw [withPositions_groups, placed_of_not_playing _ (hplays g)]
  have hstill : ¬ s.Occupied (s.closedNow l) (otherLane l) := fun ⟨_, _, hmoved, _⟩ => hmoved (by rw [hlanes, hplay])
  obtain ⟨hpsc, hsessions⟩ := (closedNow_other s l).1 hstill
  have alone {α : Type} {p q : PerLane α} (h : q.get (otherLane l) = p.get (otherLane l)) : q = p.set l (q.get l) :=
    PerLane.ext_get fun m => by
      by_cases hm : m = l
      · rw [hm, PerLane.get_set]
      · rw [PerLane.get_set_of_ne _ hm, eq_otherLane hm, h]
  have e := closedNow_sameInside s l
  rw [hgroups, hlanes, hout, hplay, hplaced] at e
  rwa [← alone hpsc, ← alone hsessions]

end

end

end Sys2Proof.Machine
end

section
/-! Sessions and billing (chapter 8): the close now, as it is answered (R158). -/
namespace Sys2Proof.Machine

/-! ### The request (R158) -/

section
variable {s : State} {l : Lane}

theorem closeNow_eq :
    closeNow l s = ((s.closeRun l).closedNow l, .ok (finalMeter (((s.closeRun l).closedNow l).sessions.get l).meter)) := rfl

/-- A close now is served, and leaves the end of the run, then the rest of the close. -/
theorem exec_closeNow {tag : Tag} {lane : Nat} (hi : LinkIdle s .desk) (hl : laneOf lane = some l)
    (hx : (s.sessions.get l).state ≠ .closed) {v : State}
    (hv : State.inside ((s.queuedUp .desk tag (.closeSession lane 1)).closeRun l) = State.inside v) :
    ∃ P F, let a : State := { v with ports := P, feeds := F }
      exec (.closeSession .desk tag lane 1) s = .next ((a.closedNow l).answered .desk tag (.closeSession lane 1)
        (.ok (finalMeter (settledMeter (v.sessions.get l).meter)))) := by
  let q := s.queuedUp .desk tag (.closeSession lane 1)
  obtain ⟨P, F, ha⟩ := eq_of_inside hv
  have hq : handle .desk (.closeSession lane 1) q = _ := (handleCloseSession_now (s := q) hl hx).trans closeNow_eq
  rw [ha, closedNow_session] at hq
  obtain ⟨u, he, hu⟩ := State.serves_with' (P := fun u => u = State.closedNow { v with ports := P, feeds := F } l)
    (i := .closeSession .desk tag lane 1) rfl hi rfl nofun nofun ⟨_, hq, rfl⟩
  subst hu
  exact ⟨P, F, he⟩

end

theorem SameInside.links {t u : State} (h : SameInside t u) (P : PerLink Port) (F : PerLane Feed) :
    SameInside t { u with ports := P, feeds := F } := (sameInside_iff_inside t _).mpr ((sameInside_iff_inside t u).mp h)

/-- What changes of play, of machines and of sessions leave, where link ports and monitor feeds have changed before. -/
theorem sameInside_play {t v : State} {P : PerLink Port} {F : PerLane Feed}
    (h : SameInside t { ({ v with ports := P, feeds := F } : State) with
      sessions := t.sessions, psc := t.psc, groups := t.groups, lanes := t.lanes, outbound := t.outbound }) :
    SameInside t { v with
      sessions := t.sessions, psc := t.psc, groups := t.groups, lanes := t.lanes, outbound := t.outbound } :=
  h.links v.ports v.feeds

/-- Settles O22, by the run of the lane's PDU: the close is that of the state in which the run has ended. -/
theorem closeNowSettlesTheMeter : Obligations.CloseNowSettlesTheMeter := by
  unfold Obligations.CloseNowSettlesTheMeter
  refine ⟨fun tag lane l s hi hl hx _ hrun hnone hcross hplays => ?_, fun tag lane l s hi hl hx => ?_⟩
  · intro x m p
    let q := s.queuedUp .desk tag (.closeSession lane 1)
    obtain ⟨P, F, he⟩ := exec_closeNow hi hl hx (congrArg State.inside (closeRun_idle (s := q) hrun))
    let a : State := { q with ports := P, feeds := F }
    have hsettled := closedNow_session a l
    have hplay : a.playClosed l = a := playClosed_none (fun g hg => nomatch hnone.symm.trans hg.1) fun h ht => hcross h ht.1 ht.2
    refine ⟨a.closedNow l, he, hsettled, fun h => ?_, fun h hr => ?_, fun h => ?_, fun h => ?_, ?_⟩
    · rw [closedNow_ready (s := a) h]
      exact ⟨rfl, rfl, rfl⟩
    · rw [closedNow_cycling (s := a) h]
      exact congrArg (fun b => { p with closingOwed := b }) (Option.isSome_iff_ne_none.mpr hr)
    · exact closedNow_starting (s := a) (.inl h)
    · rcases h with h | h | h | h
      · exact closedNow_resting (s := a) (.inl h)
      · exact closedNow_standby hplay h
      · exact closedNow_resting (s := a) (.inr (.inl h))
      · exact closedNow_resting (s := a) (.inr (.inr h))
    · exact (closedNow_untouched hplay hplays).links s.ports s.feeds
  · intro p other dropped closes
    let q := s.queuedUp .desk tag (.closeSession lane 1)
    have settles (v : State) (hv : State.inside (q.closeRun l) = State.inside v) : closes v := by
      obtain ⟨P, F, he⟩ := exec_closeNow hi hl hx hv
      let a : State := { v with ports := P, feeds := F }
      obtain ⟨hstill, hstarts⟩ := closedNow_other a l
      exact ⟨a.closedNow l, he, closedNow_session a l, closedNow_ready (s := a), closedNow_cycling (s := a),
        closedNow_starting (s := a), closedNow_resting (s := a),
        fun g hg => ⟨fun h => closedNow_ended (s := a) ⟨hg, h⟩, closedNow_still (s := a) hg⟩, closedNow_outbound (s := a),
        fun h ht => ⟨closedNow_turned (s := a) ht, closedNow_holds (s := a) ht, fun ho =>
          have ⟨hother, hown⟩ := closedNow_moves (s := a) ht ho
          ⟨hother, hown, (closedNow_moves_state (s := a) ht ho).1⟩⟩,
        closedNow_lanes (s := a), fun h ht ho => (closedNow_moves_state (s := a) ht ho).2,
        fun j => ⟨closedNow_position a l j, closedNow_playMode (s := a), closedNow_fixed (s := a), closedNow_took (s := a)⟩,
        ⟨hstill, fun h => (hstarts h).1, fun h hy => (hstarts h).2.trans (paused_kept hy)⟩,
        sameInside_play (closedNow_sameInside a l)⟩
    refine ⟨fun h => settles s ?_, fun h => settles _ ?_, fun h old hr => ?_⟩
    · rw [closeRun_idle (s := q) h]
      rfl
    · rw [closeRun_drops (s := q) (by rcases h with h | h | h | h | h <;> exact ne_of_eq_of_ne h nofun)
        (by rcases h with h | h | h | h | h <;> exact ne_of_eq_of_ne h nofun)]
      rfl
    · intro r
      refine ⟨_, (q.publishFinal l r).dropRun l, rfl, ?_, settles _ (congrArg State.inside (closeRun_settled (s := q) h hr))⟩
      have hrun : (q.pdu.get l).run ≠ .idle := ne_of_eq_of_ne h nofun
      have hplace : q.placeBall r = q.withLines (s.placeBall r) := placeBall_congr (s := s) (t := q) rfl rfl rfl rfl r
      have e := sameInside_finalDropped (s := q) (r := r) hrun rfl
      rw [hplace, sameInside_iff_inside] at e
      rw [sameInside_iff_inside, e]
      rfl

end Sys2Proof.Machine
end
